-- ==== Sys2Proof/Word.lean ====
section
/-! DEFINITION. The word types of the bridge: bytes, addresses, sequence numbers, epochs, line masks and line data
(spec 00_scope.md "Conventions", R1, R29, R153). Only types stand here; every computation on them is in
Machine/Fields.lean. -/

namespace Sys2Proof

/-- A byte of a frame, of a maintenance transaction or of memory. -/
abbrev Byte := BitVec 8

/-- A 32-bit byte address (00_scope.md, "Addresses"). -/
abbrev Addr := BitVec 32

/-- A 16-bit sequence number, which wraps (R1). -/
abbrev Seq := BitVec 16

/-- An 8-bit session epoch; 0 means "no session" (R1). -/
abbrev Epoch := BitVec 8

/-- Sixty-four byte flags, flag k for byte k of the line (R29, R153). -/
abbrev Mask := BitVec 64

/-- The index of a line within a window, 0 to 2^22 - 1 (R29). -/
abbrev LineIndex := BitVec 22

/-- The 64 bytes of a line, byte k at index k (R29). -/
abbrev LineData := Vector Byte 64

/-- The number of an outbound window, an inbound entry, or a pair of them: 0 to 7 (R2, R4). -/
abbrev WinId := Fin 8

end Sys2Proof
end

