-- ==== Sys2Proof/Config.lean ====
section
/-! DEFINITION. What is fixed for the part (capacities and the fixed timer loads of the spec) and the values the spec
leaves open. An open value is an opaque constant, so nothing can be proved about which value it is; the machine applies
it to the counter `State.drawn`, which it then advances. -/

namespace Sys2Proof.Config

/-- Records and reservations the replay queue has room for (R31, R32). -/
abbrev replaySlots : Nat := 64

/-- COPY records the replay queue may hold (R129). -/
abbrev copyShare : Nat := 16

/-- Entries the apply queue may hold (R105). -/
abbrev applySlots : Nat := 16

/-- Occupancy that sets the promotion flag (R115). -/
abbrev promoteAt : Nat := 12

/-- Occupancy that clears the promotion flag (R115). -/
abbrev demoteAt : Nat := 4

/-- Grants to other clients after which a waiting copy request goes first (R172, R174). -/
abbrev copyFloorMax : Nat := 32

/-- Pending fences the fence list may hold (R140). -/
abbrev fenceSlots : Nat := 4

/-- Entries the fence result log may hold (R147). -/
abbrev logSlots : Nat := 8

/-- HELLO frames sent in one exchange at most (R59). -/
abbrev helloAttempts : Nat := 16

/-- Load of the training timer, in microseconds (R57: 10 ms). -/
abbrev trainingTime : Nat := 10000

/-- Load of the holdoff timer, in microseconds (R58: 2 ms). -/
abbrev holdoffTime : Nat := 2000

/-- Load of the HELLO interval timer, in microseconds (R59: 1 ms). -/
abbrev helloIntervalTime : Nat := 1000

/-- The initial limit a HELLO carries (R59, R210). -/
abbrev initialLimit : Seq := 15

/-- The sequence value that stands for "none yet" (R1). -/
abbrev seqNone : Seq := 65535

/-- The level of the NODE_ID straps when the part first leaves pin reset: the board decides it (R53). -/
opaque nodeIdStrap : BitVec 4

/-- What the bytes of a new WRITE record hold where its mask flag is clear: the spec calls only the masked bytes
meaningful (R29) and still sends all 64 (R210). A free value, one per draw. -/
opaque unmaskedBytes : Nat → LineData

/-- Whether the fence unit takes a session end before the window tables' reports of it reach the fence list: R68 gives
the blocks no order (R144). A free value, one per draw. -/
opaque fenceUnitFirst : Nat → Bool

/-- The bytes that the ERR completion of a malformed READ carries: they have no meaning (R155, R156). A free value, one
per draw. -/
opaque malformedBytes : Nat → LineData

end Sys2Proof.Config
end

