-- ==== Sys2Proof/Syntax.lean ====
section
/-! DEFINITION. The commands of the bridge: one constructor per row of spec/opcode_table.json, with the row's operands.
A maintenance command's operands are the fields of its request in the order of R212 and the request CRC byte, because
the row is the completion of that byte (R197). A received frame's operands are its fields as the wire carries them
(R210). -/

namespace Sys2Proof

/-- The result of a completion on a memory port (R155). -/
inductive Result where
  | ok
  | err
  deriving DecidableEq, Repr

/-- The direction of a memory transaction, with what only a WRITE carries (R153): its byte mask and its bytes, placed
at their positions in the line. -/
inductive Access where
  | read
  | write (mask : Mask) (data : LineData)
  deriving DecidableEq, Repr

/-- A transaction of the memory transaction bus (R153). `length` may lie outside 1 to 64: such an offer is not
well-formed (R156). -/
structure Txn where
  access : Access
  addr : Addr
  length : Nat
  deriving DecidableEq, Repr

/-- The commands, in the order of the opcode table. -/
inductive Instr where
  -- maintenance commands: window tables
  | winConfig (w : Byte) (base : BitVec 32) (length mapOffset : BitVec 16) (policy autoResync crc : Byte)
  | winEnable (w mode crc : Byte)
  | winDisable (w crc : Byte)
  | winResync (w crc : Byte)
  | winHalt (w crc : Byte)
  | winResume (w crc : Byte)
  | winMark (w : Byte) (first count : BitVec 16) (crc : Byte)
  | winStatus (w crc : Byte)
  | inConfig (i : Byte) (base length : BitVec 32) (guard crc : Byte)
  | inEnable (i crc : Byte)
  | inDisable (i crc : Byte)
  | inStatus (i crc : Byte)
  -- maintenance commands: link, fences, alerts, counters, parameters
  | linkEnable (crc : Byte)
  | linkDisable (crc : Byte)
  | linkStatus (crc : Byte)
  | fence (tag crc : Byte)
  | fenceLog (clear crc : Byte)
  | alertRead (crc : Byte)
  | alertEnable (window link fence integrity crc : Byte)
  | causeRead (category crc : Byte)
  | causeClear (category : Byte) (list : BitVec 32) (crc : Byte)
  | countersRead (clear crc : Byte)
  | getParam (word crc : Byte)
  | setParam (word : Byte) (value : BitVec 16) (crc : Byte)
  | resetMirror (crc : Byte)
  -- the maintenance port's other events
  | unknownCommand (code : Byte)
  | mcsNFall
  | mcsNRise
  -- pin reset and the fence lines
  | resetNAssert
  | resetNRelease (nodeId : BitVec 4)
  | fenceReqRise
  | fenceReqFall
  -- the memory ports and the capture unit
  | upstreamOffer (t : Txn)
  | passThroughComplete (r : Result) (bytes : LineData)
  | localWriteComplete (r : Result)
  | stallTimerExpiry
  | confirmTimerExpiry
  | mergeTimerExpiry
  -- the link controller
  | aligned
  | lost
  | trainingTimerExpiry
  | holdoffTimerExpiry
  | helloIntervalExpiry
  | helloReceived (proposal nodeId : Byte) (limit : Seq)
  | helloAckReceived (agreed nodeId : Byte)
  | livenessExpiry
  | keepaliveExpiry
  | goodbyeReceived (epoch reason : Byte)
  | undefinedFrame (typeCode epoch : Byte)
  | badCrcFrame
  -- the receive checker and the transmit scheduler
  | dataReceived (epoch : Byte) (seq : Seq) (kind window : BitVec 4) (line : BitVec 24) (mask : Mask) (data : LineData)
  | ackReceived (epoch : Byte) (ackedThrough limit : Seq) (reason : Byte) (rejectSeq : Seq)
  | nakReceived (epoch : Byte) (expected : Seq)
  | ackTimerExpiry
  -- the transmit lanes
  | transmitData
  | transmitAck
  | transmitNak
  | transmitHello
  | transmitHelloAck
  | transmitGoodbye
  | frameEnd
  -- the apply unit and the resync engine
  | applyWriteComplete (r : Result)
  | ackDelayExpiry
  | copyReadComplete (r : Result) (bytes : LineData)
  -- a byte on the maintenance port
  | maintenanceByteComplete (b : Byte)
  deriving DecidableEq, Repr

end Sys2Proof
end

