-- ==== Sys2Proof/WellFormed.lean ====
section
/-! DEFINITION. Which terms of `Instr` are commands of the table at all. Almost every operand is a raw field of a frame
or of a request, where every value may arrive; two rows name a code that must be undefined, and a row that names a
defined one contradicts itself. -/

namespace Sys2Proof

/-- The 25 command codes of R212. -/
def commandCodes : List Byte :=
  [0x10, 0x11, 0x12, 0x13, 0x14, 0x15, 0x16, 0x17, 0x18, 0x19, 0x1A, 0x1B,
   0x20, 0x21, 0x22, 0x30, 0x31, 0x40, 0x41, 0x42, 0x43, 0x44, 0x50, 0x51, 0x52]

/-- The six frame type codes of R210. -/
def frameTypes : List Byte := [0x01, 0x02, 0x03, 0x10, 0x11, 0x12]

/-- A command of the table: UNKNOWN_COMMAND carries an undefined command code (R196, R212), and UNDEFINED_FRAME an
undefined type code (R64, R210). -/
def Instr.wf : Instr → Bool
  | .unknownCommand code => !commandCodes.contains code
  | .undefinedFrame typeCode _ => !frameTypes.contains typeCode
  | .winConfig .. | .winEnable .. | .winDisable .. | .winResync .. | .winHalt .. | .winResume .. | .winMark ..
  | .winStatus .. | .inConfig .. | .inEnable .. | .inDisable .. | .inStatus .. | .linkEnable ..
  | .linkDisable .. | .linkStatus .. | .fence .. | .fenceLog .. | .alertRead .. | .alertEnable ..
  | .causeRead .. | .causeClear .. | .countersRead .. | .getParam .. | .setParam .. | .resetMirror ..
  | .mcsNFall .. | .mcsNRise .. | .resetNAssert .. | .resetNRelease .. | .fenceReqRise .. | .fenceReqFall ..
  | .upstreamOffer .. | .passThroughComplete .. | .localWriteComplete .. | .stallTimerExpiry ..
  | .confirmTimerExpiry .. | .mergeTimerExpiry .. | .aligned .. | .lost .. | .trainingTimerExpiry ..
  | .holdoffTimerExpiry .. | .helloIntervalExpiry .. | .helloReceived .. | .helloAckReceived ..
  | .livenessExpiry .. | .keepaliveExpiry .. | .goodbyeReceived .. | .badCrcFrame .. | .dataReceived ..
  | .ackReceived .. | .nakReceived .. | .ackTimerExpiry .. | .transmitData .. | .transmitAck ..
  | .transmitNak .. | .transmitHello .. | .transmitHelloAck .. | .transmitGoodbye .. | .frameEnd ..
  | .applyWriteComplete .. | .ackDelayExpiry .. | .copyReadComplete .. | .maintenanceByteComplete .. => true

end Sys2Proof
end

