-- ==== Sys2Proof/Decode.lean ====
section
/-! DEFINITION. The command a word spells by the bits of spec/opcode_table.json. No row of this block's table gives
bits (every row's "fields" is empty), so no word spells a command. How a peer-link frame's bytes and a maintenance
request's bytes spell their rows is in Machine/Operands.lean (`receive`, `Request.parse`). -/

namespace Sys2Proof

/-- The command a table word spells: none, since no row of the table has bits. -/
def decodeTableWord (_nbits _w : Nat) : Option Instr := none

end Sys2Proof
end

