-- ==== Sys2Proof/Machine/State.lean ====
section
/-! DEFINITION. The state of the bridge, block by block, as plain data, and the state after pin reset. Every piece of
state the spec names has one home here (INVENTORY.md, "State"); a field the model adds is marked so. -/

namespace Sys2Proof.Machine

/-! ### Outcomes -/

/-- Reasons to stop with a fault. The spec gives every event an outcome, so there is none (NOTES.md, "Stops"). -/
inductive Fault where
  deriving DecidableEq, Repr

/-- Reasons to refuse a command. -/
inductive Refusal where
  /-- A row that has no meaning yet, raised by `exec`'s own arm only. Safe: the model stops where the part goes on. -/
  | notModelled (mnemonic : String)
  deriving DecidableEq, Repr

/-! ### Window tables (R2, R4) -/

/-- How far the peer's copy of an outbound window can be trusted (R2, R16). -/
inductive WinState where
  | off
  | active
  | degraded
  | resync
  | halted
  deriving DecidableEq, Repr

/-- Why the partner did not write a record (R105). -/
inductive RejectReason where
  | range
  | disabled
  | memory
  deriving DecidableEq, Repr

/-- Why an outbound window is HALTED (R2). -/
inductive HaltCause where
  | reject (reason : RejectReason)
  | copyReadError
  | command
  deriving DecidableEq, Repr

/-- When a captured upstream write completes (R2). -/
inductive Policy where
  | posted
  | confirmed
  deriving DecidableEq, Repr

/-- An entry of the outbound window table (R2). `length`, `mapOffset`, `cursor` and `dirtyCount` count segments. -/
structure OutWindow where
  base : Addr
  length : Nat
  mapOffset : Nat
  policy : Policy
  autoResync : Bool
  state : WinState
  haltCause : Option HaltCause
  cursor : Nat
  dirtyCount : Nat
  deriving DecidableEq, Repr

/-- An entry of the inbound window table (R4); `length` is in bytes. -/
structure InWindow where
  base : Addr
  length : BitVec 32
  enabled : Bool
  guard : Bool
  deriving DecidableEq, Repr

/-! ### Replay queue and capture unit (R29 to R41) -/

inductive RecordKind where
  | write
  | copy
  deriving DecidableEq, Repr

/-- OPEN, READY, SENT (R29). -/
inductive RecordState where
  | opened
  | ready
  | sent
  deriving DecidableEq, Repr

/-- One line's worth of mirrored data (R29). -/
structure Record where
  seq : Seq
  kind : RecordKind
  window : WinId
  line : LineIndex
  mask : Mask
  data : LineData
  state : RecordState
  waiter : Bool
  segmentEnd : Bool
  deriving DecidableEq, Repr

/-- The replay queue, oldest record first (R31), with the send pointer (R37) and the merge timer (R36). A timer is
absent when stopped, and else holds the value it was loaded with. -/
structure ReplayQueue where
  records : List Record
  nextSeq : Seq
  sendPtr : Seq
  mergeTimer : Option Nat
  deriving DecidableEq, Repr

inductive CapturePhase where
  | slotWait
  | localWrite
  | confirmWait
  deriving DecidableEq, Repr

inductive CapturePath where
  | record
  | mergeOnly
  | noRecord
  deriving DecidableEq, Repr

/-- The capture context (R41). -/
structure Capture where
  window : WinId
  line : LineIndex
  phase : CapturePhase
  path : Option CapturePath
  reservation : Bool
  sessionEnded : Bool
  stallTimer : Option Nat
  confirmTimer : Option Nat
  deriving DecidableEq, Repr

/-! ### Memory path and downstream arbiter (R153 to R156, R171) -/

/-- The class of an upstream transaction (R156, R157); a CAPTURE carries its window and line index. -/
inductive TxnClass where
  | passThrough
  | capture (window : WinId) (line : LineIndex)
  | refused
  deriving DecidableEq, Repr

/-- The upstream transaction in progress (R156). -/
structure UpTxn where
  txn : Txn
  cls : TxnClass
  released : Bool
  deriving DecidableEq, Repr

/-- A completion given upstream (R155); bytes only for a READ, the span's at their positions in the line (log 37). -/
structure Completion where
  result : Result
  bytes : Option LineData
  deriving DecidableEq, Repr

/-- The memory path. `offer` is an offer that stands and is not yet accepted (R154); `completions` are those the port has
given since the last offer was made, oldest first (the model's own record of an output, log 13). -/
structure MemoryPath where
  txn : Option UpTxn
  offer : Option Txn
  completions : List Completion
  deriving DecidableEq, Repr

/-- The clients of the downstream arbiter: foreground, apply, copy (R170). -/
inductive Client where
  | fg
  | ap
  | cp
  deriving DecidableEq, Repr

/-- The access that holds the downstream port. -/
structure PortAccess where
  client : Client
  txn : Txn
  deriving DecidableEq, Repr

/-- The downstream arbiter (R171): the port (free when absent), the requests presented and not yet granted, and
copy_floor. -/
structure Arbiter where
  port : Option PortAccess
  fg : Option Txn
  ap : Option Txn
  cp : Option Txn
  copyFloor : Nat
  deriving DecidableEq, Repr

/-! ### Link controller and transmit lanes (R52, R53, R80) -/

inductive LinkState where
  | off
  | training
  | hello
  | up
  | down
  | fault
  deriving DecidableEq, Repr

/-- The cause of a session end (R67). -/
inductive DownCause where
  | liveness
  | lost
  | retry
  | protocol
  | peerGoodbye
  | command
  | resetMirror
  deriving DecidableEq, Repr

/-- What the partner's HELLO carried (R53, R60); the node id is the byte received (R210). -/
structure PeerHello where
  proposal : Byte
  nodeId : Byte
  limit : Seq
  deriving DecidableEq, Repr

/-- The link controller (R53). `proposal`, `attempts` and `peerHello` are the HELLO record. -/
structure LinkController where
  state : LinkState
  enabled : Bool
  nodeId : BitVec 4
  epoch : Epoch
  lastEpoch : Epoch
  lastDown : Option DownCause
  peerReason : Option DownCause
  proposal : Epoch
  attempts : Nat
  peerHello : Option PeerHello
  training : Option Nat
  holdoff : Option Nat
  helloInterval : Option Nat
  liveness : Option Nat
  keepalive : Option Nat
  deriving DecidableEq, Repr

/-- A peer-link frame as this bridge forms it (R210). A reject in an ACK carries the ACK's own acked_through as its
sequence number (R110). -/
inductive Frame where
  | data (epoch : Epoch) (seq : Seq) (kind : RecordKind) (window : WinId) (line : LineIndex) (mask : Mask)
      (bytes : LineData)
  | ack (epoch : Epoch) (ackedThrough limit : Seq) (reject : Option RejectReason)
  | nak (epoch : Epoch) (expected : Seq)
  | hello (proposal : Epoch) (nodeId : BitVec 4) (limit : Seq)
  | helloAck (agreed : Epoch) (nodeId : BitVec 4)
  | goodbye (epoch : Epoch) (reason : DownCause)
  deriving DecidableEq, Repr

/-- A control frame owed to the transmit lanes and not yet begun (R80, R106), with the contents fixed by the block that
owes it. -/
inductive Owed where
  | ack (ackedThrough limit : Seq) (reject : Option RejectReason)
  | nak (expected : Seq)
  | hello
  | helloAck (agreed : Epoch)
  deriving DecidableEq, Repr

/-- The transmit lanes: the frame in progress, the owed frames in the order they became owed, and an owed GOODBYE. -/
structure Lanes where
  frame : Option Frame
  owed : List Owed
  goodbye : Option (Epoch × DownCause)
  deriving DecidableEq, Repr

/-! ### Transmit scheduler, receive checker, apply unit (R75, R97, R106) -/

structure Scheduler where
  ackedThrough : Seq
  sendLimit : Seq
  sentHigh : Seq
  rounds : Nat
  ackTimer : Option Nat
  deriving DecidableEq, Repr

structure Checker where
  expected : Seq
  nakOutstanding : Bool
  deriving DecidableEq, Repr

/-- An entry of the apply queue (R105). Its reject reason is absent until the entry is applied. -/
structure ApplyEntry where
  seq : Seq
  kind : RecordKind
  window : WinId
  line : LineIndex
  mask : Mask
  data : LineData
  reject : Option RejectReason
  deriving DecidableEq, Repr

/-- IDLE, CHECK, WRITING, BLOCKED (R106). CHECK is passed through within a step. -/
inductive ApplyState where
  | idle
  | check
  | writing
  | blocked
  deriving DecidableEq, Repr

/-- The apply unit (R106). Its owed ACK list is the ACKs of `Lanes.owed`. `writeIgnored` marks a granted apply write
whose result R118 says is ignored. -/
structure ApplyUnit where
  queue : List ApplyEntry
  state : ApplyState
  epoch : Epoch
  appliedThrough : Seq
  unreported : Nat
  ackDelay : Option Nat
  advertised : Seq
  promotion : Bool
  lastEpoch : Epoch
  lastApplied : Seq
  drained : Bool
  writeIgnored : Bool
  deriving DecidableEq, Repr

/-! ### Resync engine (R125) -/

inductive EngineState where
  | idle
  | select
  | copying
  | draining
  deriving DecidableEq, Repr

inductive ReadState where
  | absent
  | requested
  | granted
  deriving DecidableEq, Repr

/-- The current segment (R125). -/
structure Segment where
  window : WinId
  index : Nat
  nextLine : Nat
  lastSeq : Option Seq
  redirtied : Bool
  deriving DecidableEq, Repr

/-- The resync engine (R125). `readDropped` marks a granted read whose segment was abandoned (R135, R136). -/
structure ResyncEngine where
  state : EngineState
  current : Option Segment
  lastServed : WinId
  read : ReadState
  readDropped : Bool
  reservation : Bool
  deriving DecidableEq, Repr

/-! ### Fence unit (R140, R147, R149) -/

/-- Where a fence came from; a PORT fence carries its tag (R140). -/
inductive FenceSource where
  | line
  | port (tag : Byte)
  deriving DecidableEq, Repr

structure Fence where
  ticket : Seq
  source : FenceSource
  degraded : Bool
  deriving DecidableEq, Repr

/-- An entry of the result log (R147). `done` is DONE, else FAILED. -/
structure LogEntry where
  tag : Byte
  ticket : Option Seq
  done : Bool
  degraded : Bool
  deriving DecidableEq, Repr

inductive Handshake where
  | idle
  | waiting
  | pending
  | answered
  deriving DecidableEq, Repr

structure FenceUnit where
  fences : List Fence
  log : List LogEntry
  handshake : Handshake
  ack : Bool
  clean : Bool
  deriving DecidableEq, Repr

/-! ### Alert unit and counters (R182, R190) -/

inductive Category where
  | window
  | link
  | fence
  | integrity
  deriving DecidableEq, Repr

/-- The 35 causes (R182). -/
inductive Cause where
  | degradedEntered (w : WinId)
  | haltedEntered (w : WinId)
  | synced (w : WinId)
  | linkUp
  | linkDown
  | linkFault
  | fenceDone
  | fenceFailed
  | crcError
  | protocolError
  | limitViolation
  | localMemoryError
  | guardRefusal
  | rejectSent
  deriving DecidableEq, Repr

/-- The detail flags of the four categories, at the bit positions of R212. -/
structure Details where
  window : BitVec 24
  link : BitVec 3
  fence : BitVec 2
  integrity : BitVec 6
  deriving DecidableEq, Repr

/-- The alert unit (R182): bit c of `summary` and `enables` is the category of code c (R212); `asserted` is the level
of ALERT_N. -/
structure AlertUnit where
  detail : Details
  summary : BitVec 4
  enables : BitVec 4
  asserted : Bool
  deriving DecidableEq, Repr

/-- The fourteen counters, in the order of R190. -/
inductive Counter where
  | crcErrors
  | staleFrames
  | duplicates
  | outOfOrder
  | naksSent
  | naksReceived
  | retransmitRounds
  | rejectsSent
  | rejectsReceived
  | limitViolations
  | sessions
  | guardRefusals
  | stallExpiries
  | localErrors
  deriving DecidableEq, Repr

/-! ### Maintenance port and pins (R194, R202) -/

/-- The ten parameter words, each in its unit (R202). -/
structure Params where
  segmentSize : BitVec 16
  mergeTime : BitVec 16
  stallLimit : BitVec 16
  confirmTimeout : BitVec 16
  ackTimeout : BitVec 16
  ackDelay : BitVec 16
  ackBatch : BitVec 16
  keepalive : BitVec 16
  liveness : BitVec 16
  retryLimit : BitVec 16
  deriving DecidableEq, Repr

/-- The state of the maintenance transaction (R194). RECEIVING holds the command byte, the argument bytes so far and the
count of bits of the byte being shifted, which is 0 whenever a row is taken, since rows end at byte boundaries.
RESPONDING holds the response and how many of its bytes have been shifted out. -/
inductive Port where
  | idle
  | ignoring
  | receiving (command : Option Byte) (args : List Byte) (bits : Nat)
  | refusing
  | responding (response : List Byte) (shifted : Nat)
  | trailing
  deriving DecidableEq, Repr

/-- The levels of the input pins the spec's rules look at, and the byte MSDO shifted out last (absent when
high-impedance), the model's own output latch. -/
structure Pins where
  resetAsserted : Bool
  mcsHigh : Bool
  fenceReq : Bool
  msdo : Option Byte
  deriving DecidableEq, Repr

/-! ### The machine -/

/-- The whole bridge. `pending` is the queue of commands waiting, and `drawn` counts the free values drawn so far; both
are the model's own. -/
structure State where
  pending : List Instr
  drawn : Nat
  pins : Pins
  port : Port
  params : Params
  out : Vector OutWindow 8
  inb : Vector InWindow 8
  rq : ReplayQueue
  cu : Option Capture
  mp : MemoryPath
  da : Arbiter
  lc : LinkController
  lanes : Lanes
  ts : Scheduler
  rc : Checker
  au : ApplyUnit
  dm : BitVec 4096
  re : ResyncEngine
  fu : FenceUnit
  al : AlertUnit
  counters : Vector (BitVec 16) 14
  deriving DecidableEq, Repr

namespace State

/-! One setter per field, so that a later proof never meets a record update (lemmas in Laws/State.lean). -/

def setPending (s : State) (x : List Instr) : State := { s with pending := x }
def setDrawn (s : State) (x : Nat) : State := { s with drawn := x }
def setPins (s : State) (x : Pins) : State := { s with pins := x }
def setPort (s : State) (x : Port) : State := { s with port := x }
def setParams (s : State) (x : Params) : State := { s with params := x }
def setOut (s : State) (x : Vector OutWindow 8) : State := { s with out := x }
def setInb (s : State) (x : Vector InWindow 8) : State := { s with inb := x }
def setRq (s : State) (x : ReplayQueue) : State := { s with rq := x }
def setCu (s : State) (x : Option Capture) : State := { s with cu := x }
def setMp (s : State) (x : MemoryPath) : State := { s with mp := x }
def setDa (s : State) (x : Arbiter) : State := { s with da := x }
def setLc (s : State) (x : LinkController) : State := { s with lc := x }
def setLanes (s : State) (x : Lanes) : State := { s with lanes := x }
def setTs (s : State) (x : Scheduler) : State := { s with ts := x }
def setRc (s : State) (x : Checker) : State := { s with rc := x }
def setAu (s : State) (x : ApplyUnit) : State := { s with au := x }
def setDm (s : State) (x : BitVec 4096) : State := { s with dm := x }
def setRe (s : State) (x : ResyncEngine) : State := { s with re := x }
def setFu (s : State) (x : FenceUnit) : State := { s with fu := x }
def setAl (s : State) (x : AlertUnit) : State := { s with al := x }
def setCounters (s : State) (x : Vector (BitVec 16) 14) : State := { s with counters := x }

end State

/-! ### Reset values -/

/-- An outbound entry after pin reset (R3). -/
def OutWindow.reset : OutWindow :=
  { base := 0, length := 0, mapOffset := 0, policy := .posted, autoResync := false, state := .off, haltCause := none,
    cursor := 0, dirtyCount := 0 }

/-- An inbound entry after pin reset (R5). -/
def InWindow.reset : InWindow := { base := 0, length := 0, enabled := false, guard := true }

/-- The parameter words after pin reset: their defaults (R202). -/
def Params.reset : Params :=
  { segmentSize := 64, mergeTime := 4, stallLimit := 50, confirmTimeout := 500, ackTimeout := 100, ackDelay := 2,
    ackBatch := 8, keepalive := 50, liveness := 1000, retryLimit := 8 }

/-- The link controller after pin reset, with the node id sampled from the straps (R53). -/
def LinkController.reset (nodeId : BitVec 4) : LinkController :=
  { state := .off, enabled := false, nodeId := nodeId, epoch := 0, lastEpoch := 0, lastDown := none, peerReason := none,
    proposal := 0, attempts := 0, peerHello := none, training := none, holdoff := none, helloInterval := none,
    liveness := none, keepalive := none }

/-- The apply unit after pin reset (R106). -/
def ApplyUnit.reset : ApplyUnit :=
  { queue := [], state := .idle, epoch := 0, appliedThrough := Config.seqNone, unreported := 0, ackDelay := none,
    advertised := Config.initialLimit, promotion := false, lastEpoch := 0, lastApplied := Config.seqNone, drained := true,
    writeIgnored := false }

/-- Every block after pin reset (R3, R5, R40, R41, R53, R75, R97, R106, R120, R125, R141, R156, R171, R189, R193, R202),
with what a pin reset does not touch as arguments: the queue of commands, the free-value counter, the pin levels, the
node id and an offer that stands at the upstream port (R167). -/
def State.pinReset (pending : List Instr) (drawn : Nat) (pins : Pins) (nodeId : BitVec 4) (offer : Option Txn) : State :=
  { pending := pending, drawn := drawn, pins := pins, port := .idle, params := Params.reset
    out := Vector.replicate 8 OutWindow.reset, inb := Vector.replicate 8 InWindow.reset
    rq := { records := [], nextSeq := 0, sendPtr := 0, mergeTimer := none }
    cu := none
    mp := { txn := none, offer := offer, completions := [] }
    da := { port := none, fg := none, ap := none, cp := none, copyFloor := 0 }
    lc := LinkController.reset nodeId
    lanes := { frame := none, owed := [], goodbye := none }
    ts := { ackedThrough := Config.seqNone, sendLimit := Config.seqNone, sentHigh := Config.seqNone, rounds := 0,
            ackTimer := none }
    rc := { expected := 0, nakOutstanding := false }
    au := ApplyUnit.reset
    dm := 0
    re := { state := .idle, current := none, lastServed := 7, read := .absent, readDropped := false, reservation := false }
    fu := { fences := [], log := [], handshake := .idle, ack := false, clean := false }
    al := { detail := { window := 0, link := 0, fence := 0, integrity := 0 }, summary := 0, enables := 0,
            asserted := false }
    counters := Vector.replicate 14 0 }

/-- The machine right after reset: the pin-reset state with RESET_N released (R168), no command waiting. MCS_N high and
FENCE_REQ low are a DESIGN CHOICE (log 8); the node id is the board's strap value, a free constant. -/
def State.reset : State :=
  State.pinReset [] 0 { resetAsserted := false, mcsHigh := true, fenceReq := false, msdo := none } Config.nodeIdStrap none

end Sys2Proof.Machine
end

