-- ==== Sys2Proof/Machine/Fields.lean ====
section
/-! DEFINITION. Fields of words: circular comparison of sequence numbers (R1), byte order (R210), the bytes a write
touches and the line it lies in (R153), and merging of line bytes (R35). -/

namespace Sys2Proof.Machine

/-! ### Sequence numbers and epochs (R1) -/

/-- `later b a`: b is later than a, that is (b - a) mod 65536 lies in 1 to 32767. -/
def later (b a : Seq) : Bool := decide (1 ≤ (b - a).toNat) && decide ((b - a).toNat ≤ 32767)

/-- `atOrBefore b a`: b is at or before a, that is b is not later than a. -/
def atOrBefore (b a : Seq) : Bool := !later b a

/-- The successor of an epoch: e + 1, except that the successor of 255 is 1 (R1). -/
def epochSucc (e : Epoch) : Epoch := if e = 255 then 1 else e + 1

/-- The larger of two proposals, compared as plain numbers (R60). -/
def epochMax (a b : Epoch) : Epoch := if a.toNat < b.toNat then b else a

/-! ### Byte order: most significant byte first (R210) -/

def bytes16 (v : BitVec 16) : List Byte := [v.extractLsb' 8 8, v.extractLsb' 0 8]

def bytes24 (v : BitVec 24) : List Byte := [v.extractLsb' 16 8, v.extractLsb' 8 8, v.extractLsb' 0 8]

def bytes32 (v : BitVec 32) : List Byte :=
  [v.extractLsb' 24 8, v.extractLsb' 16 8, v.extractLsb' 8 8, v.extractLsb' 0 8]

def word16 (b1 b0 : Byte) : BitVec 16 := b1 ++ b0

def word24 (b2 b1 b0 : Byte) : BitVec 24 := b2 ++ b1 ++ b0

def word32 (b3 b2 b1 b0 : Byte) : BitVec 32 := b3 ++ b2 ++ b1 ++ b0

/-- A count as a 16-bit field. -/
def count16 (n : Nat) : List Byte := bytes16 (BitVec.ofNat 16 n)

/-- A yes/no value as a byte: 1 for yes, 0 for no (R212, R213). -/
def flagByte (b : Bool) : Byte := if b then 1 else 0

/-- A choice byte read as yes or no; any other value is undefined (R212). -/
def yesNo (b : Byte) : Option Bool := if b = 0 then some false else if b = 1 then some true else none

/-- A window or entry number, 0 to 7; a larger one is undefined (R6, R212). -/
def winId (b : Byte) : Option WinId := if h : b.toNat < 8 then some ⟨b.toNat, h⟩ else none

/-! ### Line masks and data (R29, R153) -/

/-- The mask flags of a frame: byte k carries the flags of line bytes 8k to 8k + 7, bit 0 the lowest (R210). -/
def maskBytes (m : Mask) : List Byte :=
  [m.extractLsb' 0 8, m.extractLsb' 8 8, m.extractLsb' 16 8, m.extractLsb' 24 8,
   m.extractLsb' 32 8, m.extractLsb' 40 8, m.extractLsb' 48 8, m.extractLsb' 56 8]

/-- The mask that eight mask bytes spell, first byte first (R210). -/
def maskOfBytes (b0 b1 b2 b3 b4 b5 b6 b7 : Byte) : Mask := b7 ++ b6 ++ b5 ++ b4 ++ b3 ++ b2 ++ b1 ++ b0

/-- Every mask flag set. -/
def fullMask : Mask := BitVec.allOnes 64

/-- The line with the masked bytes taken from `new` and the others from `old` (R35). -/
def mergeLine (mask : Mask) (old new : LineData) : LineData :=
  Vector.ofFn fun i => if mask.getLsbD i then new[i] else old[i]

/-- The flags of the bytes a transaction spans: `length` bytes from offset `address mod 64` on (R153). -/
def spanMask (addr : Addr) (length : Nat) : Mask :=
  BitVec.ofNat 64 ((2 ^ length - 1) * 2 ^ (addr.toNat % 64))

/-- The effective mask: the mask with the flags of bytes outside the span cleared (R153). -/
def effectiveMask (t : Txn) (mask : Mask) : Mask := mask &&& spanMask t.addr t.length

/-- Well-formed: 1 to 64 bytes, inside one aligned 64-byte line (R153, R156). -/
def wellFormedTxn (t : Txn) : Bool :=
  decide (1 ≤ t.length) && decide (t.length ≤ 64) && decide (t.addr.toNat % 64 + t.length ≤ 64)

/-- The address of the line of a transaction (R153). -/
def lineAddr (t : Txn) : Nat := t.addr.toNat / 64 * 64

/-- Whether every byte of the 64-byte line at `line` lies in the extent of `size` bytes from `base` (R158). -/
def lineInExtent (line base size : Nat) : Bool := decide (base ≤ line) && decide (line + 64 ≤ base + size)

/-- Whether two ranges, each a start and a size, share a member (R7). -/
def overlap (a sizeA b sizeB : Nat) : Bool :=
  decide (0 < sizeA) && decide (0 < sizeB) && decide (a < b + sizeB) && decide (b < a + sizeA)

end Sys2Proof.Machine
end

