-- ==== Sys2Proof/Machine/Flags.lean ====
section
/-! DEFINITION. The alert flags, ALERT_N and the event counters (spec 10_alerts_and_counters.md). -/

namespace Sys2Proof.Machine

/-! ### Causes (R182, R183, R184, R212) -/

/-- The category of a cause (R182). -/
def Cause.category : Cause → Category
  | .degradedEntered _ => .window
  | .haltedEntered _ => .window
  | .synced _ => .window
  | .linkUp => .link
  | .linkDown => .link
  | .linkFault => .link
  | .fenceDone => .fence
  | .fenceFailed => .fence
  | .crcError => .integrity
  | .protocolError => .integrity
  | .limitViolation => .integrity
  | .localMemoryError => .integrity
  | .guardRefusal => .integrity
  | .rejectSent => .integrity

/-- The bit position of a cause within its category (R212). -/
def Cause.bit : Cause → Nat
  | .degradedEntered w => 3 * w.val
  | .haltedEntered w => 3 * w.val + 1
  | .synced w => 3 * w.val + 2
  | .linkUp => 0
  | .linkDown => 1
  | .linkFault => 2
  | .fenceDone => 0
  | .fenceFailed => 1
  | .crcError => 0
  | .protocolError => 1
  | .limitViolation => 2
  | .localMemoryError => 3
  | .guardRefusal => 4
  | .rejectSent => 5

/-- The code of a category, which is also its bit in the summaries and the enables (R212). -/
def Category.code : Category → Nat
  | .window => 0
  | .link => 1
  | .fence => 2
  | .integrity => 3

/-- The number of causes a category has (R182). -/
def Category.causes : Category → Nat
  | .window => 24
  | .link => 3
  | .fence => 2
  | .integrity => 6

/-- The category a code byte names (R187, R212). -/
def categoryOf (b : Byte) : Option Category :=
  if b = 0 then some .window
  else if b = 1 then some .link
  else if b = 2 then some .fence
  else if b = 3 then some .integrity
  else none

/-- The detail flags of a category as the 32-bit value of R212. -/
def Details.flags (d : Details) : Category → BitVec 32
  | .window => d.window.setWidth 32
  | .link => d.link.setWidth 32
  | .fence => d.fence.setWidth 32
  | .integrity => d.integrity.setWidth 32

/-- Clear the detail flags of a category that a list names (R188). -/
def Details.clear (d : Details) (list : BitVec 32) : Category → Details
  | .window => { d with window := d.window &&& ~~~(list.setWidth 24) }
  | .link => { d with link := d.link &&& ~~~(list.setWidth 3) }
  | .fence => { d with fence := d.fence &&& ~~~(list.setWidth 2) }
  | .integrity => { d with integrity := d.integrity &&& ~~~(list.setWidth 6) }

/-- Set the detail flag of a cause (R183). -/
def Details.set (d : Details) (c : Cause) : Details :=
  match c.category with
  | .window => { d with window := d.window ||| BitVec.twoPow 24 c.bit }
  | .link => { d with link := d.link ||| BitVec.twoPow 3 c.bit }
  | .fence => { d with fence := d.fence ||| BitVec.twoPow 2 c.bit }
  | .integrity => { d with integrity := d.integrity ||| BitVec.twoPow 6 c.bit }

/-- Whether the detail flag of a cause is set. -/
def Details.has (d : Details) (c : Cause) : Bool := (d.flags c.category).getLsbD c.bit

/-- ALERT_N is asserted while some category has both its enable and its summary flag set (R184). -/
def alertLine (summary enables : BitVec 4) : Bool := summary &&& enables != 0

/-- The alert unit with other summaries and enables, ALERT_N examined again (R184). -/
def AlertUnit.examine (a : AlertUnit) (summary enables : BitVec 4) : AlertUnit :=
  { a with summary := summary, enables := enables, asserted := alertLine summary enables }

/-- The alert unit after a cause is raised: its detail flag and its category's summary set (R183). -/
def AlertUnit.raised (a : AlertUnit) (c : Cause) : AlertUnit :=
  AlertUnit.examine { a with detail := a.detail.set c } (a.summary ||| BitVec.twoPow 4 c.category.code) a.enables

/-- Raise a cause (R183). -/
def raise (c : Cause) (s : State) : State := s.setAl (s.al.raised c)

/-! ### Counters (R190, R191) -/

/-- The place of a counter in the order of R190. -/
def Counter.idx : Counter → Fin 14
  | .crcErrors => 0
  | .staleFrames => 1
  | .duplicates => 2
  | .outOfOrder => 3
  | .naksSent => 4
  | .naksReceived => 5
  | .retransmitRounds => 6
  | .rejectsSent => 7
  | .rejectsReceived => 8
  | .limitViolations => 9
  | .sessions => 10
  | .guardRefusals => 11
  | .stallExpiries => 12
  | .localErrors => 13

/-- The value of a counter. -/
def State.counter (s : State) (c : Counter) : BitVec 16 := s.counters[c.idx]

/-- One more, but no more than 65535 (R191). -/
def saturate (v : BitVec 16) : BitVec 16 := if v = 65535 then v else v + 1

/-- Increment a counter (R191). -/
def bump (c : Counter) (s : State) : State := s.setCounters (s.counters.set c.idx (saturate s.counters[c.idx]))

end Sys2Proof.Machine
end

