-- ==== Sys2Proof/Machine/Operands.lean ====
section
/-! DEFINITION. The layouts a bus partner sees (spec 12_formats.md): the two CRCs (R211), the peer-link frames and how a
received frame's bytes become a row of the opcode table (R210), the maintenance requests and their parsing (R212), and
the codes of states, causes and statuses (R213). -/

namespace Sys2Proof.Machine

/-! ### Check codes (R211) -/

/-- One bit of the reflected CRC-32, `n` times. -/
def crc32Bits : Nat → BitVec 32 → BitVec 32
  | 0, r => r
  | n + 1, r => crc32Bits n (if r.getLsbD 0 then (r >>> 1) ^^^ 0xEDB88320 else r >>> 1)

/-- CRC-32 of the peer link (R211). -/
def crc32 (bytes : List Byte) : BitVec 32 :=
  bytes.foldl (fun r b => crc32Bits 8 (r ^^^ b.setWidth 32)) 0xFFFFFFFF ^^^ 0xFFFFFFFF

/-- The four CRC-32 bytes of a frame, least significant first (R211). -/
def crc32Bytes (bytes : List Byte) : List Byte := (bytes32 (crc32 bytes)).reverse

/-- One bit of the CRC-8, most significant first, `n` times. -/
def crc8Bits : Nat → Byte → Byte
  | 0, r => r
  | n + 1, r => crc8Bits n (if r.getLsbD 7 then (r <<< 1) ^^^ 0x07 else r <<< 1)

/-- CRC-8 of the maintenance port (R211). -/
def crc8 (bytes : List Byte) : Byte := bytes.foldl (fun r b => crc8Bits 8 (r ^^^ b)) 0

/-! ### Codes (R210, R213) -/

def WinState.code : WinState → Byte
  | .off => 0
  | .active => 1
  | .degraded => 2
  | .resync => 3
  | .halted => 4

def RejectReason.code : RejectReason → Byte
  | .range => 1
  | .disabled => 2
  | .memory => 3

/-- The reject reason a code names; above 3 it is undefined, and 0 means no reject (R210). -/
def rejectOf (b : Byte) : Option RejectReason :=
  if b = 1 then some .range else if b = 2 then some .disabled else if b = 3 then some .memory else none

def HaltCause.code : HaltCause → Byte
  | .reject r => r.code
  | .copyReadError => 4
  | .command => 5

def LinkState.code : LinkState → Byte
  | .off => 0
  | .training => 1
  | .hello => 2
  | .up => 3
  | .down => 4
  | .fault => 5

def DownCause.code : DownCause → Byte
  | .liveness => 1
  | .lost => 2
  | .retry => 3
  | .protocol => 4
  | .peerGoodbye => 5
  | .command => 6
  | .resetMirror => 7

/-- The reason a GOODBYE carries; a reason other than 3, 4, 6 and 7 is recorded as absent (R210). -/
def goodbyeReason (b : Byte) : Option DownCause :=
  if b = 3 then some .retry
  else if b = 4 then some .protocol
  else if b = 6 then some .command
  else if b = 7 then some .resetMirror
  else none

/-- The code of a value that may be absent: 0 for absent (R213). -/
def codeOr0 {α : Type} (code : α → Byte) : Option α → Byte
  | none => 0
  | some a => code a

def RecordKind.code : RecordKind → BitVec 4
  | .write => 1
  | .copy => 2

/-- The record kind a code names (R210). -/
def kindOf (b : BitVec 4) : Option RecordKind :=
  if b = 1 then some .write else if b = 2 then some .copy else none

/-! ### Peer-link frames (R210) -/

/-- The bytes of a frame before its CRC-32 (R210). -/
def Frame.body : Frame → List Byte
  | .data epoch seq kind window line mask bytes =>
      [0x01, epoch] ++ bytes16 seq ++ [kind.code ++ BitVec.ofNat 4 window.val] ++ bytes24 (line.setWidth 24)
        ++ maskBytes mask ++ bytes.toList
  | .ack epoch ackedThrough limit reject =>
      [0x02, epoch] ++ bytes16 ackedThrough ++ bytes16 limit ++ [codeOr0 RejectReason.code reject]
        ++ bytes16 (if reject.isSome then ackedThrough else 0)
  | .nak epoch expected => [0x03, epoch] ++ bytes16 expected
  | .hello proposal nodeId limit => [0x10, proposal, nodeId.setWidth 8] ++ bytes16 limit
  | .helloAck agreed nodeId => [0x11, agreed, nodeId.setWidth 8]
  | .goodbye epoch reason => [0x12, epoch, reason.code]

/-- The bytes of a frame on the wire (R210, R211). -/
def Frame.bytes (f : Frame) : List Byte := f.body ++ crc32Bytes f.body

/-- The row a frame of this form is at the bridge that receives it intact. -/
def Frame.received : Frame → Instr
  | .data epoch seq kind window line mask bytes =>
      .dataReceived epoch seq kind.code (BitVec.ofNat 4 window.val) (line.setWidth 24) mask bytes
  | .ack epoch ackedThrough limit reject =>
      .ackReceived epoch ackedThrough limit (codeOr0 RejectReason.code reject) (if reject.isSome then ackedThrough else 0)
  | .nak epoch expected => .nakReceived epoch expected
  | .hello proposal nodeId limit => .helloReceived proposal (nodeId.setWidth 8) limit
  | .helloAck agreed nodeId => .helloAckReceived agreed (nodeId.setWidth 8)
  | .goodbye epoch reason => .goodbyeReceived epoch reason.code

/-- A DATA frame's fields after its epoch; a wrong length is handled as a bad CRC (R210). -/
def receiveData (epoch : Byte) (rest : List Byte) : Instr :=
  match rest with
  | s1 :: s0 :: kw :: l2 :: l1 :: l0 :: m0 :: m1 :: m2 :: m3 :: m4 :: m5 :: m6 :: m7 :: data =>
      if h : data.length = 64 then
        .dataReceived epoch (word16 s1 s0) (kw.extractLsb' 4 4) (kw.extractLsb' 0 4) (word24 l2 l1 l0)
          (maskOfBytes m0 m1 m2 m3 m4 m5 m6 m7) ⟨data.toArray, by simpa using h⟩
      else .badCrcFrame
  | _ => .badCrcFrame

/-- The fields of an ACK after its epoch. -/
def receiveAck (epoch : Byte) (rest : List Byte) : Instr :=
  match rest with
  | [a1, a0, l1, l0, reason, s1, s0] => .ackReceived epoch (word16 a1 a0) (word16 l1 l0) reason (word16 s1 s0)
  | _ => .badCrcFrame

/-- The fields of a NAK after its epoch. -/
def receiveNak (epoch : Byte) (rest : List Byte) : Instr :=
  match rest with
  | [e1, e0] => .nakReceived epoch (word16 e1 e0)
  | _ => .badCrcFrame

/-- The fields of a HELLO after its proposal. -/
def receiveHello (proposal : Byte) (rest : List Byte) : Instr :=
  match rest with
  | [nodeId, l1, l0] => .helloReceived proposal nodeId (word16 l1 l0)
  | _ => .badCrcFrame

/-- The fields of a HELLO_ACK after its agreed epoch. -/
def receiveHelloAck (agreed : Byte) (rest : List Byte) : Instr :=
  match rest with
  | [nodeId] => .helloAckReceived agreed nodeId
  | _ => .badCrcFrame

/-- The fields of a GOODBYE after its epoch. -/
def receiveGoodbye (epoch : Byte) (rest : List Byte) : Instr :=
  match rest with
  | [reason] => .goodbyeReceived epoch reason
  | _ => .badCrcFrame

/-- The row a frame with a good CRC-32 is, from the bytes before the CRC (R210). -/
def receiveBody (body : List Byte) : Instr :=
  match body with
  | [] => .badCrcFrame
  | typeCode :: rest =>
      match rest with
      | [] => if frameTypes.contains typeCode then .badCrcFrame else .undefinedFrame typeCode 0
      | epoch :: fields =>
          if typeCode = 0x01 then receiveData epoch fields
          else if typeCode = 0x02 then receiveAck epoch fields
          else if typeCode = 0x03 then receiveNak epoch fields
          else if typeCode = 0x10 then receiveHello epoch fields
          else if typeCode = 0x11 then receiveHelloAck epoch fields
          else if typeCode = 0x12 then receiveGoodbye epoch fields
          else .undefinedFrame typeCode epoch

/-- The row that the arrival of a frame's bytes is: a frame of fewer than five bytes, of a wrong length for its type, or
with a bad CRC-32 is a bad frame (R210, R211). -/
def receive (bytes : List Byte) : Instr :=
  if bytes.length < 5 then .badCrcFrame
  else
    let body := bytes.take (bytes.length - 4)
    if bytes.drop (bytes.length - 4) = crc32Bytes body then receiveBody body else .badCrcFrame

/-! ### Maintenance requests (R212) -/

/-- A maintenance command with its argument fields as the request carries them (R212). -/
inductive Request where
  | winConfig (w : Byte) (base : BitVec 32) (length mapOffset : BitVec 16) (policy autoResync : Byte)
  | winEnable (w mode : Byte)
  | winDisable (w : Byte)
  | winResync (w : Byte)
  | winHalt (w : Byte)
  | winResume (w : Byte)
  | winMark (w : Byte) (first count : BitVec 16)
  | winStatus (w : Byte)
  | inConfig (i : Byte) (base length : BitVec 32) (guard : Byte)
  | inEnable (i : Byte)
  | inDisable (i : Byte)
  | inStatus (i : Byte)
  | linkEnable
  | linkDisable
  | linkStatus
  | fence (tag : Byte)
  | fenceLog (clear : Byte)
  | alertRead
  | alertEnable (ew el ef ei : Byte)
  | causeRead (category : Byte)
  | causeClear (category : Byte) (list : BitVec 32)
  | countersRead (clear : Byte)
  | getParam (word : Byte)
  | setParam (word : Byte) (value : BitVec 16)
  | resetMirror
  deriving DecidableEq, Repr

/-- The command code of a request (R212). -/
def Request.code : Request → Byte
  | .winConfig .. => 0x10
  | .winEnable .. => 0x11
  | .winDisable .. => 0x12
  | .winResync .. => 0x13
  | .winHalt .. => 0x14
  | .winResume .. => 0x15
  | .winMark .. => 0x16
  | .winStatus .. => 0x17
  | .inConfig .. => 0x18
  | .inEnable .. => 0x19
  | .inDisable .. => 0x1A
  | .inStatus .. => 0x1B
  | .linkEnable => 0x20
  | .linkDisable => 0x21
  | .linkStatus => 0x22
  | .fence .. => 0x30
  | .fenceLog .. => 0x31
  | .alertRead => 0x40
  | .alertEnable .. => 0x41
  | .causeRead .. => 0x42
  | .causeClear .. => 0x43
  | .countersRead .. => 0x44
  | .getParam .. => 0x50
  | .setParam .. => 0x51
  | .resetMirror => 0x52

/-- The argument bytes of a request, in order (R212). -/
def Request.args : Request → List Byte
  | .winConfig w base length mapOffset policy autoResync =>
      [w] ++ bytes32 base ++ bytes16 length ++ bytes16 mapOffset ++ [policy, autoResync]
  | .winEnable w mode => [w, mode]
  | .winDisable w => [w]
  | .winResync w => [w]
  | .winHalt w => [w]
  | .winResume w => [w]
  | .winMark w first count => [w] ++ bytes16 first ++ bytes16 count
  | .winStatus w => [w]
  | .inConfig i base length guard => [i] ++ bytes32 base ++ bytes32 length ++ [guard]
  | .inEnable i => [i]
  | .inDisable i => [i]
  | .inStatus i => [i]
  | .linkEnable => []
  | .linkDisable => []
  | .linkStatus => []
  | .fence tag => [tag]
  | .fenceLog clear => [clear]
  | .alertRead => []
  | .alertEnable ew el ef ei => [ew, el, ef, ei]
  | .causeRead category => [category]
  | .causeClear category list => [category] ++ bytes32 list
  | .countersRead clear => [clear]
  | .getParam word => [word]
  | .setParam word value => [word] ++ bytes16 value
  | .resetMirror => []

/-- The number of argument bytes of a command code; absent for an undefined code (R196, R212). -/
def argCount (code : Byte) : Option Nat :=
  if code = 0x10 then some 11
  else if code = 0x11 then some 2
  else if code = 0x12 ∨ code = 0x13 ∨ code = 0x14 ∨ code = 0x15 then some 1
  else if code = 0x16 then some 5
  else if code = 0x17 then some 1
  else if code = 0x18 then some 10
  else if code = 0x19 ∨ code = 0x1A ∨ code = 0x1B then some 1
  else if code = 0x20 ∨ code = 0x21 ∨ code = 0x22 then some 0
  else if code = 0x30 ∨ code = 0x31 then some 1
  else if code = 0x40 then some 0
  else if code = 0x41 then some 4
  else if code = 0x42 then some 1
  else if code = 0x43 then some 5
  else if code = 0x44 ∨ code = 0x50 then some 1
  else if code = 0x51 then some 3
  else if code = 0x52 then some 0
  else none

/-- The request that a command code and its argument bytes spell (R196, R212). -/
def Request.parse (code : Byte) (args : List Byte) : Option Request :=
  match args with
  | [] =>
      if code = 0x20 then some .linkEnable
      else if code = 0x21 then some .linkDisable
      else if code = 0x22 then some .linkStatus
      else if code = 0x40 then some .alertRead
      else if code = 0x52 then some .resetMirror
      else none
  | [a] =>
      if code = 0x12 then some (.winDisable a)
      else if code = 0x13 then some (.winResync a)
      else if code = 0x14 then some (.winHalt a)
      else if code = 0x15 then some (.winResume a)
      else if code = 0x17 then some (.winStatus a)
      else if code = 0x19 then some (.inEnable a)
      else if code = 0x1A then some (.inDisable a)
      else if code = 0x1B then some (.inStatus a)
      else if code = 0x30 then some (.fence a)
      else if code = 0x31 then some (.fenceLog a)
      else if code = 0x42 then some (.causeRead a)
      else if code = 0x44 then some (.countersRead a)
      else if code = 0x50 then some (.getParam a)
      else none
  | [a, b] => if code = 0x11 then some (.winEnable a b) else none
  | [a, v1, v0] => if code = 0x51 then some (.setParam a (word16 v1 v0)) else none
  | [a, b, c, d] => if code = 0x41 then some (.alertEnable a b c d) else none
  | [a, b3, b2, b1, b0] =>
      if code = 0x16 then some (.winMark a (word16 b3 b2) (word16 b1 b0))
      else if code = 0x43 then some (.causeClear a (word32 b3 b2 b1 b0))
      else none
  | [a, b3, b2, b1, b0, l3, l2, l1, l0, g] =>
      if code = 0x18 then some (.inConfig a (word32 b3 b2 b1 b0) (word32 l3 l2 l1 l0) g) else none
  | [a, b3, b2, b1, b0, l1, l0, m1, m0, p, r] =>
      if code = 0x10 then some (.winConfig a (word32 b3 b2 b1 b0) (word16 l1 l0) (word16 m1 m0) p r) else none
  | _ => none

/-! ### Statuses and parameter words (R201, R202, R212, R213) -/

inductive Status where
  | ok
  | busy
  | badArg
  | badState
  | badCrc
  | unknown
  deriving DecidableEq, Repr

def Status.code : Status → Byte
  | .ok => 0
  | .busy => 1
  | .badArg => 2
  | .badState => 3
  | .badCrc => 4
  | .unknown => 5

/-- The bytes of a response: status, data and their CRC-8 (R198). -/
def responseBytes (status : Status) (data : List Byte) : List Byte :=
  status.code :: data ++ [crc8 (status.code :: data)]

inductive ParamWord where
  | segmentSize
  | mergeTime
  | stallLimit
  | confirmTimeout
  | ackTimeout
  | ackDelay
  | ackBatch
  | keepalive
  | liveness
  | retryLimit
  deriving DecidableEq, Repr

/-- The parameter word a code selects (R213). -/
def paramOf (b : Byte) : Option ParamWord :=
  if b = 0x01 then some .segmentSize
  else if b = 0x02 then some .mergeTime
  else if b = 0x03 then some .stallLimit
  else if b = 0x04 then some .confirmTimeout
  else if b = 0x05 then some .ackTimeout
  else if b = 0x06 then some .ackDelay
  else if b = 0x07 then some .ackBatch
  else if b = 0x08 then some .keepalive
  else if b = 0x09 then some .liveness
  else if b = 0x0A then some .retryLimit
  else none

/-- The value of a parameter word. -/
def Params.get (p : Params) : ParamWord → BitVec 16
  | .segmentSize => p.segmentSize
  | .mergeTime => p.mergeTime
  | .stallLimit => p.stallLimit
  | .confirmTimeout => p.confirmTimeout
  | .ackTimeout => p.ackTimeout
  | .ackDelay => p.ackDelay
  | .ackBatch => p.ackBatch
  | .keepalive => p.keepalive
  | .liveness => p.liveness
  | .retryLimit => p.retryLimit

/-- The parameter words with one of them written. -/
def Params.put (p : Params) (v : BitVec 16) : ParamWord → Params
  | .segmentSize => { p with segmentSize := v }
  | .mergeTime => { p with mergeTime := v }
  | .stallLimit => { p with stallLimit := v }
  | .confirmTimeout => { p with confirmTimeout := v }
  | .ackTimeout => { p with ackTimeout := v }
  | .ackDelay => { p with ackDelay := v }
  | .ackBatch => { p with ackBatch := v }
  | .keepalive => { p with keepalive := v }
  | .liveness => { p with liveness := v }
  | .retryLimit => { p with retryLimit := v }

/-- Whether a value lies in the range of a word (R202). -/
def ParamWord.inRange (v : BitVec 16) : ParamWord → Bool
  | .segmentSize => [4, 8, 16, 32, 64].contains v.toNat
  | .mergeTime => decide (v.toNat ≤ 32)
  | .stallLimit => decide (1 ≤ v.toNat) && decide (v.toNat ≤ 1000)
  | .confirmTimeout => decide (10 ≤ v.toNat) && decide (v.toNat ≤ 5000)
  | .ackTimeout => decide (10 ≤ v.toNat) && decide (v.toNat ≤ 1000)
  | .ackDelay => decide (v.toNat ≤ 16)
  | .ackBatch => decide (1 ≤ v.toNat) && decide (v.toNat ≤ 16)
  | .keepalive => decide (10 ≤ v.toNat) && decide (v.toNat ≤ 500)
  | .liveness => decide (100 ≤ v.toNat) && decide (v.toNat ≤ 10000)
  | .retryLimit => decide (1 ≤ v.toNat) && decide (v.toNat ≤ 15)

/-- The six words that may be written only while the link is OFF (R73, R202). -/
def ParamWord.isLinkWord : ParamWord → Bool
  | .segmentSize => false
  | .mergeTime => false
  | .stallLimit => false
  | .confirmTimeout => false
  | .ackTimeout => true
  | .ackDelay => true
  | .ackBatch => true
  | .keepalive => true
  | .liveness => true
  | .retryLimit => true

/-- The cross-check of LIVENESS and KEEPALIVE (R73, R204). -/
def Params.crossCheck (p : Params) (v : BitVec 16) (w : ParamWord) : Bool :=
  match w with
  | .liveness => decide (2 * p.keepalive.toNat ≤ v.toNat)
  | .keepalive => decide (2 * v.toNat ≤ p.liveness.toNat)
  | _ => true

end Sys2Proof.Machine
end

