-- ==== Sys2Proof/Machine/Ops.lean ====
section
/-! DEFINITION. The named operations that several commands share, block by block: the window tables, the downstream
arbiter, the transmit lanes, the replay queue, the fence unit, the dirty map, the resync engine, the capture unit, the
memory path, the apply unit and the session end. An operation is a function of the state, its state argument last. -/

namespace Sys2Proof.Machine

/-! ### Accessors -/

/-- An outbound window (R2). -/
def State.win (s : State) (w : WinId) : OutWindow := s.out[w]

/-- Write one entry of the outbound window table. -/
def State.setWin (s : State) (w : WinId) (x : OutWindow) : State := s.setOut (s.out.set w x)

/-- An inbound entry (R4). -/
def State.entry (s : State) (i : WinId) : InWindow := s.inb[i]

/-- Write one entry of the inbound window table. -/
def State.setEntry (s : State) (i : WinId) (x : InWindow) : State := s.setInb (s.inb.set i x)

/-- Enabled: the state is not OFF (R2). -/
def OutWindow.isEnabled (x : OutWindow) : Bool := x.state != .off

/-- Behind or being repaired: DEGRADED, RESYNC or HALTED (R140, R142, R144). -/
def WinState.behind : WinState → Bool
  | .off => false
  | .active => false
  | .degraded => true
  | .resync => true
  | .halted => true

/-- Recording: ACTIVE or RESYNC (R16). -/
def WinState.mirrored : WinState → Bool
  | .off => false
  | .active => true
  | .degraded => false
  | .resync => true
  | .halted => false

/-- SEGMENT_SIZE in bytes (R202). -/
def Params.segmentBytes (p : Params) : Nat := p.segmentSize.toNat * 1024

/-- The lines of a segment, SEGMENT_SIZE / 64 (R125). -/
def Params.segmentLines (p : Params) : Nat := p.segmentBytes / 64

/-- The size in bytes of an outbound window's extent (R2). -/
def State.extentSize (s : State) (x : OutWindow) : Nat := x.length * s.params.segmentBytes

/-- The segment of a window that contains a line (R29, R122). -/
def State.segmentOf (s : State) (line : LineIndex) : Nat := line.toNat * 64 / s.params.segmentBytes

/-- The link is UP. -/
def State.isUp (s : State) : Bool := decide (s.lc.state = .up)

/-! ### Downstream arbiter (R170 to R177) -/

/-- The client the next grant goes to (R172). R178 says that at most one CP transaction goes ahead of a waiting FG request;
R172 and R174 let a second one go where a promotion of 32 AP grants follows the first, and the model follows those two
(log 34). -/
def Arbiter.choose (d : Arbiter) (promotion : Bool) : Option Client :=
  if promotion && d.ap.isSome then some .ap
  else if decide (d.copyFloor = Config.copyFloorMax) && d.cp.isSome then some .cp
  else if d.fg.isSome then some .fg
  else if d.ap.isSome then some .ap
  else if d.cp.isSome then some .cp
  else none

/-- copy_floor after a grant to FG or AP (R174). -/
def Arbiter.floorRaised (d : Arbiter) : Nat :=
  if d.cp.isSome then min Config.copyFloorMax (d.copyFloor + 1) else 0

/-- The request a client has presented. -/
def Arbiter.request (d : Arbiter) : Client → Option Txn
  | .fg => d.fg
  | .ap => d.ap
  | .cp => d.cp

/-- The arbiter after a grant: the request is no longer presented, and the port is busy with it (R172, R174). -/
def Arbiter.granted (d : Arbiter) (t : Txn) : Client → Arbiter
  | .fg => { d with port := some ⟨.fg, t⟩, fg := none, copyFloor := d.floorRaised }
  | .ap => { d with port := some ⟨.ap, t⟩, ap := none, copyFloor := d.floorRaised }
  | .cp => { d with port := some ⟨.cp, t⟩, cp := none, copyFloor := 0 }

/-- A granted copy read is told to the resync engine (R125, R128). -/
def readGranted (c : Client) (s : State) : State :=
  match c with
  | .fg => s
  | .ap => s
  | .cp => s.setRe { s.re with read := .granted }

/-- Grant the port if it is free and a request waits (R172). -/
def grant (s : State) : State :=
  match s.da.port with
  | some _ => s
  | none =>
      match s.da.choose s.au.promotion with
      | none => s
      | some c =>
          match s.da.request c with
          | none => s
          | some t => readGranted c (s.setDa (s.da.granted t c))

/-- Present the foreground request (R163, R44). -/
def presentFg (t : Txn) (s : State) : State := grant (s.setDa { s.da with fg := some t })

/-- Present the apply request (R108). -/
def presentAp (t : Txn) (s : State) : State := grant (s.setDa { s.da with ap := some t })

/-- Present the copy request (R128). -/
def presentCp (t : Txn) (s : State) : State := grant (s.setDa { s.da with cp := some t })

/-- Withdraw the copy request (R174, R176). -/
def withdrawCp (s : State) : State := s.setDa { s.da with cp := none, copyFloor := 0 }

/-- Withdraw the apply request (R176). -/
def withdrawAp (s : State) : State := s.setDa { s.da with ap := none }

/-- The port becomes free after its owner has handled the completion, and is granted again (R173). -/
def releasePort (s : State) : State := grant (s.setDa { s.da with port := none })

/-- The client whose access holds the port. -/
def State.portClient (s : State) : Option Client := s.da.port.map (·.client)

/-! ### Transmit lanes: owed frames (R80, R112) -/

def Owed.isAck : Owed → Bool
  | .ack .. => true
  | .nak .. => false
  | .hello => false
  | .helloAck .. => false

/-- The owed frames with the last ACK refreshed, if that ACK carries no reject; absent otherwise (R112). -/
def refreshAck (ackedThrough limit : Seq) : List Owed → Option (List Owed)
  | [] => none
  | o :: rest =>
      if rest.any Owed.isAck then (refreshAck ackedThrough limit rest).map (o :: ·)
      else
        match o with
        | .ack _ _ none => some (.ack ackedThrough limit none :: rest)
        | _ => none

/-- Append a frame to the owed frames. -/
def owe (o : Owed) (s : State) : State := s.setLanes { s.lanes with owed := s.lanes.owed ++ [o] }

/-- Make an ordinary ACK owed: the values as they stand, refreshing the last owed ACK where R112 says so; unreported
becomes 0 and the ack delay timer stops (R111, R112). While the link is not UP no ACK becomes owed (R111). -/
def oweAck (s : State) : State :=
  if s.isUp then
    let through := s.au.appliedThrough
    let limit := through + 16
    (s.setAu { s.au with unreported := 0, ackDelay := none }).setLanes
      { s.lanes with
        owed := (refreshAck through limit s.lanes.owed).getD (s.lanes.owed ++ [.ack through limit none]) }
  else s

/-- Make a NAK carrying expected owed, unless one is outstanding (R99, R103, R104). -/
def oweNak (s : State) : State :=
  if s.rc.nakOutstanding then s
  else owe (.nak s.rc.expected) (s.setRc { s.rc with nakOutstanding := true })

/-- Make the next HELLO of the exchange owed; none is sent while the apply queue holds an entry (R59). A HELLO already
waiting is that HELLO (log 10). -/
def oweHello (s : State) : State :=
  if s.au.queue.isEmpty && !s.lanes.owed.contains .hello then owe .hello s else s

/-- The apply queue has become empty: in HELLO the withheld first HELLO goes before any owed HELLO_ACK (R59, R71). -/
def applyQueueEmptied (s : State) : State :=
  if decide (s.lc.state = .hello) && !s.lanes.owed.contains .hello then
    s.setLanes { s.lanes with owed := .hello :: s.lanes.owed }
  else s

/-! ### Replay queue (R31 to R38) -/

/-- Records and reservations together (R32). -/
def State.slotsTaken (s : State) : Nat :=
  s.rq.records.length + (if s.cu.any (·.reservation) then 1 else 0) + (if s.re.reservation then 1 else 0)

/-- A slot is free (R32). -/
def State.slotFree (s : State) : Bool := decide (s.slotsTaken < Config.replaySlots)

/-- The number of COPY records queued (R129). -/
def State.copyCount (s : State) : Nat := s.rq.records.countP (fun r => decide (r.kind = .copy))

/-- The tail is OPEN, of kind WRITE, and of this window and line (R35). -/
def State.tailTakes (s : State) (w : WinId) (line : LineIndex) : Bool :=
  match s.rq.records.getLast? with
  | none => false
  | some r => decide (r.state = .opened ∧ r.kind = .write ∧ r.window = w ∧ r.line = line)

/-- The records with the OPEN tail, if any, closed (R36). -/
def closedTail (records : List Record) : List Record :=
  match records.getLast? with
  | none => records
  | some r => if r.state = .opened then records.dropLast ++ [{ r with state := .ready }] else records

/-- Close the OPEN tail, if any; the merge timer stops (R36). -/
def closeTail (s : State) : State :=
  s.setRq { s.rq with records := closedTail s.rq.records, mergeTimer := none }

/-- Append a record: the OPEN tail closes, the record takes next_seq (R33). An OPEN record starts the merge timer
(R34). -/
def append (r : Record) (s : State) : State :=
  s.setRq
    { s.rq with
      records := closedTail s.rq.records ++ [{ r with seq := s.rq.nextSeq }]
      nextSeq := s.rq.nextSeq + 1
      mergeTimer := if r.state = .opened then some s.params.mergeTime.toNat else none }

/-- The record with a write merged into it (R35). -/
def Record.merged (r : Record) (mask : Mask) (data : LineData) (close : Bool) : Record :=
  { r with mask := r.mask ||| mask, data := mergeLine mask r.data data, state := if close then .ready else r.state }

/-- Merge a write into the tail: a full mask closes it, and so does a merge timer loaded with 0, which expires as it is
loaded; else the timer restarts (R35, R36, R205). -/
def merge (mask : Mask) (data : LineData) (s : State) : State :=
  match s.rq.records.getLast? with
  | none => s
  | some r =>
      let close := decide (r.mask ||| mask = fullMask) || decide (s.params.mergeTime = 0)
      s.setRq
        { s.rq with
          records := s.rq.records.dropLast ++ [r.merged mask data close]
          mergeTimer := if close then none else some s.params.mergeTime.toNat }

/-- Head removal: every record at or before `a` leaves, and a send pointer at or before `a` moves past it (R38). -/
def removeHead (a : Seq) (s : State) : State :=
  s.setRq
    { s.rq with
      records := s.rq.records.filter (fun r => later r.seq a)
      sendPtr := if atOrBefore s.rq.sendPtr a then a + 1 else s.rq.sendPtr }

/-- Every record leaves and the merge timer stops; the send pointer is past tail because no record has its number any
more (R37, R39, R40; log 12). -/
def discardRecords (s : State) : State := s.setRq { s.rq with records := [], mergeTimer := none }

/-! ### Fence unit (R140 to R152) -/

/-- Every pending fence becomes degraded (R144). -/
def degradeFences (s : State) : State :=
  s.setFu { s.fu with fences := s.fu.fences.map (fun f => { f with degraded := true }) }

/-- The result log with an entry added; the oldest goes when it is full (R147). -/
def pushLog (log : List LogEntry) (e : LogEntry) : List LogEntry := (log ++ [e]).drop (log.length + 1 - Config.logSlots)

/-- Deliver a fence's result: to the log and a cause for a PORT fence (R147), on the lines for a LINE fence (R151). -/
def deliver (source : FenceSource) (ticket : Option Seq) (done degraded : Bool) (s : State) : State :=
  match source with
  | .port tag =>
      raise (if done then .fenceDone else .fenceFailed)
        (s.setFu { s.fu with log := pushLog s.fu.log ⟨tag, ticket, done, degraded⟩ })
  | .line => s.setFu { s.fu with handshake := .answered, ack := true, clean := done && !degraded }

/-- Some enabled outbound window is DEGRADED, RESYNC or HALTED (R142). -/
def State.someBehind (s : State) : Bool := s.out.toList.any (fun x => x.state.behind)

/-- Issue a fence: close the tail, take the degraded flag, complete at once or join the list (R142). -/
def issueFence (source : FenceSource) (s : State) : State :=
  let s1 := closeTail s
  match s1.rq.records.getLast? with
  | none => deliver source none true s1.someBehind s1
  | some r =>
      s1.setFu
        { s1.fu with
          fences := s1.fu.fences ++ [⟨r.seq, source, s1.someBehind⟩]
          handshake := if source = .line then .pending else s1.fu.handshake }

/-- A fence has left the list by a completion: a waiting line request is issued (R150). -/
def issueWaiting (s : State) : State :=
  match s.fu.handshake with
  | .waiting => issueFence .line s
  | .idle => s
  | .pending => s
  | .answered => s

/-- The front fence completes DONE, its result is delivered, and then a waiting line request is issued (R145, R150). -/
def completeFront (f : Fence) (s : State) : State :=
  issueWaiting (deliver f.source (some f.ticket) true f.degraded (s.setFu { s.fu with fences := s.fu.fences.tail }))

/-- The fences at the front of the list whose tickets are at or before `a` complete, one after another (R145). -/
def completeRun (a : Seq) : List Fence → State → State
  | [], s => s
  | f :: rest, s => if atOrBefore f.ticket a then completeRun a rest (completeFront f s) else s

/-- Compare the pending tickets with a new acked_through (R145). -/
def completeFences (a : Seq) (s : State) : State := completeRun a s.fu.fences s

/-- The fences of `list` complete FAILED in list order, each with its degraded flag, the list is empty, and a waiting line
request is answered FAILED without issue (R146). -/
def failAll (list : List Fence) (s : State) : State :=
  let s1 := list.foldl (fun t f => deliver f.source (some f.ticket) false f.degraded t) s
  let s2 := s1.setFu { s1.fu with fences := [] }
  if s.fu.handshake = .waiting then deliver .line none false s2.someBehind s2 else s2

/-- A session end at the fence unit (R146). `before` is the list as it stood before the window tables took the session
end: whether the fence unit took it first is a free value (log 6), and decides the degraded flag of each result. -/
def failFences (before : List Fence) (s : State) : State :=
  if s.fu.fences.isEmpty then failAll [] s
  else failAll (if Config.fenceUnitFirst s.drawn then before else s.fu.fences) (s.setDrawn (s.drawn + 1))

/-! ### Dirty map (R120 to R124) -/

/-- The dirty-map position of segment `k` of a window (R2, R120). -/
def OutWindow.position (x : OutWindow) (k : Nat) : Nat := x.mapOffset + k

/-- The positions of a window's map range (R2). -/
def OutWindow.rangeMask (x : OutWindow) : BitVec 4096 := BitVec.ofNat 4096 (2 ^ x.length - 1) <<< x.mapOffset

/-- A set request that reaches the current segment sets its redirtied flag (R133). -/
def redirty (w : WinId) (k : Nat) (s : State) : State :=
  match s.re.current with
  | none => s
  | some g => if g.window = w ∧ g.index = k then s.setRe { s.re with current := some { g with redirtied := true } } else s

/-- A set request for a segment: nothing for an OFF window; else the mark is set, a clear one raising dirty_count
(R122). -/
def markSegment (w : WinId) (k : Nat) (s : State) : State :=
  let x := s.win w
  if x.isEnabled then
    let s1 :=
      if s.dm.getLsbD (x.position k) then s
      else (s.setDm (s.dm ||| BitVec.twoPow 4096 (x.position k))).setWin w { x with dirtyCount := x.dirtyCount + 1 }
    redirty w k s1
  else s

/-- A set request for the segment that contains a line (R122). -/
def markLine (w : WinId) (line : LineIndex) (s : State) : State := markSegment w (s.segmentOf line) s

/-- Clear the mark of a completed segment (R124). -/
def clearSegment (w : WinId) (k : Nat) (s : State) : State :=
  let x := s.win w
  if s.dm.getLsbD (x.position k) then
    (s.setDm (s.dm &&& ~~~(BitVec.twoPow 4096 (x.position k)))).setWin w { x with dirtyCount := x.dirtyCount - 1 }
  else s

/-! ### Resync engine (R125 to R138) -/

/-- Abandon the current segment: an ungranted read is withdrawn and its reservation released, a granted one will have
its result dropped, and the engine enters SELECT (R135). -/
def abandon (s : State) : State :=
  match s.re.read with
  | .absent => s.setRe { s.re with current := none, state := .select }
  | .requested =>
      (withdrawCp s).setRe { s.re with current := none, state := .select, read := .absent, reservation := false }
  | .granted => s.setRe { s.re with current := none, state := .select, readDropped := true }

/-- The window the engine serves next: the first in RESYNC after last-served (R127). -/
def State.nextWindow (s : State) : Option WinId :=
  ((List.finRange 8).map (fun i => s.re.lastServed + 1 + i)).find? (fun w => decide ((s.win w).state = .resync))

/-- The segment the engine takes within a window: the first marked one from the cursor on, wrapping (R127). -/
def State.nextSegment (s : State) (w : WinId) : Option Nat :=
  let x := s.win w
  ((List.range x.length).map (fun i => (x.cursor + i) % x.length)).find? (fun k => s.dm.getLsbD (x.position k))

/-- The engine takes segment `k` of window `w` (R127). -/
def takeSegment (w : WinId) (k : Nat) (s : State) : State :=
  let x := s.win w
  (s.setWin w { x with cursor := if k + 1 = x.length then 0 else k + 1 }).setRe
    { s.re with
      state := .copying
      current := some { window := w, index := k, nextLine := 0, lastSeq := none, redirtied := false }
      lastServed := w }

/-- In SELECT the engine makes its selection and leaves for COPYING or IDLE (R125, R127). -/
def selectSegment (s : State) : State :=
  match s.re.state with
  | .select =>
      match s.nextWindow with
      | none => s.setRe { s.re with state := .idle }
      | some w =>
          match s.nextSegment w with
          | none => s.setRe { s.re with state := .idle }
          | some k => takeSegment w k s
  | .idle => s
  | .copying => s
  | .draining => s

/-- The copy read of a segment's next line (R128). -/
def State.copyRead (s : State) (g : Segment) : Txn :=
  { access := .read
    addr := (s.win g.window).base + BitVec.ofNat 32 ((g.index * s.params.segmentLines + g.nextLine) * 64)
    length := 64 }

/-- The conditions under which the engine starts a read (R128). -/
def State.mayRead (s : State) (g : Segment) : Bool :=
  decide (s.re.state = .copying) && decide (s.re.read = .absent) && decide (g.nextLine < s.params.segmentLines)
    && decide (s.copyCount < Config.copyShare) && s.slotFree

/-- Start the read of the next line when the conditions of R128 hold: take the reservation and present the request. -/
def startRead (s : State) : State :=
  match s.re.current with
  | none => s
  | some g =>
      if s.mayRead g then
        presentCp (s.copyRead g) (s.setRe { s.re with read := .requested, reservation := true })
      else s

/-- The engine's work after an event: selection, then the conditions of R128. -/
def advanceEngine (s : State) : State := startRead (selectSegment s)

/-! ### Outbound window transitions (R16 to R28) -/

/-- The cause of a window's entry into a state (R28). -/
def raiseEntry (w : WinId) (old new : WinState) (s : State) : State :=
  match new with
  | .off => s
  | .active => if old = .resync ∨ old = .degraded then raise (.synced w) s else s
  | .degraded => raise (.degradedEntered w) s
  | .resync => s
  | .halted => raise (.haltedEntered w) s

/-- The report of a window's entry into or departure from RESYNC to the engine (R28, R126, R134). -/
def tellEngine (w : WinId) (old new : WinState) (s : State) : State :=
  if new = .resync then
    if s.re.state = .idle then s.setRe { s.re with state := .select } else s
  else if old = .resync ∧ s.re.current.any (fun g => decide (g.window = w)) then abandon s
  else s

/-- A window enters a state: its cause is raised, the fence unit and the engine are told (R28). -/
def enterWindow (w : WinId) (new : WinState) (halt : Option HaltCause) (s : State) : State :=
  let x := s.win w
  let s1 := raiseEntry w x.state new (s.setWin w { x with state := new, haltCause := halt })
  tellEngine w x.state new (if new.behind then degradeFences s1 else s1)

/-- A window goes to RESYNC, or to ACTIVE if it has no mark (R17). -/
def toResync (w : WinId) (s : State) : State :=
  if (s.win w).dirtyCount = 0 then enterWindow w .active none s else enterWindow w .resync none s

/-- The capture-failure transition of R24, taken in ACTIVE. -/
def captureFailure (w : WinId) (s : State) : State :=
  if (s.win w).state = .active then
    if (s.win w).autoResync then toResync w s else enterWindow w .degraded none s
  else s

/-- The transition of R24 for a record discarded at session end. -/
def discardFailure (w : WinId) (s : State) : State :=
  if (s.win w).state = .active then enterWindow w .degraded none s else s

/-- The transition of R25 for a reject the peer reports. -/
def rejectWindow (w : WinId) (reason : RejectReason) (s : State) : State :=
  match (s.win w).state with
  | .off => s
  | .halted => s
  | .active => enterWindow w .halted (some (.reject reason)) s
  | .degraded => enterWindow w .halted (some (.reject reason)) s
  | .resync => enterWindow w .halted (some (.reject reason)) s

/-- The session-end transition of one window (R23). -/
def endWindow (w : WinId) (s : State) : State :=
  if (s.win w).state.mirrored then enterWindow w .degraded none s else s

/-- The session-end transition of every window (R23). -/
def endWindows (s : State) : State := (List.finRange 8).foldl (fun t w => endWindow w t) s

/-- Discard-all at session end: a mark for each record of an enabled window, with the transition of R24 (R39). -/
def discardAll (s : State) : State :=
  discardRecords (s.rq.records.foldl
    (fun t r => if (t.win r.window).isEnabled then discardFailure r.window (markLine r.window r.line t) else t) s)

/-! ### Capture unit and memory path (R41 to R50, R153 to R163) -/

/-- Give the upstream completion; the transaction and its capture context end (R155, R156). -/
def completeUpstream (r : Result) (bytes : Option LineData) (s : State) : State :=
  (s.setMp { s.mp with txn := none, completions := s.mp.completions ++ [⟨r, bytes⟩] }).setCu none

/-- Forward the upstream transaction downstream as a foreground request (R44, R163). -/
def forward (s : State) : State :=
  match s.mp.txn with
  | none => s
  | some u => presentFg u.txn s

/-- The window's state as the capture unit finds it: OFF for a released transaction, whatever the window's state is by then
(R160; log 29). -/
def State.captureState (s : State) (c : Capture) : WinState :=
  if s.mp.txn.any (·.released) then .off else (s.win c.window).state

/-- The slot check of a capture in ACTIVE or RESYNC (R42): a slot, the tail, or SLOT_WAIT, whose stall timer is loaded
at the first entry only (R43). -/
def slotCheckMirrored (c : Capture) (s : State) : State :=
  if s.slotFree then
    forward (s.setCu (some { c with phase := .localWrite, path := some .record, reservation := true, stallTimer := none }))
  else if s.tailTakes c.window c.line then
    forward (s.setCu (some { c with phase := .localWrite, path := some .mergeOnly, stallTimer := none }))
  else
    s.setCu (some { c with phase := .slotWait, stallTimer := some (c.stallTimer.getD s.params.stallLimit.toNat) })

/-- The capture goes on without a record (R42, R46). -/
def captureUnrecorded (c : Capture) (s : State) : State :=
  forward (s.setCu (some { c with phase := .localWrite, path := some .noRecord, stallTimer := none }))

/-- The slot check (R42). -/
def slotCheck (c : Capture) (s : State) : State :=
  match s.captureState c with
  | .off => forward (s.setCu none)
  | .degraded => captureUnrecorded c s
  | .halted => captureUnrecorded c s
  | .active => slotCheckMirrored c s
  | .resync => slotCheckMirrored c s

/-- A capture in SLOT_WAIT makes its slot check again (R43). -/
def recheckSlot (s : State) : State :=
  match s.cu with
  | none => s
  | some c => if c.phase = .slotWait then slotCheck c s else s

/-- What follows an event that freed a slot or moved a window: the waiting capture first, then the engine (R32). -/
def settle (s : State) : State := advanceEngine (recheckSlot s)

/-- The outbound window that is enabled and contains the line at an address (R157, R158). -/
def State.windowAt (s : State) (line : Nat) : Option WinId :=
  (List.finRange 8).find? (fun w => (s.win w).isEnabled && lineInExtent line (s.win w).base.toNat (s.extentSize (s.win w)))

/-- The line lies in an enabled inbound window with guard yes (R157, R158). -/
def State.guarded (s : State) (line : Nat) : Bool :=
  s.inb.toList.any (fun e => e.enabled && e.guard && lineInExtent line e.base.toNat e.length.toNat)

/-- The class of a well-formed transaction (R157), with the line index R156 gives a capture. -/
def classify (s : State) (t : Txn) : TxnClass :=
  match t.access with
  | .read => .passThrough
  | .write mask _ =>
      if s.guarded (lineAddr t) then .refused
      else
        match s.windowAt (lineAddr t) with
        | none => .passThrough
        | some w =>
            if effectiveMask t mask = 0 then .passThrough
            else .capture w (BitVec.ofNat 22 ((t.addr.toNat - (s.win w).base.toNat) / 64))

/-- A capture context as the memory path hands a write over (R41, R162). -/
def Capture.start (w : WinId) (line : LineIndex) : Capture :=
  { window := w, line := line, phase := .slotWait, path := none, reservation := false, sessionEnded := false,
    stallTimer := none, confirmTimer := none }

/-- A transaction that is not well-formed is completed with ERR at once (R156). A READ completed with ERR carries bytes
without a meaning (R155): a free value (log 23). -/
def completeMalformed (t : Txn) (s : State) : State :=
  match t.access with
  | .read => (completeUpstream .err (some (Config.malformedBytes s.drawn)) s).setDrawn (s.drawn + 1)
  | .write _ _ => completeUpstream .err none s

/-- Accept an upstream transaction: a malformed one and a refused one complete with ERR at once, a capture takes its slot
check, anything else is forwarded (R156, R157, R161 to R163). -/
def acceptTxn (t : Txn) (s : State) : State :=
  let free := s.setMp { s.mp with offer := none }
  if wellFormedTxn t then
    match classify s t with
    | .refused => bump .guardRefusals (raise .guardRefusal (completeUpstream .err none free))
    | .passThrough => presentFg t (free.setMp { free.mp with txn := some ⟨t, .passThrough, false⟩ })
    | .capture w line =>
        slotCheck (Capture.start w line) (free.setMp { free.mp with txn := some ⟨t, .capture w line, false⟩ })
  else completeMalformed t free

/-- Accept an offer that stands, once the port holds no transaction and the part is out of reset (R154, R167). -/
def acceptOffer (s : State) : State :=
  match s.mp.offer with
  | none => s
  | some t => if s.pins.resetAsserted || s.mp.txn.isSome then s else acceptTxn t s

/-! ### Apply unit (R105 to R118) -/

/-- The check of a head entry against its inbound entry: the reject reason, if any (R107). -/
def State.applyCheck (s : State) (e : ApplyEntry) : Option RejectReason :=
  let i := s.entry e.window
  if i.enabled then
    if i.length.toNat < e.line.toNat * 64 + 64 then some .range else none
  else some .disabled

/-- The downstream write of an entry that passed its check (R108). -/
def State.applyWrite (s : State) (e : ApplyEntry) : Txn :=
  { access := .write e.mask e.data, addr := (s.entry e.window).base + BitVec.ofNat 32 (e.line.toNat * 64), length := 64 }

/-- The report of an entry finished without a reject, while the link is UP: unreported rises, the ack delay timer
starts, and an ACK becomes owed when the batch is full or ACK_DELAY is 0 (R109, R111). -/
def reportFinish (s : State) : State :=
  if s.isUp then
    let n := s.au.unreported + 1
    let s1 := s.setAu
      { s.au with
        unreported := n
        ackDelay := if s.au.unreported = 0 then some s.params.ackDelay.toNat else s.au.ackDelay }
    if s.params.ackBatch.toNat ≤ n ∨ s.params.ackDelay = 0 then oweAck s1 else s1
  else s

/-- The report of an entry finished with a reject: counted and raised always, and while the link is UP an ACK of its own
becomes owed and the unit is BLOCKED (R110). -/
def reportReject (reason : RejectReason) (s : State) : State :=
  let s1 := raise .rejectSent (bump .rejectsSent s)
  if s.isUp then
    owe (.ack s1.au.appliedThrough (s1.au.appliedThrough + 16) (some reason))
      (s1.setAu { s1.au with unreported := 0, ackDelay := none, state := .blocked })
  else s1

/-- Finish the head entry, whose reject reason is settled (R109, steps 2 to 6, without the next head). -/
def finishEntry (e : ApplyEntry) (s : State) : State :=
  let s1 := s.setAu
    { s.au with
      queue := s.au.queue.tail
      state := .idle
      appliedThrough := e.seq
      lastApplied := if s.isUp then s.au.lastApplied else e.seq
      promotion := if s.au.queue.tail.length ≤ Config.demoteAt then false else s.au.promotion }
  let s2 :=
    match e.reject with
    | none => reportFinish s1
    | some reason => reportReject reason s1
  if s2.au.queue.isEmpty then
    applyQueueEmptied (s2.setAu { s2.au with drained := if s2.isUp then s2.au.drained else true })
  else s2

/-- In IDLE with an entry waiting, the unit takes the head and checks it: a rejected entry is finished at once, another
is written (R107, R108). `n` bounds the entries taken in one event. -/
def takeEntries : Nat → State → State
  | 0, s => s
  | n + 1, s =>
      match s.au.queue with
      | [] => s
      | e :: _ =>
          if s.au.state = .idle then
            match s.applyCheck e with
            | some reason => takeEntries n (finishEntry { e with reject := some reason } s)
            | none => presentAp (s.applyWrite e) (s.setAu { s.au with state := .writing })
          else s

/-- The unit takes head entries as far as it can (R107). -/
def takeHead (s : State) : State := takeEntries s.au.queue.length s

/-! ### Link controller (R52 to R71) -/

/-- Entry into TRAINING (R57). No frame is sent from here on (R52, R54), so a GOODBYE that has not begun is not sent
(log 31). -/
def enterTraining (s : State) : State :=
  (s.setLanes { s.lanes with goodbye := none }).setLc
    { s.lc with state := .training, training := some Config.trainingTime, holdoff := none }

/-- Owed HELLO and HELLO_ACK frames that have not begun are dropped on leaving HELLO for DOWN, FAULT or OFF (R59). -/
def dropHandshake (s : State) : State :=
  s.setLanes
    { s.lanes with
      owed := s.lanes.owed.filter fun o =>
        match o with
        | .ack .. => true
        | .nak .. => true
        | .hello => false
        | .helloAck .. => false }

/-- Entry into DOWN from TRAINING or HELLO (R57, R58, R59). -/
def enterDown (s : State) : State :=
  dropHandshake
    (s.setLc { s.lc with state := .down, training := none, helloInterval := none, holdoff := some Config.holdoffTime })

/-- Entry into FAULT (R62). -/
def enterFault (s : State) : State :=
  raise .linkFault (dropHandshake (s.setLc
    { s.lc with
      state := .fault, training := none, holdoff := none, helloInterval := none, liveness := none, keepalive := none,
      proposal := 0, attempts := 0, peerHello := none }))

/-- Entry into HELLO (R59). -/
def enterHello (s : State) : State :=
  oweHello (s.setLc
    { s.lc with
      state := .hello, training := none, proposal := epochSucc s.lc.lastEpoch, attempts := 0, peerHello := none })

/-- Whether a session end with this cause sends a GOODBYE (R67). -/
def DownCause.sendsGoodbye : DownCause → Bool
  | .liveness => false
  | .lost => false
  | .retry => true
  | .protocol => true
  | .peerGoodbye => false
  | .command => true
  | .resetMirror => true

/-- What the link controller and the lanes do at a session end (R67, R68, steps 1 to 5). -/
def leaveUp (cause : DownCause) (peerReason : Option DownCause) (s : State) : State :=
  let s1 := s.setLanes
    { s.lanes with
      owed := []
      goodbye := if cause.sendsGoodbye then some (s.lc.epoch, cause) else none }
  let s2 := s1.setLc
    { s1.lc with
      state := if cause = .command then .off else .down
      epoch := 0
      lastDown := some cause
      peerReason := peerReason
      proposal := 0, attempts := 0, peerHello := none
      liveness := none, keepalive := none
      holdoff := if cause = .command then none else some Config.holdoffTime }
  raise .linkDown (if cause = .protocol then raise .protocolError s2 else s2)

/-- A session end at the transmit scheduler (R76, R94). -/
def endScheduler (s : State) : State := s.setTs { s.ts with rounds := 0, ackTimer := none }

/-- A session end or RESET_MIRROR at the capture context: a confirm wait ends with ERR, else the session-ended flag is
set (R41, R49). At a RESET_MIRROR the flag decides nothing, for the capture is released as well (R160; log 29), and it is
set also where nothing is left to reset (log 36). -/
def endCapture (s : State) : State :=
  match s.cu with
  | none => s
  | some c =>
      match c.phase with
      | .confirmWait => completeUpstream .err none s
      | .slotWait => s.setCu (some { c with sessionEnded := true })
      | .localWrite => s.setCu (some { c with sessionEnded := true })

/-- A session end at the apply unit (R116); a unit that was BLOCKED then takes its next head entry (R107). -/
def endApply (s : State) : State :=
  takeHead (s.setAu
    { s.au with
      state := if s.au.state = .blocked then .idle else s.au.state
      unreported := 0
      ackDelay := none
      lastEpoch := s.au.epoch
      lastApplied := s.au.appliedThrough
      drained := s.au.queue.isEmpty })

/-- The announcement of a session end to the blocks (R68, step 6). The fence unit's place among them is a free value
(log 6). The apply unit comes before the recheck of a waiting capture, so that on a free port its request is the one
granted first: a choice, since R68 orders no blocks and R181 allows either (log 30). -/
def announceEnd (s : State) : State :=
  endApply (endCapture (failFences s.fu.fences (endScheduler (endWindows (discardAll s)))))

/-- A session end; none outside UP (R67, R68, R70). A capture in SLOT_WAIT rechecks (R49) after the apply unit has taken
the event (log 30), the engine selects (R137), and an offer that a completion let in is accepted (log 14). -/
def sessionEnd (cause : DownCause) (peerReason : Option DownCause) (s : State) : State :=
  if s.isUp then acceptOffer (settle (announceEnd (leaveUp cause peerReason s))) else s

end Sys2Proof.Machine
end

