-- ==== Sys2Proof/Machine/Windows.lean ====
section
/-! DEFINITION. What the window commands do once their request has been taken (spec 01_mirror_windows.md, R6 to R22). A
command answers its status, its response data and the state it leaves; a refused one leaves the state as it was (R6). -/

namespace Sys2Proof.Machine

/-- What the execution of a maintenance command gives: status, response data, state (R197, R200). -/
abbrev Execution := Status × List Byte × State

/-- A refused command changes nothing (R6, R201). -/
def refuse (status : Status) (s : State) : Execution := (status, [], s)

/-- An accepted command without response data. -/
def accept (s : State) : Execution := (.ok, [], s)

/-- The first check of a command on a window or entry: its number (R6). -/
def onWindow (w : Byte) (run : WinId → State → Execution) (s : State) : Execution :=
  match winId w with
  | none => refuse .badArg s
  | some i => run i s

/-! ### Outbound configuration (R8 to R11) -/

/-- The checks of an outbound configuration against SEGMENT_SIZE (R8, R9). -/
def State.extentFits (s : State) (base : Addr) (length : Nat) : Bool :=
  decide (base.toNat % s.params.segmentBytes = 0) && decide (base.toNat + length * s.params.segmentBytes ≤ 2 ^ 32)

/-- POSTED or CONFIRMED from its choice byte (R212). -/
def policyOf (b : Byte) : Option Policy := if b = 0 then some .posted else if b = 1 then some .confirmed else none

/-- WIN_CONFIG (R8). -/
def winConfigAt (base : BitVec 32) (length mapOffset : BitVec 16) (policy autoResync : Byte) (w : WinId) (s : State) :
    Execution :=
  let x := s.win w
  if x.isEnabled then refuse .badState s
  else
    match policyOf policy, yesNo autoResync with
    | some p, some a =>
        if s.extentFits base length.toNat && decide (1 ≤ length.toNat) && decide (length.toNat ≤ 4096)
            && decide (mapOffset.toNat + length.toNat ≤ 4096) then
          accept (s.setWin w
            { x with base := base, length := length.toNat, mapOffset := mapOffset.toNat, policy := p, autoResync := a })
        else refuse .badArg s
    | _, _ => refuse .badArg s

/-- The overlap checks of WIN_ENABLE (R7): another enabled outbound window in address or in map range, or an enabled
inbound window in address. -/
def State.outboundConflict (s : State) (w : WinId) : Bool :=
  let x := s.win w
  (List.finRange 8).any (fun v =>
      decide (v ≠ w) && (s.win v).isEnabled &&
        (overlap x.base.toNat (s.extentSize x) (s.win v).base.toNat (s.extentSize (s.win v))
          || overlap x.mapOffset x.length (s.win v).mapOffset (s.win v).length))
    || (List.finRange 8).any (fun i =>
      (s.entry i).enabled && overlap x.base.toNat (s.extentSize x) (s.entry i).base.toNat (s.entry i).length.toNat)

/-- The marks of an enable: all of the map range for FULL, none for CLEAN (R10, R123). -/
def enableMarks (full : Bool) (w : WinId) (s : State) : State :=
  let x := s.win w
  if full then (s.setDm (s.dm ||| x.rangeMask)).setWin w { x with cursor := 0, dirtyCount := x.length }
  else s.setWin w { x with cursor := 0, dirtyCount := 0 }

/-- The new state of an enable, by the link state and the marks (R10). -/
def enableState (w : WinId) (s : State) : State :=
  if s.isUp then
    if (s.win w).dirtyCount = 0 then enterWindow w .active none s else enterWindow w .resync none s
  else enterWindow w .degraded none s

/-- WIN_ENABLE (R9, R10). -/
def winEnableAt (mode : Byte) (w : WinId) (s : State) : Execution :=
  let x := s.win w
  if x.isEnabled || decide (x.length = 0) then refuse .badState s
  else if s.rq.records.any (fun r => decide (r.window = w)) then refuse .busy s
  else
    match yesNo mode with
    | none => refuse .badArg s
    | some full =>
        if s.extentFits x.base x.length && !s.outboundConflict w then
          accept (settle (enableState w (enableMarks full w s)))
        else refuse .badArg s

/-- The resync engine's current segment belongs to a window (R15). -/
def State.holdsSegment (s : State) (w : WinId) : Bool := s.re.current.any (fun g => decide (g.window = w))

/-- A window turned OFF: marks, dirty_count, cursor and halt_cause cleared, the configuration kept, and its current
segment, if any, abandoned (R11, R123). -/
def turnOff (w : WinId) (s : State) : State :=
  let x := s.win w
  let s1 := (s.setDm (s.dm &&& ~~~x.rangeMask)).setWin w
    { x with state := .off, haltCause := none, cursor := 0, dirtyCount := 0 }
  if s.holdsSegment w then abandon s1 else s1

/-- A capture transaction of window `w` is released to pass-through (R160). -/
def releaseCapture (w : WinId) (s : State) : State :=
  match s.mp.txn with
  | none => s
  | some u =>
      match u.cls with
      | .capture v _ => if v = w then s.setMp { s.mp with txn := some { u with released := true } } else s
      | .passThrough => s
      | .refused => s

/-- WIN_DISABLE (R11, R50, R160). -/
def winDisableAt (w : WinId) (s : State) : Execution :=
  if (s.win w).isEnabled then accept (settle (releaseCapture w (turnOff w s))) else accept s

/-! ### Outbound states (R18 to R21) -/

/-- WIN_RESYNC (R18). -/
def winResyncAt (w : WinId) (s : State) : Execution :=
  match (s.win w).state with
  | .off => refuse .badState s
  | .halted => refuse .badState s
  | .active => accept s
  | .resync => accept s
  | .degraded => if s.isUp then accept (settle (toResync w s)) else refuse .badState s

/-- WIN_MARK's marks: segments `first` to `first + count - 1` (R19). -/
def markRun (w : WinId) (first count : Nat) (s : State) : State :=
  (List.range count).foldl (fun t k => markSegment w (first + k) t) s

/-- WIN_MARK (R19). -/
def winMarkAt (first count : BitVec 16) (w : WinId) (s : State) : Execution :=
  let x := s.win w
  if x.isEnabled then
    if decide (count.toNat = 0) || decide (x.length < first.toNat + count.toNat) then refuse .badArg s
    else
      let s1 := markRun w first.toNat count.toNat s
      accept (settle (if x.state = .active then toResync w s1 else s1))
  else refuse .badState s

/-- WIN_HALT (R20). -/
def winHaltAt (w : WinId) (s : State) : Execution :=
  match (s.win w).state with
  | .off => refuse .badState s
  | .halted => accept s
  | .active => accept (settle (enterWindow w .halted (some .command) s))
  | .degraded => accept (settle (enterWindow w .halted (some .command) s))
  | .resync => accept (settle (enterWindow w .halted (some .command) s))

/-- WIN_RESUME (R21). -/
def winResumeAt (w : WinId) (s : State) : Execution :=
  match (s.win w).state with
  | .halted =>
      let s1 := enterWindow w .degraded none s
      accept (settle (if (s1.win w).autoResync && s1.isUp then toResync w s1 else s1))
  | .off => refuse .badState s
  | .active => refuse .badState s
  | .degraded => refuse .badState s
  | .resync => refuse .badState s

/-- WIN_STATUS (R15, R212). -/
def winStatusAt (w : WinId) (s : State) : Execution :=
  let x := s.win w
  (.ok, [x.state.code, codeOr0 HaltCause.code x.haltCause] ++ count16 x.dirtyCount ++ count16 x.cursor
    ++ [flagByte (s.holdsSegment w)], s)

/-! ### Inbound entries (R12 to R15) -/

/-- IN_CONFIG (R12). -/
def inConfigAt (base length : BitVec 32) (guard : Byte) (i : WinId) (s : State) : Execution :=
  let e := s.entry i
  if e.enabled then refuse .badState s
  else
    match yesNo guard with
    | none => refuse .badArg s
    | some g =>
        if decide (base.toNat % 64 = 0) && decide (length.toNat % 64 = 0) && decide (64 ≤ length.toNat)
            && decide (length.toNat ≤ 2 ^ 30) && decide (base.toNat + length.toNat ≤ 2 ^ 32) then
          accept (s.setEntry i { e with base := base, length := length, guard := g })
        else refuse .badArg s

/-- The overlap check of IN_ENABLE (R7). -/
def State.inboundConflict (s : State) (i : WinId) : Bool :=
  let e := s.entry i
  (List.finRange 8).any (fun w =>
      (s.win w).isEnabled && overlap e.base.toNat e.length.toNat (s.win w).base.toNat (s.extentSize (s.win w)))
    || (List.finRange 8).any (fun j =>
      decide (j ≠ i) && (s.entry j).enabled &&
        overlap e.base.toNat e.length.toNat (s.entry j).base.toNat (s.entry j).length.toNat)

/-- IN_ENABLE (R13). -/
def inEnableAt (i : WinId) (s : State) : Execution :=
  let e := s.entry i
  if e.enabled || decide (e.length = 0) then refuse .badState s
  else if s.inboundConflict i then refuse .badArg s
  else accept (s.setEntry i { e with enabled := true })

/-- IN_DISABLE (R14). -/
def inDisableAt (i : WinId) (s : State) : Execution := accept (s.setEntry i { s.entry i with enabled := false })

/-- IN_STATUS (R15, R212). -/
def inStatusAt (i : WinId) (s : State) : Execution :=
  let e := s.entry i
  (.ok, bytes32 e.base ++ bytes32 e.length ++ [flagByte e.enabled, flagByte e.guard], s)

end Sys2Proof.Machine
end

