-- ==== Sys2Proof/Machine/Commands.lean ====
section
/-! DEFINITION. What the maintenance commands other than the window commands do once their request has been taken: the
link (R55, R56, R72), fences (R147, R148), alerts and counters (R185 to R192), parameter words (R203, R204) and
RESET_MIRROR (R207, R208). -/

namespace Sys2Proof.Machine

/-! ### The link (R55, R56, R72) -/

/-- LINK_ENABLE (R55). -/
def linkEnableRun (s : State) : Execution :=
  let s1 := s.setLc { s.lc with enabled := true }
  accept (if s.lc.state = .off then enterTraining s1 else s1)

/-- The link made OFF from a state without a session (R56). -/
def linkOff (s : State) : State :=
  dropHandshake (s.setLc
    { s.lc with
      state := .off, training := none, holdoff := none, helloInterval := none, liveness := none, keepalive := none,
      proposal := 0, attempts := 0, peerHello := none })

/-- LINK_DISABLE (R56). -/
def linkDisableRun (s : State) : Execution :=
  let s1 := s.setLc { s.lc with enabled := false }
  match s.lc.state with
  | .up => accept (sessionEnd .command none s1)
  | .off => accept s1
  | .training => accept (linkOff s1)
  | .hello => accept (linkOff s1)
  | .down => accept (linkOff s1)
  | .fault => accept (linkOff s1)

/-- LINK_STATUS: 21 bytes, in the order of R212 (R72). -/
def linkStatusRun (s : State) : Execution :=
  (.ok,
    [s.lc.state.code, flagByte s.lc.enabled, s.lc.epoch, s.lc.lastEpoch, codeOr0 DownCause.code s.lc.lastDown,
      codeOr0 DownCause.code s.lc.peerReason]
    ++ bytes16 s.rq.nextSeq ++ bytes16 s.ts.ackedThrough ++ bytes16 s.ts.sendLimit
    ++ [BitVec.ofNat 8 s.rq.records.length, BitVec.ofNat 8 s.copyCount, BitVec.ofNat 8 s.au.queue.length]
    ++ bytes16 s.au.appliedThrough ++ bytes16 s.au.lastApplied ++ [s.au.lastEpoch, flagByte s.au.drained], s)

/-! ### Fences (R147, R148) -/

/-- The response of an accepted FENCE: complete flag, ticket (0 when complete), degraded flag (R147, R212). -/
def fenceReply (s : State) : List Byte :=
  match s.rq.records.getLast? with
  | none => [1, 0, 0, flagByte s.someBehind]
  | some r => [0] ++ bytes16 r.seq ++ [flagByte s.someBehind]

/-- FENCE (R147). -/
def fenceRun (tag : Byte) (s : State) : Execution :=
  if Config.fenceSlots ≤ s.fu.fences.length then refuse .busy s
  else (.ok, fenceReply s, issueFence (.port tag) s)

/-- The four bytes of a result log entry (R212). Bits 3 to 7 of the flags byte, which R212 does not name, are sent as 0
(log 35). -/
def LogEntry.bytes (e : LogEntry) : List Byte :=
  [e.tag, flagByte e.ticket.isSome ||| (flagByte e.done <<< 1) ||| (flagByte e.degraded <<< 2)]
    ++ bytes16 (e.ticket.getD 0)

/-- The response of FENCE_LOG: the count, the pending count and eight entry places (R148, R212). -/
def fenceLogReply (s : State) : List Byte :=
  [BitVec.ofNat 8 s.fu.log.length, BitVec.ofNat 8 s.fu.fences.length]
    ++ (s.fu.log.flatMap LogEntry.bytes ++ List.replicate ((Config.logSlots - s.fu.log.length) * 4) 0)

/-- FENCE_LOG (R148). -/
def fenceLogRun (clear : Byte) (s : State) : Execution :=
  match yesNo clear with
  | none => refuse .badArg s
  | some c => (.ok, fenceLogReply s, if c then s.setFu { s.fu with log := [] } else s)

/-! ### Alerts and counters (R185 to R192) -/

/-- ALERT_READ: the summaries and the enables, then the summaries cleared (R185). Bits 4 to 7 of both bytes, which R212
gives no category, are 0 (log 33). -/
def alertReadRun (s : State) : Execution :=
  (.ok, [s.al.summary.setWidth 8, s.al.enables.setWidth 8], s.setAl (s.al.examine 0 s.al.enables))

/-- The enables four yes/no values give, bit c for category c (R186, R212). -/
def enableBits (w l f i : Bool) : BitVec 4 := BitVec.ofBool i ++ BitVec.ofBool f ++ BitVec.ofBool l ++ BitVec.ofBool w

/-- ALERT_ENABLE (R186). -/
def alertEnableRun (ew el ef ei : Byte) (s : State) : Execution :=
  match yesNo ew, yesNo el, yesNo ef, yesNo ei with
  | some w, some l, some f, some i => accept (s.setAl (s.al.examine s.al.summary (enableBits w l f i)))
  | _, _, _, _ => refuse .badArg s

/-- CAUSE_READ (R187). -/
def causeReadRun (category : Byte) (s : State) : Execution :=
  match categoryOf category with
  | none => refuse .badArg s
  | some c => (.ok, bytes32 (s.al.detail.flags c), s)

/-- CAUSE_CLEAR (R188). -/
def causeClearRun (category : Byte) (list : BitVec 32) (s : State) : Execution :=
  match categoryOf category with
  | none => refuse .badArg s
  | some c =>
      if list.toNat < 2 ^ c.causes then accept (s.setAl { s.al with detail := s.al.detail.clear list c })
      else refuse .badArg s

/-- COUNTERS_READ (R192). -/
def countersReadRun (clear : Byte) (s : State) : Execution :=
  match yesNo clear with
  | none => refuse .badArg s
  | some c =>
      (.ok, s.counters.toList.flatMap bytes16, if c then s.setCounters (Vector.replicate 14 0) else s)

/-! ### Parameter words (R203, R204) -/

/-- GET_PARAM (R203). -/
def getParamRun (word : Byte) (s : State) : Execution :=
  match paramOf word with
  | none => refuse .badArg s
  | some p => (.ok, bytes16 (s.params.get p), s)

/-- The writing condition of a parameter word (R202, R204). -/
def State.writable (s : State) (p : ParamWord) : Bool :=
  if p.isLinkWord then decide (s.lc.state = .off)
  else if p = .segmentSize then s.out.toList.all (fun x => !x.isEnabled)
  else true

/-- SET_PARAM (R204). -/
def setParamRun (word : Byte) (value : BitVec 16) (s : State) : Execution :=
  match paramOf word with
  | none => refuse .badArg s
  | some p =>
      if s.writable p then
        if p.inRange value && s.params.crossCheck value p then accept (s.setParams (s.params.put value p))
        else refuse .badArg s
      else refuse .badState s

/-! ### RESET_MIRROR (R207) -/

/-- A capture transaction in progress is released to pass-through (R160, R169). -/
def releaseAny (s : State) : State :=
  match s.mp.txn with
  | none => s
  | some u =>
      match u.cls with
      | .capture _ _ => s.setMp { s.mp with txn := some { u with released := true } }
      | .passThrough => s
      | .refused => s

/-- Every outbound window OFF, its configuration kept, and every mark clear (R3, R120). -/
def clearWindows (s : State) : State :=
  (s.setDm 0).setOut (s.out.map (fun x => { x with state := .off, haltCause := none, cursor := 0, dirtyCount := 0 }))

/-- RESET_MIRROR at the resync engine: a current segment abandoned, then IDLE with last-served 7 (R125, R138, R207).
DESIGN CHOICE: last-served becomes 7 also where nothing is left to reset, of which R208 says that the command changes
nothing (log 36). -/
def resetEngine (s : State) : State :=
  let s1 := if s.re.current.isSome then abandon s else s
  s1.setRe { s1.re with state := .idle, lastServed := 7 }

/-- RESET_MIRROR at the apply unit: the queue emptied without applying, an ungranted write withdrawn, a granted one's
result to be ignored (R118). -/
def resetApply (s : State) : State :=
  let granted := decide (s.au.state = .writing) && s.da.ap.isNone
  let s1 := (withdrawAp s).setAu
    { s.au with
      queue := [], state := .idle, unreported := 0, ackDelay := none, promotion := false, drained := true
      writeIgnored := s.au.writeIgnored || granted }
  let s2 := s1.setLanes { s1.lanes with owed := s1.lanes.owed.filter (fun o => !o.isAck) }
  if s.au.queue.isEmpty then s2 else applyQueueEmptied s2

/-- RESET_MIRROR at the blocks other than the link controller (R207). The windows are turned OFF before any session end
reaches them, so that no WINDOW cause is raised (R3, R189, R207) and each fence fails with the flag it holds (R146). -/
def resetBlocks (s : State) : State :=
  let s1 := discardRecords (resetEngine (clearWindows (releaseAny s)))
  let s2 := resetApply (recheckSlot (endCapture s1))
  failAll s2.fu.fences (s2.setDa { s2.da with copyFloor := 0 })

/-- RESET_MIRROR (R207): the blocks are reset, and in UP the session ends (R71). -/
def resetMirrorRun (s : State) : Execution :=
  accept (acceptOffer (sessionEnd .resetMirror none (resetBlocks s)))

end Sys2Proof.Machine
end

