-- ==== Sys2Proof/Machine/Port.lean ====
section
/-! DEFINITION. The maintenance port (spec 11_the_maintenance_port.md, R194 to R201): the transaction's states, bytes and
chip select, and the meaning of each maintenance command as the completion of its request CRC byte (R197). -/

namespace Sys2Proof.Machine

/-- The outcome of a row: the spec gives every event a next state. -/
abbrev Step := Host.Outcome State Fault Refusal

/-- What the execution of a request gives, in the state it finds (R200). -/
def runRequest (r : Request) (s : State) : Execution :=
  match r with
  | .winConfig w base length mapOffset policy autoResync => onWindow w (winConfigAt base length mapOffset policy autoResync) s
  | .winEnable w mode => onWindow w (winEnableAt mode) s
  | .winDisable w => onWindow w winDisableAt s
  | .winResync w => onWindow w winResyncAt s
  | .winHalt w => onWindow w winHaltAt s
  | .winResume w => onWindow w winResumeAt s
  | .winMark w first count => onWindow w (winMarkAt first count) s
  | .winStatus w => onWindow w winStatusAt s
  | .inConfig i base length guard => onWindow i (inConfigAt base length guard) s
  | .inEnable i => onWindow i inEnableAt s
  | .inDisable i => onWindow i inDisableAt s
  | .inStatus i => onWindow i inStatusAt s
  | .linkEnable => linkEnableRun s
  | .linkDisable => linkDisableRun s
  | .linkStatus => linkStatusRun s
  | .fence tag => fenceRun tag s
  | .fenceLog clear => fenceLogRun clear s
  | .alertRead => alertReadRun s
  | .alertEnable ew el ef ei => alertEnableRun ew el ef ei s
  | .causeRead category => causeReadRun category s
  | .causeClear category list => causeClearRun category list s
  | .countersRead clear => countersReadRun clear s
  | .getParam word => getParamRun word s
  | .setParam word value => setParamRun word value s
  | .resetMirror => resetMirrorRun s

/-- The port drives MSDO with a byte (R194). -/
def shiftOut (b : Byte) (s : State) : State := s.setPins { s.pins with msdo := some b }

/-- The response is formed and the port enters RESPONDING; the request CRC byte itself reads as all ones (R195, R197). -/
def respond (e : Execution) : State :=
  shiftOut 0xFF (e.2.2.setPort (.responding (responseBytes e.1 e.2.1) 0))

/-- The request CRC byte is complete: a bad CRC is answered BAD_CRC without execution, else the request is executed
(R197). -/
def completeRequest (r : Request) (crc : Byte) (s : State) : State :=
  if crc8 (r.code :: r.args) = crc then respond (runRequest r s) else respond (.badCrc, [], s)

/-- The port is in RECEIVING and holds the command byte and all the argument bytes of a request. -/
def State.holdsRequest (s : State) (r : Request) : Bool :=
  match s.port with
  | .receiving (some code) args _ => decide (code = r.code) && decide (args = r.args) && !s.pins.resetAsserted
  | _ => false

/-- The row of a maintenance command: the request CRC byte completes while the port holds that request (R197). When it
holds no such request the event cannot occur, and nothing changes (log 1, log 3). -/
def onRequest (r : Request) (crc : Byte) (s : State) : State :=
  if s.holdsRequest r then completeRequest r crc s else s

/-! ### The 25 commands -/

/-- WIN_CONFIG (R8, R197). -/
def execWinConfig (w : Byte) (base : BitVec 32) (length mapOffset : BitVec 16) (policy autoResync crc : Byte) (s : State) :
    Step :=
  .next (onRequest (.winConfig w base length mapOffset policy autoResync) crc s)

/-- WIN_ENABLE (R9, R10, R197). -/
def execWinEnable (w mode crc : Byte) (s : State) : Step :=
  .next (onRequest (.winEnable w mode) crc s)

/-- WIN_DISABLE (R11, R197). -/
def execWinDisable (w crc : Byte) (s : State) : Step :=
  .next (onRequest (.winDisable w) crc s)

/-- WIN_RESYNC (R18, R197). -/
def execWinResync (w crc : Byte) (s : State) : Step :=
  .next (onRequest (.winResync w) crc s)

/-- WIN_HALT (R20, R197). -/
def execWinHalt (w crc : Byte) (s : State) : Step :=
  .next (onRequest (.winHalt w) crc s)

/-- WIN_RESUME (R21, R197). -/
def execWinResume (w crc : Byte) (s : State) : Step :=
  .next (onRequest (.winResume w) crc s)

/-- WIN_MARK (R19, R197). -/
def execWinMark (w : Byte) (first count : BitVec 16) (crc : Byte) (s : State) : Step :=
  .next (onRequest (.winMark w first count) crc s)

/-- WIN_STATUS (R15, R197). -/
def execWinStatus (w crc : Byte) (s : State) : Step :=
  .next (onRequest (.winStatus w) crc s)

/-- IN_CONFIG (R12, R197). -/
def execInConfig (i : Byte) (base length : BitVec 32) (guard crc : Byte) (s : State) : Step :=
  .next (onRequest (.inConfig i base length guard) crc s)

/-- IN_ENABLE (R13, R197). -/
def execInEnable (i crc : Byte) (s : State) : Step :=
  .next (onRequest (.inEnable i) crc s)

/-- IN_DISABLE (R14, R197). -/
def execInDisable (i crc : Byte) (s : State) : Step :=
  .next (onRequest (.inDisable i) crc s)

/-- IN_STATUS (R15, R197). -/
def execInStatus (i crc : Byte) (s : State) : Step :=
  .next (onRequest (.inStatus i) crc s)

/-- LINK_ENABLE (R55, R197). -/
def execLinkEnable (crc : Byte) (s : State) : Step :=
  .next (onRequest .linkEnable crc s)

/-- LINK_DISABLE (R56, R197). -/
def execLinkDisable (crc : Byte) (s : State) : Step :=
  .next (onRequest .linkDisable crc s)

/-- LINK_STATUS (R72, R197). -/
def execLinkStatus (crc : Byte) (s : State) : Step :=
  .next (onRequest .linkStatus crc s)

/-- FENCE (R147, R197). -/
def execFence (tag crc : Byte) (s : State) : Step :=
  .next (onRequest (.fence tag) crc s)

/-- FENCE_LOG (R148, R197). -/
def execFenceLog (clear crc : Byte) (s : State) : Step :=
  .next (onRequest (.fenceLog clear) crc s)

/-- ALERT_READ (R185, R197). -/
def execAlertRead (crc : Byte) (s : State) : Step :=
  .next (onRequest .alertRead crc s)

/-- ALERT_ENABLE (R186, R197). -/
def execAlertEnable (ew el ef ei crc : Byte) (s : State) : Step :=
  .next (onRequest (.alertEnable ew el ef ei) crc s)

/-- CAUSE_READ (R187, R197). -/
def execCauseRead (category crc : Byte) (s : State) : Step :=
  .next (onRequest (.causeRead category) crc s)

/-- CAUSE_CLEAR (R188, R197). -/
def execCauseClear (category : Byte) (list : BitVec 32) (crc : Byte) (s : State) : Step :=
  .next (onRequest (.causeClear category list) crc s)

/-- COUNTERS_READ (R192, R197). -/
def execCountersRead (clear crc : Byte) (s : State) : Step :=
  .next (onRequest (.countersRead clear) crc s)

/-- GET_PARAM (R203, R197). -/
def execGetParam (word crc : Byte) (s : State) : Step :=
  .next (onRequest (.getParam word) crc s)

/-- SET_PARAM (R204, R197). -/
def execSetParam (word : Byte) (value : BitVec 16) (crc : Byte) (s : State) : Step :=
  .next (onRequest (.setParam word value) crc s)

/-- RESET_MIRROR (R207, R208, R197). -/
def execResetMirror (crc : Byte) (s : State) : Step :=
  .next (onRequest .resetMirror crc s)

/-! ### Bytes and chip select (R194 to R199) -/

/-- A byte completes in RECEIVING: the command byte, an argument byte, or the request CRC byte (R196, R197). -/
def receiveByte (b : Byte) (command : Option Byte) (args : List Byte) (s : State) : State :=
  match command with
  | none =>
      if (argCount b).isSome then shiftOut 0xFF (s.setPort (.receiving (some b) [] 0))
      else shiftOut 0xFF (s.setPort .refusing)
  | some code =>
      match Request.parse code args with
      | some r => completeRequest r b s
      | none => shiftOut 0xFF (s.setPort (.receiving (some code) (args ++ [b]) 0))

/-- A byte completes in RESPONDING: the next byte of the response is shifted out, and after its last one the port enters
TRAILING (R198). -/
def respondByte (response : List Byte) (shifted : Nat) (s : State) : State :=
  shiftOut (response.getD shifted 0xFF)
    (s.setPort (if response.length ≤ shifted + 1 then .trailing else .responding response (shifted + 1)))

/-- A byte completes on the port (R194, R195); MSCLK is ignored while MCS_N is high or RESET_N is asserted. -/
def portByte (b : Byte) (s : State) : State :=
  if s.pins.resetAsserted then s
  else
    match s.port with
    | .idle => s
    | .ignoring => shiftOut 0xFF s
    | .receiving command args _ => receiveByte b command args s
    | .refusing => shiftOut Status.unknown.code s
    | .responding response shifted => respondByte response shifted s
    | .trailing => shiftOut 0xFF s

/-- MAINTENANCE_BYTE_COMPLETE (R195, R196, R198). A byte that is the request CRC byte of the request held is that
command's row (log 3). -/
def execMaintenanceByteComplete (b : Byte) (s : State) : Step := .next (portByte b s)

/-- The command byte is complete and undefined: REFUSING (R196). -/
def refuseCommand (code : Byte) (s : State) : State :=
  match s.port with
  | .receiving none _ _ =>
      if (argCount code).isSome || s.pins.resetAsserted then s else shiftOut 0xFF (s.setPort .refusing)
  | _ => s

/-- UNKNOWN_COMMAND (R196). -/
def execUnknownCommand (code : Byte) (s : State) : Step := .next (refuseCommand code s)

/-- MCS_N falls: in IDLE a transaction starts in RECEIVING with nothing held (R194). While RESET_N is asserted only the
pin's level changes (R167). -/
def chipSelect (s : State) : State :=
  let s1 := s.setPins { s.pins with mcsHigh := false }
  if s.pins.resetAsserted then s1
  else
    match s.port with
    | .idle => shiftOut 0xFF (s1.setPort (.receiving none [] 0))
    | _ => s1

/-- MCS_N_FALL (R194). -/
def execMcsNFall (s : State) : Step := .next (chipSelect s)

/-- MCS_N rises: the transaction ends in whatever state it is, and MSDO becomes high-impedance (R194, R199). -/
def chipRelease (s : State) : State :=
  let s1 := s.setPins { s.pins with mcsHigh := true, msdo := none }
  if s.pins.resetAsserted then s1 else s1.setPort .idle

/-- MCS_N_RISE (R199). -/
def execMcsNRise (s : State) : Step := .next (chipRelease s)

end Sys2Proof.Machine
end

