-- ==== Sys2Proof/Machine/Memory.lean ====
section
/-! DEFINITION. The memory path and the capture unit: upstream offers, foreground completions, and the stall, confirm and
merge timers (spec 02_write_capture_and_the_replay_queue.md and 08_the_memory_path.md). -/

namespace Sys2Proof.Machine

/-! ### Offers (R154, R156, R157) -/

/-- An offer is made: it stands, and is accepted when the port holds no transaction and the part is out of reset (R154,
R167). A second offer beside one that stands cannot be made (log 1). -/
def offerUpstream (t : Txn) (s : State) : State :=
  match s.mp.offer with
  | some _ => s
  | none => acceptOffer (s.setMp { s.mp with offer := some t, completions := [] })

/-- UPSTREAM_OFFER (R154, R156, R157). -/
def execUpstreamOffer (t : Txn) (s : State) : Step := .next (offerUpstream t s)

/-! ### Pass-through completion (R163) -/

/-- The bytes a completion carries upstream: those of a READ (R155), as local memory gave them.
DESIGN CHOICE: a completion carries the 64 places of the line, the bytes of the span at their positions in it, and what the
places outside the span hold comes with the row and has no meaning; R155 names the bytes of the span only, and R153 leaves
their layout to the bus (log 37). -/
def readBytes (s : State) (bytes : LineData) : Option LineData :=
  match s.mp.txn with
  | none => none
  | some u =>
      match u.txn.access with
      | .read => some bytes
      | .write _ _ => none

/-- Local memory completes the foreground transaction of a pass-through: the same completion is given upstream, and the
port is granted again (R163, R173). -/
def passThroughDone (r : Result) (bytes : LineData) (s : State) : State :=
  acceptOffer (releasePort (completeUpstream r (readBytes s bytes) s))

/-- PASS_THROUGH_COMPLETE (R163): the foreground's access holds the port and no capture context owns it. A completion that
comes after a pin reset is ignored while no such access holds the port, and is taken as the completion of the access that
holds it otherwise: the row says no more (R167; log 32). -/
def execPassThroughComplete (r : Result) (bytes : LineData) (s : State) : Step :=
  .next (if s.portClient = some .fg ∧ s.cu = none then passThroughDone r bytes s else s)

/-! ### Local completion of a captured write (R44, R45, R48) -/

/-- The effective mask and the bytes of the write in progress (R153, R162). -/
def State.writeInHand (s : State) : Mask × LineData :=
  match s.mp.txn with
  | none => (0, Vector.replicate 64 0)
  | some u =>
      match u.txn.access with
      | .read => (0, Vector.replicate 64 0)
      | .write mask data => (effectiveMask u.txn mask, data)

/-- The WRITE record of a captured write (R34, R44). The bytes it did not write are a free value (log 5). -/
def writeRecord (c : Capture) (s : State) : Record :=
  let mask := s.writeInHand.1
  let confirmed := decide ((s.win c.window).policy = .confirmed)
  { seq := s.rq.nextSeq
    kind := .write
    window := c.window
    line := c.line
    mask := mask
    data := mergeLine mask (Config.unmaskedBytes s.drawn) s.writeInHand.2
    state := if mask = fullMask ∨ confirmed ∨ s.params.mergeTime = 0 then .ready else .opened
    waiter := confirmed
    segmentEnd := false }

/-- The write is appended as a new record; a POSTED write then completes, a CONFIRMED one enters CONFIRM_WAIT (R44,
R45). -/
def recordWrite (c : Capture) (s : State) : State :=
  let s1 := (append (writeRecord c s) s).setDrawn (s.drawn + 1)
  match (s.win c.window).policy with
  | .posted => completeUpstream .ok none s1
  | .confirmed =>
      s1.setCu (some
        { c with phase := .confirmWait, reservation := false, confirmTimer := some s.params.confirmTimeout.toNat })

/-- The write was not recorded: its segment is marked, the window takes the capture-failure transition, and the upstream
write completes (R24, R44, R48). -/
def markCapture (c : Capture) (r : Result) (s : State) : State :=
  completeUpstream r none (captureFailure c.window (markLine c.window c.line s))

/-- The last row of the table of R44: merge, append, or, for a merge-only write that lost its tail and finds no slot, a
mark. -/
def mirrorWrite (c : Capture) (s : State) : State :=
  if s.tailTakes c.window c.line then
    completeUpstream .ok none (merge s.writeInHand.1 s.writeInHand.2 s)
  else if c.reservation || s.slotFree then recordWrite c s
  else markCapture c .ok (bump .stallExpiries s)

/-- The outcome of a captured write whose local write completed with OK, by the window's state (R44). The session-ended
flag gives a mark in place of a record in a later session (R49); a capture that RESET_MIRROR released takes the OFF arm,
with no mark, even if its window has been enabled again (R160, R207, R208, against one clause of R49; log 29). -/
def localWriteOk (c : Capture) (s : State) : State :=
  match s.captureState c with
  | .off => completeUpstream .ok none s
  | .degraded => markCapture c .ok s
  | .halted => markCapture c .ok s
  | .active => if c.sessionEnded ∨ c.path = some .noRecord then markCapture c .ok s else mirrorWrite c s
  | .resync => if c.sessionEnded ∨ c.path = some .noRecord then markCapture c .ok s else mirrorWrite c s

/-- The outcome of a captured write whose local write completed with ERR (R48). -/
def localWriteErr (c : Capture) (s : State) : State :=
  match s.captureState c with
  | .off => completeUpstream .err none s
  | .active => markCapture c .err (bump .localErrors (raise .localMemoryError s))
  | .degraded => markCapture c .err (bump .localErrors (raise .localMemoryError s))
  | .resync => markCapture c .err (bump .localErrors (raise .localMemoryError s))
  | .halted => markCapture c .err (bump .localErrors (raise .localMemoryError s))

/-- The capture unit's handling of the local completion, before the port is granted again (R44, R48, R173). -/
def localWriteDone (c : Capture) (r : Result) (s : State) : State :=
  match r with
  | .ok => localWriteOk c s
  | .err => localWriteErr c s

/-- LOCAL_WRITE_COMPLETE (R44, R48): the foreground's access holds the port for a capture in LOCAL_WRITE. The engine
examines its conditions after the reservation is released (R128), and then the port is granted again (R173). -/
def execLocalWriteComplete (r : Result) (s : State) : Step :=
  .next
    (match s.cu with
    | none => s
    | some c =>
        if s.portClient = some .fg ∧ c.phase = .localWrite then
          acceptOffer (releasePort (settle (localWriteDone c r s)))
        else s)

/-! ### Timers (R36, R46, R47) -/

/-- STALL_TIMER_EXPIRY (R46): the write leaves SLOT_WAIT without a record. -/
def execStallTimerExpiry (s : State) : Step :=
  .next
    (match s.cu with
    | none => s
    | some c =>
        if c.phase = .slotWait ∧ c.stallTimer.isSome then
          advanceEngine (captureUnrecorded c (bump .stallExpiries s))
        else s)

/-- The waiter removed from the record that carries it (R47). -/
def dropWaiter (s : State) : State :=
  s.setRq { s.rq with records := s.rq.records.map (fun r => { r with waiter := false }) }

/-- The confirm timer expires: the waiter is removed, the write completes with ERR, and for an enabled window its segment
is marked and the capture-failure transition taken (R47); none of it for a released capture (R160). -/
def confirmExpired (c : Capture) (s : State) : State :=
  let s1 := dropWaiter s
  match s1.captureState c with
  | .off => completeUpstream .err none s1
  | .active => markCapture c .err s1
  | .degraded => markCapture c .err s1
  | .resync => markCapture c .err s1
  | .halted => markCapture c .err s1

/-- CONFIRM_TIMER_EXPIRY (R47). -/
def execConfirmTimerExpiry (s : State) : Step :=
  .next
    (match s.cu with
    | none => s
    | some c =>
        if c.phase = .confirmWait ∧ c.confirmTimer.isSome then acceptOffer (settle (confirmExpired c s)) else s)

/-- MERGE_TIMER_EXPIRY (R36): the OPEN tail closes. -/
def execMergeTimerExpiry (s : State) : Step := .next (if s.rq.mergeTimer.isSome then closeTail s else s)

end Sys2Proof.Machine
end

