-- ==== Sys2Proof/Machine/Link.lean ====
section
/-! DEFINITION. The link controller's events (spec 03_link_sessions.md): lanes, training, holdoff, the HELLO exchange, the
session and its end. -/

namespace Sys2Proof.Machine

/-! ### Training and holdoff (R52, R57, R58) -/

/-- ALIGNED (R57): TRAINING moves to HELLO. -/
def execAligned (s : State) : Step := .next (if s.lc.state = .training then enterHello s else s)

/-- The physical layer reports "lost" (R52, R59, R67). -/
def lanesLost (s : State) : State :=
  match s.lc.state with
  | .hello => enterDown s
  | .up => sessionEnd .lost none s
  | .off => s
  | .training => s
  | .down => s
  | .fault => s

/-- LOST (R52, R59, R67). -/
def execLost (s : State) : Step := .next (lanesLost s)

/-- TRAINING_TIMER_EXPIRY (R57). -/
def execTrainingTimerExpiry (s : State) : Step :=
  .next (if s.lc.state = .training ∧ s.lc.training.isSome then enterDown s else s)

/-- HOLDOFF_TIMER_EXPIRY (R58). -/
def execHoldoffTimerExpiry (s : State) : Step :=
  .next (if s.lc.state = .down ∧ s.lc.holdoff.isSome then enterTraining s else s)

/-! ### The HELLO exchange (R59 to R63) -/

/-- Another HELLO if fewer than 16 have been sent, else DOWN (R59, R61). -/
def retryHello (s : State) : State :=
  if s.lc.attempts < Config.helloAttempts then oweHello s else enterDown s

/-- HELLO_INTERVAL_EXPIRY (R59). -/
def execHelloIntervalExpiry (s : State) : Step :=
  .next
    (if s.lc.state = .hello ∧ s.lc.helloInterval.isSome then retryHello (s.setLc { s.lc with helloInterval := none })
    else s)

/-- Whether a node-id byte is this bridge's own node id (R60, R210). -/
def State.ownNode (s : State) (nodeId : Byte) : Bool := decide (nodeId.toNat = s.lc.nodeId.toNat)

/-- A HELLO in HELLO: FAULT on the own node id, else recorded and answered with the agreed epoch (R60). -/
def helloInHello (proposal nodeId : Byte) (limit : Seq) (s : State) : State :=
  if s.ownNode nodeId then enterFault s
  else
    owe (.helloAck (epochMax s.lc.proposal proposal))
      (s.setLc { s.lc with peerHello := some ⟨proposal, nodeId, limit⟩ })

/-- A HELLO in UP: one from the recorded partner is answered with the session epoch (R64). -/
def helloInUp (nodeId : Byte) (s : State) : State :=
  match s.lc.peerHello with
  | none => s
  | some p => if p.nodeId = nodeId then owe (.helloAck s.lc.epoch) s else s

/-- An arriving HELLO, by link state (R54, R60, R64). -/
def helloArrives (proposal nodeId : Byte) (limit : Seq) (s : State) : State :=
  match s.lc.state with
  | .hello => helloInHello proposal nodeId limit s
  | .up => helloInUp nodeId s
  | .off => s
  | .training => s
  | .down => s
  | .fault => s

/-- HELLO_RECEIVED (R54, R60, R64). -/
def execHelloReceived (proposal nodeId : Byte) (limit : Seq) (s : State) : Step :=
  .next (helloArrives proposal nodeId limit s)

/-- What the link controller and the lanes do on reaching UP (R63); an owed HELLO_ACK is kept (R59), an owed HELLO is not
sent in UP (R54, log 10). -/
def linkUp (agreed : Epoch) (s : State) : State :=
  let s1 := s.setLanes { s.lanes with owed := s.lanes.owed.filter (fun o => decide (o ≠ .hello)) }
  raise .linkUp (bump .sessions (s1.setLc
    { s1.lc with
      state := .up, epoch := agreed, lastEpoch := agreed, helloInterval := none
      liveness := some s.params.liveness.toNat, keepalive := some s.params.keepalive.toNat }))

/-- The session values the blocks start with (R31, R37, R76, R97, R106). -/
def startSession (limit : Seq) (s : State) : State :=
  ((((s.setRq { s.rq with nextSeq := 0, sendPtr := 0 }).setTs
    { ackedThrough := Config.seqNone, sendLimit := limit, sentHigh := Config.seqNone, rounds := 0, ackTimer := none }).setRc
    { expected := 0, nakOutstanding := false }).setAu
    { s.au with
      epoch := s.lc.epoch, appliedThrough := Config.seqNone, unreported := 0, ackDelay := none
      advertised := Config.initialLimit })

/-- A DEGRADED window with auto_resync yes goes on when the link reaches UP (R22). -/
def resumeWindow (w : WinId) (s : State) : State :=
  if (s.win w).state = .degraded ∧ (s.win w).autoResync then toResync w s else s

/-- The windows' response to the link reaching UP (R22). -/
def resumeWindows (s : State) : State := (List.finRange 8).foldl (fun t w => resumeWindow w t) s

/-- The link reaches UP (R63). The engine makes its selection once every window has moved: the rules do not say whether
it selects at the first window's entry into RESYNC instead (R22, R126, R127; log 7). -/
def reachUp (agreed : Epoch) (limit : Seq) (s : State) : State :=
  settle (resumeWindows (startSession limit (linkUp agreed s)))

/-- A HELLO_ACK that mismatches restarts the exchange (R61). -/
def restartExchange (s : State) : State :=
  retryHello (s.setLc { s.lc with peerHello := none, helloInterval := none })

/-- A HELLO_ACK in HELLO (R61). -/
def helloAckInHello (agreed nodeId : Byte) (s : State) : State :=
  if s.ownNode nodeId then enterFault s
  else
    match s.lc.peerHello with
    | none => s
    | some p =>
        if nodeId = p.nodeId ∧ agreed = epochMax s.lc.proposal p.proposal then reachUp agreed p.limit s
        else restartExchange s

/-- HELLO_ACK_RECEIVED (R54, R61, R64): outside HELLO it is discarded. -/
def execHelloAckReceived (agreed nodeId : Byte) (s : State) : Step :=
  .next (if s.lc.state = .hello then helloAckInHello agreed nodeId s else s)

/-! ### The session (R64 to R69) -/

/-- LIVENESS_EXPIRY (R65, R67). -/
def execLivenessExpiry (s : State) : Step :=
  .next (if s.lc.liveness.isSome then sessionEnd .liveness none s else s)

/-- KEEPALIVE_EXPIRY (R66, R113): an ACK becomes owed; its transmission restarts the timer. -/
def execKeepaliveExpiry (s : State) : Step :=
  .next
    (if s.isUp ∧ s.lc.keepalive.isSome then oweAck (s.setLc { s.lc with keepalive := none }) else s)

/-- A frame whose epoch is not the session's (R64). -/
def staleFrame (s : State) : State := bump .staleFrames s

/-- A frame of the session epoch restarts the liveness timer (R64, R65). -/
def restartLiveness (s : State) : State := s.setLc { s.lc with liveness := some s.params.liveness.toNat }

/-- A DATA, ACK or NAK judged by link state and epoch: handed on in UP under the session epoch, stale in UP under another,
discarded outside UP (R54, R64). -/
def inSession (epoch : Byte) (handle : State → State) (s : State) : State :=
  if s.isUp then
    if epoch = s.lc.epoch then handle (restartLiveness s) else staleFrame s
  else s

/-- GOODBYE_RECEIVED (R64, R69). -/
def execGoodbyeReceived (epoch reason : Byte) (s : State) : Step :=
  .next
    (if s.isUp then
      if epoch = s.lc.epoch then sessionEnd .peerGoodbye (goodbyeReason reason) s else staleFrame s
    else s)

/-- UNDEFINED_FRAME (R64): PROTOCOL in UP, discarded elsewhere. A frame of a defined type is not this row. -/
def execUndefinedFrame (typeCode _epoch : Byte) (s : State) : Step :=
  .next (if frameTypes.contains typeCode then s else sessionEnd .protocol none s)

end Sys2Proof.Machine
end

