-- ==== Sys2Proof/Machine/Receive.lean ====
section
/-! DEFINITION. The receive checker and the receiving half of the transmit scheduler: damaged frames, DATA, ACK and NAK
frames, and the ack timer (spec 04_transmission_and_acknowledgement.md and 05_receiving_and_applying.md). -/

namespace Sys2Proof.Machine

/-! ### Damaged frames (R54, R99) -/

/-- A damaged frame counted and its cause raised (R54, R99). -/
def countBadCrc (s : State) : State := raise .crcError (bump .crcErrors s)

/-- A frame with a bad CRC-32, by link state: in UP it also draws a NAK (R54, R99). -/
def badCrcArrives (s : State) : State :=
  match s.lc.state with
  | .up => oweNak (countBadCrc s)
  | .hello => countBadCrc s
  | .off => s
  | .training => s
  | .down => s
  | .fault => s

/-- BAD_CRC_FRAME (R54, R99). -/
def execBadCrcFrame (s : State) : Step := .next (badCrcArrives s)

/-! ### DATA (R98 to R103) -/

/-- The contents of a DATA frame as an apply queue entry, if they are well-formed (R100, R105). -/
def dataEntry (seq : Seq) (kind window : BitVec 4) (line : BitVec 24) (mask : Mask) (data : LineData) :
    Option ApplyEntry :=
  match kindOf kind, winId (window.setWidth 8) with
  | some k, some w =>
      if line.toNat < 2 ^ 22 ∧ mask ≠ 0 ∧ (k = .copy → mask = fullMask) then
        some { seq := seq, kind := k, window := w, line := line.setWidth 22, mask := mask, data := data, reject := none }
      else none
  | _, _ => none

/-- Accepting the frame would overrun the apply queue or the advertised limit (R101). -/
def State.overruns (s : State) (seq : Seq) : Bool :=
  decide (Config.applySlots ≤ s.au.queue.length) || later seq s.au.advertised

/-- A limit violation (R101). -/
def limitViolated (s : State) : State := raise .limitViolation (bump .limitViolations s)

/-- The entry joins the apply queue, expected advances and the promotion flag is examined (R101, R115). -/
def joinQueue (e : ApplyEntry) (s : State) : State :=
  (s.setAu
    { s.au with
      queue := s.au.queue ++ [e]
      promotion := s.au.promotion || decide (Config.promoteAt ≤ s.au.queue.length + 1) }).setRc
    { expected := s.rc.expected + 1, nakOutstanding := false }

/-- A DATA frame judged by its sequence number against expected: accepted, a limit violation, out of order or a duplicate
(R101, R102, R103). What is neither expected nor later counts as earlier (R1; log 17). -/
def judgeData (e : ApplyEntry) (s : State) : State :=
  if e.seq = s.rc.expected then
    if s.overruns e.seq then limitViolated s else takeHead (joinQueue e s)
  else if later e.seq s.rc.expected then oweNak (bump .outOfOrder s)
  else oweAck (bump .duplicates s)

/-- A DATA frame of the session epoch: checked for well-formed contents, then judged (R100 to R103). -/
def dataArrives (seq : Seq) (kind window : BitVec 4) (line : BitVec 24) (mask : Mask) (data : LineData) (s : State) :
    State :=
  match dataEntry seq kind window line mask data with
  | none => sessionEnd .protocol none s
  | some e => judgeData e s

/-- DATA_RECEIVED (R64, R98 to R103). -/
def execDataReceived (epoch : Byte) (seq : Seq) (kind window : BitVec 4) (line : BitVec 24) (mask : Mask)
    (data : LineData) (s : State) : Step :=
  .next (inSession epoch (dataArrives seq kind window line mask data) s)

/-! ### ACK (R81 to R85) -/

/-- The ACK passes the checks of R81. A reason code of 0 means that no reject is present (R210). -/
def State.ackConsistent (s : State) (a : Seq) (reason : Byte) (rejectSeq : Seq) : Bool :=
  !later a s.ts.sentHigh
    && (decide (reason = 0) || (later a s.ts.ackedThrough && decide (rejectSeq = a) && (rejectOf reason).isSome))

/-- A SENT record is in the replay queue (R75). -/
def State.sentRemains (s : State) : Bool := s.rq.records.any (fun r => decide (r.state = .sent))

/-- The progress of an ACK: head removal, the round count and the ack timer (R82). -/
def ackProgress (a : Seq) (s : State) : State :=
  let s1 := removeHead a s
  s1.setTs
    { s1.ts with
      ackedThrough := a
      rounds := 0
      ackTimer := if s1.sentRemains then some s1.params.ackTimeout.toNat else none }

/-- The limit an ACK carries (R83). -/
def ackLimit (limit : Seq) (s : State) : State :=
  if later limit s.ts.sendLimit then s.setTs { s.ts with sendLimit := limit } else s

/-- The window of the record with a sequence number (R84). -/
def State.windowOfSeq (s : State) (a : Seq) : Option WinId :=
  (s.rq.records.find? (fun r => decide (r.seq = a))).map (·.window)

/-- The reject an ACK carries: counted, and passed to the window of the rejected record (R84, R25). -/
def ackReject (reason : Option RejectReason) (window : Option WinId) (s : State) : State :=
  match reason with
  | none => s
  | some reason =>
      match window with
      | none => bump .rejectsReceived s
      | some w => rejectWindow w reason (bump .rejectsReceived s)

/-- The record that carries the confirm waiter is among those head removal takes out (R38, R47). -/
def State.waiterRemoved (s : State) (a : Seq) : Bool := s.rq.records.any (fun r => r.waiter && atOrBefore r.seq a)

/-- A confirm wait whose record was removed ends with OK (R47). -/
def confirmDone (s : State) : State :=
  match s.cu with
  | none => s
  | some c => if c.phase = .confirmWait then completeUpstream .ok none s else s

/-- The current segment has been copied: its mark is cleared unless redirtied, the window may enter ACTIVE, and the
engine enters SELECT (R132, R27). -/
def segmentDone (g : Segment) (s : State) : State :=
  let s1 := s.setRe { s.re with current := none, state := .select }
  if g.redirtied then s1
  else
    let s2 := clearSegment g.window g.index s1
    if (s2.win g.window).dirtyCount = 0 then enterWindow g.window .active none s2 else s2

/-- In DRAINING the engine compares its segment_end record with the new acked_through (R132). -/
def compareSegment (a : Seq) (s : State) : State :=
  match s.re.current with
  | none => s
  | some g =>
      if s.re.state = .draining ∧ g.lastSeq.any (fun l => atOrBefore l a) then segmentDone g s else s

/-- The effects that head removal hands on to other blocks, in the order of R85 (log 18); the engine then selects and
examines its conditions (R128). -/
def handOn (a : Seq) (waiter : Bool) (s : State) : State :=
  let s1 := completeFences a s
  let s2 := recheckSlot (if waiter then confirmDone s1 else s1)
  acceptOffer (advanceEngine (compareSegment a s2))

/-- The effects of an ACK that passes the checks (R82 to R85). -/
def applyAck (a limit : Seq) (reason : Byte) (s : State) : State :=
  let progress := later a s.ts.ackedThrough
  let s1 := ackLimit limit (if progress then ackProgress a s else s)
  let s2 := ackReject (rejectOf reason) (s.windowOfSeq a) s1
  if progress then handOn a (s.waiterRemoved a) s2 else s2

/-- An ACK of the session epoch (R81). -/
def ackArrives (a limit : Seq) (reason : Byte) (rejectSeq : Seq) (s : State) : State :=
  if s.ackConsistent a reason rejectSeq then applyAck a limit reason s else sessionEnd .protocol none s

/-- ACK_RECEIVED (R64, R81 to R85). -/
def execAckReceived (epoch : Byte) (ackedThrough limit : Seq) (reason : Byte) (rejectSeq : Seq) (s : State) : Step :=
  .next (inSession epoch (ackArrives ackedThrough limit reason rejectSeq) s)

/-! ### NAK and retransmission rounds (R86 to R91) -/

/-- A round from a sequence number, unless the retry limit is reached, which ends the session (R87, R90, R91). -/
def startRound (e : Seq) (s : State) : State :=
  if s.ts.rounds < s.params.retryLimit.toNat then
    bump .retransmitRounds
      ((s.setRq { s.rq with sendPtr := e }).setTs
        { s.ts with rounds := s.ts.rounds + 1, ackTimer := some s.params.ackTimeout.toNat })
  else sessionEnd .retry none s

/-- A NAK of the last number transmitted plus one: no round, and one in progress is cut short (R88). -/
def cutRound (s : State) : State :=
  if later (s.ts.sentHigh + 1) s.rq.sendPtr then s.setRq { s.rq with sendPtr := s.ts.sentHigh + 1 } else s

/-- A NAK of the session epoch, counted and judged by the rows of R86 in their order. -/
def nakArrives (e : Seq) (s : State) : State :=
  let s1 := bump .naksReceived s
  if later e (s1.ts.sentHigh + 1) then sessionEnd .protocol none s1
  else if atOrBefore e s1.ts.ackedThrough then s1
  else if e = s1.ts.sentHigh + 1 then cutRound s1
  else startRound e s1

/-- NAK_RECEIVED (R64, R86 to R88). -/
def execNakReceived (epoch : Byte) (expected : Seq) (s : State) : Step :=
  .next (inSession epoch (nakArrives expected) s)

/-- ACK_TIMER_EXPIRY (R90): the timer runs and SENT records wait. -/
def execAckTimerExpiry (s : State) : Step :=
  .next (if s.ts.ackTimer.isSome ∧ s.sentRemains then startRound (s.ts.ackedThrough + 1) s else s)

end Sys2Proof.Machine
end

