-- ==== Sys2Proof/Machine/Transmit.lean ====
section
/-! DEFINITION. The transmit lanes: which frame they take next, what happens when a frame begins, and the frame's end
(R59, R68, R77, R78, R80, R104, R110, R112). -/

namespace Sys2Proof.Machine

/-! ### Which frame is next (R80) -/

/-- The six types of frame the lanes carry (R210). -/
inductive FrameType where
  | data
  | ack
  | nak
  | hello
  | helloAck
  | goodbye
  deriving DecidableEq, Repr

def Owed.type : Owed → FrameType
  | .ack .. => .ack
  | .nak .. => .nak
  | .hello => .hello
  | .helloAck .. => .helloAck

/-- The record the send pointer names: one that is READY or SENT (R37). -/
def State.pointed (s : State) : Option Record :=
  s.rq.records.find? (fun r => decide (r.seq = s.rq.sendPtr ∧ r.state ≠ .opened))

/-- The record the scheduler may transmit (R77). -/
def State.sendable (s : State) : Option Record :=
  if s.isUp then s.pointed.filter (fun r => atOrBefore r.seq s.ts.sendLimit) else none

/-- The owed control frame the lanes take next in this link state. In HELLO nothing is sent while the apply queue holds
an entry (R59); outside HELLO and UP the lanes carry no frame (R52, R54). -/
def State.nextOwed (s : State) : Option Owed :=
  match s.lc.state with
  | .up => s.lanes.owed.head?
  | .hello => if s.au.queue.isEmpty then s.lanes.owed.head? else none
  | .off => none
  | .training => none
  | .down => none
  | .fault => none

/-- Whether the lanes take an owed GOODBYE next: at the session end, so in UP (R54, R80) and in the two states that a
session end enters (R52, R68). TRAINING, HELLO and FAULT send none (R54; log 31). -/
def State.goodbyeNext (s : State) : Bool :=
  match s.lc.state with
  | .up => s.lanes.goodbye.isSome
  | .off => s.lanes.goodbye.isSome
  | .down => s.lanes.goodbye.isSome
  | .training => false
  | .hello => false
  | .fault => false

/-- The type of the frame the lanes take next: an owed GOODBYE, then owed frames in order, then DATA (R80). -/
def State.nextFrame (s : State) : Option FrameType :=
  if s.goodbyeNext then some .goodbye
  else
    match s.nextOwed with
    | some o => some o.type
    | none => if s.sendable.isSome then some .data else none

/-! ### A frame begins -/

/-- A frame begins on the lanes; in UP this restarts the keepalive timer (R66). -/
def beginFrame (f : Frame) (s : State) : State :=
  let s1 := s.setLanes { s.lanes with frame := some f }
  if s1.isUp then s1.setLc { s1.lc with keepalive := some s1.params.keepalive.toNat } else s1

/-- The records with the one of a sequence number SENT (R78). -/
def markSent (q : Seq) (records : List Record) : List Record :=
  records.map (fun r => if r.seq = q then { r with state := .sent } else r)

/-- The record's DATA frame begins (R78). -/
def beginRecord (r : Record) (s : State) : State :=
  let s1 := s.setRq { s.rq with records := markSent r.seq s.rq.records, sendPtr := r.seq + 1 }
  let s2 := s1.setTs
    { s1.ts with
      sentHigh := if later r.seq s1.ts.sentHigh then r.seq else s1.ts.sentHigh
      ackTimer := some (s1.ts.ackTimer.getD s1.params.ackTimeout.toNat) }
  beginFrame (.data s2.lc.epoch r.seq r.kind r.window r.line r.mask r.data) s2

/-- A DATA frame begins, if the scheduler may send one (R77, R78). -/
def beginData (s : State) : State :=
  match s.sendable with
  | none => s
  | some r => beginRecord r s

/-- The first owed frame leaves the owed frames. -/
def popOwed (s : State) : State := s.setLanes { s.lanes with owed := s.lanes.owed.tail }

/-- The advertised limit after an ACK with this limit has begun (R112). -/
def advertise (limit : Seq) (s : State) : State :=
  if later limit s.au.advertised then s.setAu { s.au with advertised := limit } else s

/-- A reject ACK that begins lets a BLOCKED apply unit return to IDLE and take its next head (R107, R110). -/
def unblock (reject : Option RejectReason) (s : State) : State :=
  if reject.isSome ∧ s.au.state = .blocked then takeHead (s.setAu { s.au with state := .idle }) else s

/-- An owed ACK begins (R112). -/
def beginAck (through limit : Seq) (reject : Option RejectReason) (s : State) : State :=
  unblock reject (advertise limit (beginFrame (.ack s.lc.epoch through limit reject) (popOwed s)))

/-- An owed NAK begins (R104). -/
def beginNak (expected : Seq) (s : State) : State :=
  bump .naksSent (beginFrame (.nak s.lc.epoch expected) (popOwed s))

/-- An owed HELLO begins: it counts as an attempt and loads the HELLO interval timer (R59). -/
def beginHello (s : State) : State :=
  let s1 := beginFrame (.hello s.lc.proposal s.lc.nodeId Config.initialLimit) (popOwed s)
  s1.setLc { s1.lc with attempts := s1.lc.attempts + 1, helloInterval := some Config.helloIntervalTime }

/-- An owed HELLO_ACK begins (R60, R64). -/
def beginHelloAck (agreed : Epoch) (s : State) : State :=
  beginFrame (.helloAck agreed s.lc.nodeId) (popOwed s)

/-- The owed GOODBYE begins (R68). -/
def beginGoodbye (s : State) : State :=
  match s.lanes.goodbye with
  | none => s
  | some (epoch, reason) => beginFrame (.goodbye epoch reason) (s.setLanes { s.lanes with goodbye := none })

/-- The first owed frame begins. -/
def beginOwed (s : State) : State :=
  match s.nextOwed with
  | none => s
  | some (.ack through limit reject) => beginAck through limit reject s
  | some (.nak expected) => beginNak expected s
  | some .hello => beginHello s
  | some (.helloAck agreed) => beginHelloAck agreed s

/-- A frame of a type begins. -/
def beginType (f : FrameType) (s : State) : State :=
  match f with
  | .data => beginData s
  | .ack => beginOwed s
  | .nak => beginOwed s
  | .hello => beginOwed s
  | .helloAck => beginOwed s
  | .goodbye => beginGoodbye s

/-- The lanes take a frame of this type when they carry none and it is the next one (R80; log 9). -/
def transmit (f : FrameType) (s : State) : State :=
  if s.lanes.frame = none ∧ s.nextFrame = some f then beginType f s else s

/-! ### The rows -/

/-- TRANSMIT_DATA (R77, R78). -/
def execTransmitData (s : State) : Step := .next (transmit .data s)

/-- TRANSMIT_ACK (R110, R112). -/
def execTransmitAck (s : State) : Step := .next (transmit .ack s)

/-- TRANSMIT_NAK (R104). -/
def execTransmitNak (s : State) : Step := .next (transmit .nak s)

/-- TRANSMIT_HELLO (R59). -/
def execTransmitHello (s : State) : Step := .next (transmit .hello s)

/-- TRANSMIT_HELLO_ACK (R60, R64). -/
def execTransmitHelloAck (s : State) : Step := .next (transmit .helloAck s)

/-- TRANSMIT_GOODBYE (R68). -/
def execTransmitGoodbye (s : State) : Step := .next (transmit .goodbye s)

/-- The lanes take the next frame, if one waits (R80). -/
def takeNext (s : State) : State :=
  match s.nextFrame with
  | none => s
  | some f => beginType f s

/-- FRAME_END (R52, R80): the frame in progress ends and the next one is taken. -/
def execFrameEnd (s : State) : Step :=
  .next (if s.lanes.frame.isSome then takeNext (s.setLanes { s.lanes with frame := none }) else s)

end Sys2Proof.Machine
end

