-- ==== Sys2Proof/Machine/Apply.lean ====
section
/-! DEFINITION. The apply unit's own events: the completion of an apply write and the ack delay timer (R109, R111,
R118). -/

namespace Sys2Proof.Machine

/-- An apply write that completed with ERR: the cause, the counter and the reject reason (R109, step 1). -/
def applyError (s : State) : State := bump .localErrors (raise .localMemoryError s)

/-- The head entry is finished with the result of its write, and the next head is taken (R109). -/
def finishWrite (r : Result) (s : State) : State :=
  match s.au.queue with
  | [] => s
  | e :: _ =>
      if s.au.state = .writing then
        match r with
        | .ok => takeHead (finishEntry e s)
        | .err => takeHead (finishEntry { e with reject := some .memory } (applyError s))
      else s

/-- The apply unit's handling of a completed apply write; a result that RESET_MIRROR has orphaned is ignored (R118). -/
def applyWriteDone (r : Result) (s : State) : State :=
  if s.au.writeIgnored then s.setAu { s.au with writeIgnored := false } else finishWrite r s

/-- APPLY_WRITE_COMPLETE (R109, R118): the port holds an apply write. The next grant follows the handling (R173). -/
def execApplyWriteComplete (r : Result) (s : State) : Step :=
  .next (if s.portClient = some .ap then releasePort (applyWriteDone r s) else s)

/-- ACK_DELAY_EXPIRY (R111): the timer runs, and an ACK becomes owed. -/
def execAckDelayExpiry (s : State) : Step := .next (if s.au.ackDelay.isSome then oweAck s else s)

end Sys2Proof.Machine
end

