-- ==== Sys2Proof/Machine/Resync.lean ====
section
/-! DEFINITION. The resync engine's own event: the completion of a copy read (R130, R131, R136). -/

namespace Sys2Proof.Machine

/-- The read is over and its reservation is released (R130, R131, R136). -/
def endRead (s : State) : State :=
  s.setRe { s.re with read := .absent, readDropped := false, reservation := false }

/-- The line index of the read of a segment's next line (R128). -/
def State.lineOf (s : State) (g : Segment) : LineIndex := BitVec.ofNat 22 (g.index * s.params.segmentLines + g.nextLine)

/-- The read was the last of its segment (R130). -/
def State.lastLine (s : State) (g : Segment) : Bool := decide (g.nextLine + 1 = s.params.segmentLines)

/-- The COPY record of a completed read (R130). -/
def copyRecord (g : Segment) (bytes : LineData) (s : State) : Record :=
  { seq := s.rq.nextSeq, kind := .copy, window := g.window, line := s.lineOf g, mask := fullMask, data := bytes
    state := .ready, waiter := false, segmentEnd := s.lastLine g }

/-- A copy read completed with OK: the COPY record is appended and the segment advances (R130). -/
def copyOk (g : Segment) (bytes : LineData) (s : State) : State :=
  let s1 := endRead (append (copyRecord g bytes s) s)
  s1.setRe
    { s1.re with
      state := if s.lastLine g then .draining else .copying
      current := some
        { g with
          nextLine := g.nextLine + 1
          lastSeq := if s.lastLine g then some s.rq.nextSeq else g.lastSeq } }

/-- A copy read completed with ERR: the window is HALTED, which abandons the segment (R131, R26). -/
def copyErr (g : Segment) (s : State) : State :=
  enterWindow g.window .halted (some .copyReadError) (bump .localErrors (raise .localMemoryError (endRead s)))

/-- The engine's handling of a completed copy read; the result of one whose segment was abandoned is dropped (R136). -/
def copyReadDone (r : Result) (bytes : LineData) (s : State) : State :=
  match s.re.current with
  | none => endRead s
  | some g =>
      if s.re.readDropped then endRead s
      else
        match r with
        | .ok => copyOk g bytes s
        | .err => copyErr g s

/-- COPY_READ_COMPLETE (R130, R131, R136): the port holds a copy read. A waiting capture rechecks before the engine
examines its conditions (R32, R43), and the next grant follows (R173). -/
def execCopyReadComplete (r : Result) (bytes : LineData) (s : State) : Step :=
  .next (if s.portClient = some .cp then releasePort (settle (copyReadDone r bytes s)) else s)

end Sys2Proof.Machine
end

