-- ==== Sys2Proof/Machine/Reset.lean ====
section
/-! DEFINITION. Pin reset (R167, R168) and the line handshake of the fence unit (R149 to R152). -/

namespace Sys2Proof.Machine

/-! ### Pin reset (R167, R168) -/

/-- RESET_N is asserted: every block at its pin-reset values; an upstream offer stays offered (R167). -/
def assertReset (s : State) : State :=
  State.pinReset s.pending s.drawn { s.pins with resetAsserted := true, msdo := none } s.lc.nodeId s.mp.offer

/-- RESET_N_ASSERT (R167). -/
def execResetNAssert (s : State) : Step := .next (if s.pins.resetAsserted then s else assertReset s)

/-- RESET_N is released: the pin-reset state with the node id sampled; with MCS_N low the maintenance port waits for it
to rise (R168, R194). -/
def releaseReset (nodeId : BitVec 4) (s : State) : State :=
  let s1 := State.pinReset s.pending s.drawn { s.pins with resetAsserted := false, msdo := none } nodeId s.mp.offer
  if s.pins.mcsHigh then s1
  else (s1.setPort .ignoring).setPins { s1.pins with msdo := some 0xFF }

/-- RESET_N_RELEASE (R168): an offer that stands is accepted then. -/
def execResetNRelease (nodeId : BitVec 4) (s : State) : Step :=
  .next (if s.pins.resetAsserted then acceptOffer (releaseReset nodeId s) else s)

/-! ### FENCE_REQ (R149 to R152) -/

/-- A rising edge taken in IDLE: the LINE fence is issued, or waits for a place in the list (R150). -/
def requestLine (s : State) : State :=
  match s.fu.handshake with
  | .idle =>
      if s.fu.fences.length < Config.fenceSlots then issueFence .line s else s.setFu { s.fu with handshake := .waiting }
  | .waiting => s
  | .pending => s
  | .answered => s

/-- FENCE_REQ_RISE (R150). While RESET_N is asserted only the pin's level changes (R167). -/
def execFenceReqRise (s : State) : Step :=
  .next
    (if s.pins.fenceReq then s
    else
      let s1 := s.setPins { s.pins with fenceReq := true }
      if s.pins.resetAsserted then s1 else requestLine s1)

/-- A fall of FENCE_REQ: a request not yet answered is withdrawn, an answer is released (R151, R152). -/
def releaseLine (s : State) : State :=
  match s.fu.handshake with
  | .idle => s
  | .waiting => s.setFu { s.fu with handshake := .idle }
  | .pending =>
      s.setFu { s.fu with fences := s.fu.fences.filter (fun f => decide (f.source ≠ .line)), handshake := .idle }
  | .answered => s.setFu { s.fu with handshake := .idle, ack := false, clean := false }

/-- FENCE_REQ_FALL (R151, R152). While RESET_N is asserted only the pin's level changes (R167). -/
def execFenceReqFall (s : State) : Step :=
  .next
    (if s.pins.fenceReq then
      let s1 := s.setPins { s.pins with fenceReq := false }
      if s.pins.resetAsserted then s1 else releaseLine s1
    else s)

end Sys2Proof.Machine
end

