-- ==== Sys2Proof/Machine/Dispatch.lean ====
section
/-! DEFINITION. Each command's meaning: one arm per constructor of `Instr`. -/

namespace Sys2Proof.Machine

open Sys2Proof

/-- The effect of a command on everything but the queue. -/
def exec (i : Instr) (s : State) : Host.Outcome State Fault Refusal :=
  match i with
  | .winConfig w base length mapOffset policy autoResync crc => Sys2Proof.Machine.execWinConfig w base length mapOffset policy autoResync crc s
  | .winEnable w mode crc => Sys2Proof.Machine.execWinEnable w mode crc s
  | .winDisable w crc => Sys2Proof.Machine.execWinDisable w crc s
  | .winResync w crc => Sys2Proof.Machine.execWinResync w crc s
  | .winHalt w crc => Sys2Proof.Machine.execWinHalt w crc s
  | .winResume w crc => Sys2Proof.Machine.execWinResume w crc s
  | .winMark w first count crc => Sys2Proof.Machine.execWinMark w first count crc s
  | .winStatus w crc => Sys2Proof.Machine.execWinStatus w crc s
  | .inConfig e base length guard crc => Sys2Proof.Machine.execInConfig e base length guard crc s
  | .inEnable e crc => Sys2Proof.Machine.execInEnable e crc s
  | .inDisable e crc => Sys2Proof.Machine.execInDisable e crc s
  | .inStatus e crc => Sys2Proof.Machine.execInStatus e crc s
  | .linkEnable crc => Sys2Proof.Machine.execLinkEnable crc s
  | .linkDisable crc => Sys2Proof.Machine.execLinkDisable crc s
  | .linkStatus crc => Sys2Proof.Machine.execLinkStatus crc s
  | .fence tag crc => Sys2Proof.Machine.execFence tag crc s
  | .fenceLog clear crc => Sys2Proof.Machine.execFenceLog clear crc s
  | .alertRead crc => Sys2Proof.Machine.execAlertRead crc s
  | .alertEnable window link fence integrity crc => Sys2Proof.Machine.execAlertEnable window link fence integrity crc s
  | .causeRead category crc => Sys2Proof.Machine.execCauseRead category crc s
  | .causeClear category list crc => Sys2Proof.Machine.execCauseClear category list crc s
  | .countersRead clear crc => Sys2Proof.Machine.execCountersRead clear crc s
  | .getParam word crc => Sys2Proof.Machine.execGetParam word crc s
  | .setParam word value crc => Sys2Proof.Machine.execSetParam word value crc s
  | .resetMirror crc => Sys2Proof.Machine.execResetMirror crc s
  | .unknownCommand code => Sys2Proof.Machine.execUnknownCommand code s
  | .mcsNFall => Sys2Proof.Machine.execMcsNFall s
  | .mcsNRise => Sys2Proof.Machine.execMcsNRise s
  | .resetNAssert => Sys2Proof.Machine.execResetNAssert s
  | .resetNRelease nodeId => Sys2Proof.Machine.execResetNRelease nodeId s
  | .fenceReqRise => Sys2Proof.Machine.execFenceReqRise s
  | .fenceReqFall => Sys2Proof.Machine.execFenceReqFall s
  | .upstreamOffer t => Sys2Proof.Machine.execUpstreamOffer t s
  | .passThroughComplete r bytes => Sys2Proof.Machine.execPassThroughComplete r bytes s
  | .localWriteComplete r => Sys2Proof.Machine.execLocalWriteComplete r s
  | .stallTimerExpiry => Sys2Proof.Machine.execStallTimerExpiry s
  | .confirmTimerExpiry => Sys2Proof.Machine.execConfirmTimerExpiry s
  | .mergeTimerExpiry => Sys2Proof.Machine.execMergeTimerExpiry s
  | .aligned => Sys2Proof.Machine.execAligned s
  | .lost => Sys2Proof.Machine.execLost s
  | .trainingTimerExpiry => Sys2Proof.Machine.execTrainingTimerExpiry s
  | .holdoffTimerExpiry => Sys2Proof.Machine.execHoldoffTimerExpiry s
  | .helloIntervalExpiry => Sys2Proof.Machine.execHelloIntervalExpiry s
  | .helloReceived proposal nodeId limit => Sys2Proof.Machine.execHelloReceived proposal nodeId limit s
  | .helloAckReceived agreed nodeId => Sys2Proof.Machine.execHelloAckReceived agreed nodeId s
  | .livenessExpiry => Sys2Proof.Machine.execLivenessExpiry s
  | .keepaliveExpiry => Sys2Proof.Machine.execKeepaliveExpiry s
  | .goodbyeReceived epoch reason => Sys2Proof.Machine.execGoodbyeReceived epoch reason s
  | .undefinedFrame typeCode epoch => Sys2Proof.Machine.execUndefinedFrame typeCode epoch s
  | .badCrcFrame => Sys2Proof.Machine.execBadCrcFrame s
  | .dataReceived epoch seq kind window line mask data => Sys2Proof.Machine.execDataReceived epoch seq kind window line mask data s
  | .ackReceived epoch ackedThrough limit reason rejectSeq => Sys2Proof.Machine.execAckReceived epoch ackedThrough limit reason rejectSeq s
  | .nakReceived epoch expected => Sys2Proof.Machine.execNakReceived epoch expected s
  | .ackTimerExpiry => Sys2Proof.Machine.execAckTimerExpiry s
  | .transmitData => Sys2Proof.Machine.execTransmitData s
  | .transmitAck => Sys2Proof.Machine.execTransmitAck s
  | .transmitNak => Sys2Proof.Machine.execTransmitNak s
  | .transmitHello => Sys2Proof.Machine.execTransmitHello s
  | .transmitHelloAck => Sys2Proof.Machine.execTransmitHelloAck s
  | .transmitGoodbye => Sys2Proof.Machine.execTransmitGoodbye s
  | .frameEnd => Sys2Proof.Machine.execFrameEnd s
  | .applyWriteComplete r => Sys2Proof.Machine.execApplyWriteComplete r s
  | .ackDelayExpiry => Sys2Proof.Machine.execAckDelayExpiry s
  | .copyReadComplete r bytes => Sys2Proof.Machine.execCopyReadComplete r bytes s
  | .maintenanceByteComplete b => Sys2Proof.Machine.execMaintenanceByteComplete b s

end Sys2Proof.Machine
end

