-- ==== Sys2Proof/Machine/Step.lean ====
section
/-! DEFINITION. One step of the bridge: the command at the front of the queue is taken and run. -/

namespace Sys2Proof.Machine

/-- Take the command at the front of the queue and run it on the state with the queue's rest; with an empty queue the
bridge idles (log 2). -/
def step (s : State) : Host.Outcome State Fault Refusal :=
  match s.pending with
  | [] => .next s
  | c :: rest => exec c (s.setPending rest)

/-- The state with the command that a table word spells put at the front of its queue; unchanged where the word spells
none, and no row of this table has bits. -/
def State.withFetchWord (s : State) (nbits w : Nat) : State :=
  match decodeTableWord nbits w with
  | none => s
  | some c => s.setPending (c :: s.pending)

end Sys2Proof.Machine
end

