-- ==== Sys2Proof/Safety.lean ====
section
/-! DEFINITION. What the statements about the bridge speak of: which blocks an event leaves alone, what a maintenance
transaction holds and answers, and the laws of the spec that every step keeps. -/

namespace Sys2Proof.Machine

/-! ### Frames: which blocks change -/

/-- The fields of `State`. -/
inductive StateField where
  | pending | drawn | pins | port | params | out | inb | rq | cu | mp | da | lc | lanes | ts | rc | au | dm | re | fu
  | al | counters
  deriving DecidableEq, Repr

/-- Two states hold the same in one field. -/
def State.agree (s t : State) : StateField → Prop
  | .pending => t.pending = s.pending
  | .drawn => t.drawn = s.drawn
  | .pins => t.pins = s.pins
  | .port => t.port = s.port
  | .params => t.params = s.params
  | .out => t.out = s.out
  | .inb => t.inb = s.inb
  | .rq => t.rq = s.rq
  | .cu => t.cu = s.cu
  | .mp => t.mp = s.mp
  | .da => t.da = s.da
  | .lc => t.lc = s.lc
  | .lanes => t.lanes = s.lanes
  | .ts => t.ts = s.ts
  | .rc => t.rc = s.rc
  | .au => t.au = s.au
  | .dm => t.dm = s.dm
  | .re => t.re = s.re
  | .fu => t.fu = s.fu
  | .al => t.al = s.al
  | .counters => t.counters = s.counters

/-- `t` differs from `s` in the listed fields only. -/
def Only (fields : List StateField) (s t : State) : Prop := ∀ f, f ∉ fields → s.agree t f

/-! ### Maintenance transactions (R197, R198) -/

/-- The row that a request and its CRC byte make (R197). -/
def Request.row : Request → Byte → Instr
  | .winConfig w base length mapOffset policy autoResync, crc => .winConfig w base length mapOffset policy autoResync crc
  | .winEnable w mode, crc => .winEnable w mode crc
  | .winDisable w, crc => .winDisable w crc
  | .winResync w, crc => .winResync w crc
  | .winHalt w, crc => .winHalt w crc
  | .winResume w, crc => .winResume w crc
  | .winMark w first count, crc => .winMark w first count crc
  | .winStatus w, crc => .winStatus w crc
  | .inConfig i base length guard, crc => .inConfig i base length guard crc
  | .inEnable i, crc => .inEnable i crc
  | .inDisable i, crc => .inDisable i crc
  | .inStatus i, crc => .inStatus i crc
  | .linkEnable, crc => .linkEnable crc
  | .linkDisable, crc => .linkDisable crc
  | .linkStatus, crc => .linkStatus crc
  | .fence tag, crc => .fence tag crc
  | .fenceLog clear, crc => .fenceLog clear crc
  | .alertRead, crc => .alertRead crc
  | .alertEnable ew el ef ei, crc => .alertEnable ew el ef ei crc
  | .causeRead category, crc => .causeRead category crc
  | .causeClear category list, crc => .causeClear category list crc
  | .countersRead clear, crc => .countersRead clear crc
  | .getParam word, crc => .getParam word crc
  | .setParam word value, crc => .setParam word value crc
  | .resetMirror, crc => .resetMirror crc

/-- The port is in RECEIVING and holds the whole of a request but its CRC byte, with RESET_N released. -/
def State.holds (s : State) (r : Request) : Prop :=
  s.pins.resetAsserted = false ∧ ∃ bits, s.port = .receiving (some r.code) r.args bits

/-- The CRC byte that a request carries (R197, R211). -/
def Request.crc (r : Request) : Byte := crc8 (r.code :: r.args)

/-- The state with a response formed and none of it shifted out: the port in RESPONDING, MSDO all ones (R195, R197). -/
def State.answered (s : State) (status : Status) (data : List Byte) : State :=
  { s with
    port := .responding (responseBytes status data) 0
    pins := { s.pins with msdo := some 0xFF } }

/-- The response the port holds, complete and not yet shifted out. -/
def State.answers (s : State) (status : Status) (data : List Byte) : Prop :=
  s.port = .responding (responseBytes status data) 0

/-! ### Ranges, owed ACKs and session ends -/

/-- Two ranges, each a start and a size, share no member (R7). -/
def Apart (a sizeA b sizeB : Nat) : Prop := ∀ x, ¬(a ≤ x ∧ x < a + sizeA ∧ b ≤ x ∧ x < b + sizeB)

/-- The size in bytes of a segment (R202). -/
def State.segBytes (s : State) : Nat := s.params.segmentSize.toNat * 1024

/-- The overlap checks of WIN_ENABLE hold for window `w` (R7). -/
def State.outboundClear (s : State) (w : WinId) : Prop :=
  (∀ v : WinId, v ≠ w → s.out[v].state ≠ .off →
      Apart s.out[w].base.toNat (s.out[w].length * s.segBytes) s.out[v].base.toNat (s.out[v].length * s.segBytes)
        ∧ Apart s.out[w].mapOffset s.out[w].length s.out[v].mapOffset s.out[v].length)
    ∧ ∀ i : WinId, s.inb[i].enabled = true →
      Apart s.out[w].base.toNat (s.out[w].length * s.segBytes) s.inb[i].base.toNat s.inb[i].length.toNat

/-- The overlap check of IN_ENABLE holds for entry `i` (R7). -/
def State.inboundClear (s : State) (i : WinId) : Prop :=
  (∀ w : WinId, s.out[w].state ≠ .off →
      Apart s.inb[i].base.toNat s.inb[i].length.toNat s.out[w].base.toNat (s.out[w].length * s.segBytes))
    ∧ ∀ j : WinId, j ≠ i → s.inb[j].enabled = true →
      Apart s.inb[i].base.toNat s.inb[i].length.toNat s.inb[j].base.toNat s.inb[j].length.toNat

/-- Some enabled outbound window is DEGRADED, RESYNC or HALTED (R142). -/
def State.outOfStep (s : State) : Prop :=
  ∃ w : WinId, s.out[w].state = .degraded ∨ s.out[w].state = .resync ∨ s.out[w].state = .halted

/-- An owed frame that is an ACK. -/
def Owed.ofAck : Owed → Prop
  | .ack .. => True
  | _ => False

/-- `after` is `before` with an ordinary ACK owed: it refreshes the last ACK in the list where that one carries no reject,
and is appended in every other case (R112). -/
def AckOwed (through limit : Seq) (before after : List Owed) : Prop :=
  ((∀ o ∈ before, ¬o.ofAck) → after = before ++ [.ack through limit none])
    ∧ ∀ pre post a l reject, before = pre ++ .ack a l reject :: post → (∀ o ∈ post, ¬o.ofAck) →
      after =
        match reject with
        | none => pre ++ .ack through limit none :: post
        | some _ => before ++ [.ack through limit none]

/-- The position in the dirty map of the segment of a record (R29). -/
def State.markOf (s : State) (r : Record) : Nat := s.out[r.window].mapOffset + r.line.toNat * 64 / s.segBytes

/-! ### The head of the apply queue (R107 to R110) -/

/-- An entry passes the check of R107: its inbound entry is enabled and the line lies within it. -/
def State.fits (s : State) (e : ApplyEntry) : Bool :=
  s.inb[e.window].enabled && decide (e.line.toNat * 64 + 64 ≤ s.inb[e.window].length.toNat)

/-- The reason an entry that fails the check is rejected with (R107). -/
def State.reasonOf (s : State) (e : ApplyEntry) : RejectReason := if s.inb[e.window].enabled then .range else .disabled

/-- The downstream write of an entry (R108). -/
def State.writeOf (s : State) (e : ApplyEntry) : Txn :=
  { access := .write e.mask e.data, addr := s.inb[e.window].base + BitVec.ofNat 32 (e.line.toNat * 64), length := 64 }

/-- In UP the apply unit, IDLE, has taken the head of its queue, if there is one: a head that passes its check has its
write presented or granted, and one that fails is rejected in an ACK of its own and leaves the unit BLOCKED (R107, R108,
R110). -/
def HeadTaken (s t : State) : Prop :=
  match s.au.queue with
  | [] => t.au = s.au ∧ t.lanes = s.lanes ∧ t.al = s.al ∧ t.counters = s.counters
  | e :: rest =>
      (s.fits e = true →
          t.au = { s.au with state := .writing } ∧ t.lanes = s.lanes ∧ t.al = s.al ∧ t.counters = s.counters
            ∧ (t.da.ap = some (s.writeOf e) ∨ t.da.port = some ⟨.ap, s.writeOf e⟩))
        ∧ (s.fits e = false →
          t.au.queue = rest ∧ t.au.state = .blocked ∧ t.au.appliedThrough = e.seq ∧ t.au.unreported = 0
            ∧ t.au.ackDelay = none ∧ t.au.lastApplied = s.au.lastApplied ∧ t.au.drained = s.au.drained
            ∧ t.lanes =
              { s.lanes with owed := s.lanes.owed ++ [.ack e.seq (e.seq + 16) (some (s.reasonOf e))] }
            ∧ (∀ c : Cause, t.al.detail.has c = (decide (c = .rejectSent) || s.al.detail.has c))
            ∧ t.counter .rejectsSent = saturate (s.counter .rejectsSent)
            ∧ ∀ c : Counter, c ≠ .rejectsSent → t.counter c = s.counter c)

/-! ### Marks (R120 to R124) -/

/-- The number of marks set in a window's map range (R121). -/
def State.marksIn (s : State) (w : WinId) : Nat :=
  (List.range s.out[w].length).countP (fun k => s.dm.getLsbD (s.out[w].mapOffset + k))

/-- The lines of a segment (R125). -/
def State.segLines (s : State) : Nat := s.segBytes / 64

/-- A line lies inside the extent of an enabled window (R29). -/
def State.lineInside (s : State) (w : WinId) (line : LineIndex) : Prop :=
  line.toNat * 64 < s.out[w].length * s.segBytes

/-- The copy read of a segment's next line (R128). -/
def State.readOf (s : State) (g : Segment) : Txn :=
  { access := .read, addr := s.out[g.window].base + BitVec.ofNat 32 ((g.index * s.segLines + g.nextLine) * 64)
    length := 64 }

/-- What becomes of the engine's read when its segment is abandoned between `s` and `t`. A granted read goes on, with its
result to be dropped (R135, R136). A requested one is withdrawn and its reservation released (R135): what the engine holds
afterwards is nothing, or the first read of a segment it has taken since (R127, R128). -/
def ReadAbandoned (s t : State) : Prop :=
  (s.re.read = .granted →
      t.re.read = .granted ∧ t.re.readDropped = true ∧ t.re.reservation = s.re.reservation
        ∧ (s.da.port.isSome = true → t.da.port = s.da.port ∧ t.da.cp = s.da.cp))
    ∧ (s.re.read = .requested →
      t.re.readDropped = s.re.readDropped
        ∧ ((t.re.read = .absent ∧ t.re.reservation = false ∧ t.da.cp = none)
          ∨ (t.re.reservation = true ∧ ∃ g, t.re.current = some g ∧ g.nextLine = 0
            ∧ ((t.re.read = .requested ∧ t.da.cp = some (t.readOf g))
              ∨ (t.re.read = .granted ∧ t.da.port = some ⟨.cp, t.readOf g⟩)))))

/-! ### The window table and the foreground's request -/

/-- An event makes entry `w` of the outbound window table be `x` and leaves every other entry as it was. The engine may then
have taken a segment (R127): that moves the cursor of a window in RESYNC, and nothing else of any entry. -/
def WindowBecomes (w : WinId) (x : OutWindow) (s t : State) : Prop :=
  ∀ v : WinId,
    let y := if v = w then x else s.out[v]
    t.out[v] = { y with cursor := t.out[v].cursor } ∧ (y.state ≠ .resync → t.out[v] = y)

/-- An upstream transaction goes downstream as the foreground's request (R44, R163): on a busy port it waits behind the
access in progress, and else it holds the port or waits for it (R172). -/
def ForegroundAsked (x : Txn) (s t : State) : Prop :=
  (s.da.port.isSome = true → t.da.port = s.da.port ∧ t.da.fg = some x)
    ∧ (t.da.fg = some x ∨ t.da.port = some ⟨.fg, x⟩)

/-! ### What the end of an access leaves (R128, R154, R172, R173) -/

/-- An offer that stands in `s` is taken in `t` as one made at that moment (R154): `t` is what UPSTREAM_OFFER makes of it,
behind the completions already recorded (log 13). One that cannot be accepted goes on standing. -/
def OfferTaken (s t : State) : Prop :=
  match s.mp.offer with
  | none => t = s
  | some y =>
      ∃ u, exec (.upstreamOffer y) { s with mp := { s.mp with offer := none, completions := [] } } = .next u
        ∧ t = { u with mp := { u.mp with completions := s.mp.completions ++ u.mp.completions } }

/-- What the engine has done by `d` with an event that left its read as `read` says and the copy request of `s`: no read is
left that R128 lets it start, and either nothing has changed, or it has asked for the next line of its segment. -/
def EngineServed (read : ReadState) (s d : State) : Prop :=
  startRead d = d
    ∧ ((d.re.read = read ∧ d.da.cp = s.da.cp)
      ∨ (read = .absent ∧ d.re.read = .requested ∧ d.re.reservation = true
        ∧ ∃ g, d.re.current = some g ∧ d.da.cp = some (d.readOf g)))

/-- A captured write's access has ended: once the capture unit has handled it, in `d`, the port is free, with the requests
of FG and AP as they stood and the engine served (R173). Then the port is granted, in R172's order, and an offer that
stands is accepted (R154). -/
def LocalWriteEnds (s d t : State) : Prop :=
  d.da = { s.da with port := none, cp := d.da.cp } ∧ EngineServed s.re.read s d ∧ OfferTaken (grant d) t

/-- An apply write's access has ended: once the apply unit has handled it, in `d`, the port is free, with the requests of FG
and CP as they stood and that of AP as given. Then the port is granted, by the promotion flag as the handling left it (R173,
R175). -/
def ApplyWriteEnds (ap : Option Txn) (s t : State) : Prop :=
  ∃ d, t = grant d ∧ d.da = { s.da with port := none, ap := ap } ∧ d.re = s.re

/-- A copy read's access has ended: once the engine has handled it, in `d`, the port is free, with the request of AP as it
stood, at FG the write of a capture whose wait for a slot has ended (R43), and the engine served. Then the port is granted,
in R172's order (R173). -/
def CopyReadEnds (s t : State) : Prop :=
  let waits (x : State) : Bool := x.cu.any (fun c => decide (c.phase = .slotWait))
  ∃ d, t = grant d ∧ d.da = { s.da with port := none, fg := d.da.fg, cp := d.da.cp } ∧ EngineServed .absent s d
    ∧ (waits s = false ∨ waits d = true → d.da.fg = s.da.fg)
    ∧ ∀ u, s.mp.txn = some u → waits s = true → waits d = false → d.da.fg = some u.txn

/-- What a session end leaves at the link controller and the lanes (R67, R68). -/
def LinkEnded (cause : DownCause) (peer : Option DownCause) (after : LinkState) (s t : State) : Prop :=
  t.lc =
      { s.lc with
        state := after, epoch := 0, lastDown := some cause, peerReason := peer, proposal := 0, attempts := 0
        peerHello := none, liveness := none, keepalive := none
        holdoff := if after = .down then some 2000 else none }
    ∧ t.lanes =
      { s.lanes with
        owed := []
        goodbye :=
          if cause = .retry ∨ cause = .protocol ∨ cause = .command ∨ cause = .resetMirror then some (s.lc.epoch, cause)
          else none }
    ∧ t.al.detail.link.getLsbD 1 = true ∧ (cause = .protocol → t.al.detail.integrity.getLsbD 1 = true)

/-! ### Fences that leave the list (R145 to R151) -/

/-- FENCE_ACK is high in ANSWERED only, and FENCE_CLEAN is low in every other state; the list holds one LINE fence in
PENDING and none in every other state (R149). -/
def LinesFollowHandshake (s : State) : Prop :=
  (s.fu.ack = true ↔ s.fu.handshake = .answered) ∧ (s.fu.clean = true → s.fu.handshake = .answered)
    ∧ s.fu.fences.countP (fun f => decide (f.source = .line)) = if s.fu.handshake = .pending then 1 else 0

/-- The log entry a fence's result makes: none for a LINE fence (R147). -/
def Fence.result (done : Bool) (f : Fence) : Option LogEntry :=
  match f.source with
  | .port tag => some ⟨tag, some f.ticket, done, f.degraded⟩
  | .line => none

/-- The last eight entries of a log (R147). -/
def lastEntries (log : List LogEntry) : List LogEntry := log.drop (log.length - 8)

/-- A list of fences as the degraded flag reaches it: set in each one when `d` holds (R144). -/
def degradedBy (d : Bool) (fences : List Fence) : List Fence :=
  fences.map (fun f => { f with degraded := f.degraded || d })

/-- The fences of `gone` have completed, in list order, with result DONE or FAILED: an entry in the log and a FENCE cause
for each PORT fence (R147), the answer on the lines for the LINE fence (R151). -/
def FencesDelivered (done : Bool) (gone : List Fence) (s t : State) : Prop :=
  (s.fu.log.length ≤ 8 → t.fu.log = lastEntries (s.fu.log ++ gone.filterMap (Fence.result done)))
    ∧ ((∃ f ∈ gone, f.source ≠ .line) → t.al.detail.has (if done then .fenceDone else .fenceFailed) = true)
    ∧ (LinesFollowHandshake s →
      (∀ f ∈ gone, f.source = .line →
          t.fu.handshake = .answered ∧ t.fu.ack = true ∧ t.fu.clean = (done && !f.degraded))
        ∧ ((∀ f ∈ gone, f.source ≠ .line) → s.fu.handshake ≠ .waiting →
          t.fu.handshake = s.fu.handshake ∧ t.fu.ack = s.fu.ack ∧ t.fu.clean = s.fu.clean))

/-- Every fence of `gone` has failed, the list is empty, and a waiting line request is answered FAILED (R146). -/
def FencesFailed (gone : List Fence) (s t : State) : Prop :=
  FencesDelivered false gone s t ∧ t.fu.fences = []
    ∧ (s.fu.handshake = .waiting → t.fu.handshake = .answered ∧ t.fu.ack = true ∧ t.fu.clean = false)

/-! ### What a session end leaves -/

/-- What a session end leaves at the apply unit: it drains, and its queue is not touched (R116). A unit that was BLOCKED
is IDLE first and takes its next heads: those that fail their check are rejected without an ACK, and the first that passes
is written (R107, R110). CHECK is passed through within an event, so no unit is left in it (R107). -/
def ApplyEnded (s t : State) : Prop :=
  let dropped := s.au.queue.takeWhile (fun e => !s.fits e)
  let left := s.au.queue.dropWhile (fun e => !s.fits e)
  t.au.unreported = 0 ∧ t.au.ackDelay = none ∧ t.au.state ≠ .blocked ∧ t.au.lastEpoch = s.au.epoch
    ∧ t.au.lastApplied = t.au.appliedThrough ∧ t.au.drained = t.au.queue.isEmpty
    ∧ t.au.epoch = s.au.epoch ∧ t.au.advertised = s.au.advertised ∧ t.au.writeIgnored = s.au.writeIgnored
    ∧ (s.au.state = .writing ∨ s.au.queue = [] →
      t.au.queue = s.au.queue ∧ t.au.appliedThrough = s.au.appliedThrough ∧ t.au.promotion = s.au.promotion
        ∧ (s.au.state ≠ .blocked → t.au.state = s.au.state))
    ∧ (s.au.state = .idle ∨ s.au.state = .blocked →
      t.au.queue = left ∧ t.au.appliedThrough = dropped.foldl (fun _ e => e.seq) s.au.appliedThrough
        ∧ (t.au.state = if left = [] then .idle else .writing)
        ∧ ∀ e more, left = e :: more → t.da.ap = some (s.writeOf e) ∨ t.da.port = some ⟨.ap, s.writeOf e⟩)

/-- What a session end leaves at the capture unit, when the upstream port holds the capture's transaction or no offer can
be let in. A capture in LOCAL_WRITE stays in it with its session-ended flag set (R41, R49). One in SLOT_WAIT goes on: without
a record in an enabled window, its stall timer stopped, and as a pass-through when its window is OFF (R42, R43, R49, R50).
With no capture there is none. -/
def CaptureEnded (s t : State) : Prop :=
  (∀ c u, s.cu = some c → s.mp.txn = some u →
      (c.phase = .localWrite → t.mp = s.mp ∧ t.cu = some { c with sessionEnded := true })
        ∧ (c.phase = .slotWait → t.mp = s.mp ∧ ForegroundAsked u.txn s t
          ∧ (u.released = false → s.out[c.window].state ≠ .off →
            t.cu = some
              { c with phase := .localWrite, path := some .noRecord, sessionEnded := true, stallTimer := none })
          ∧ (u.released = true ∨ s.out[c.window].state = .off → t.cu = none)))
    ∧ (s.cu = none → s.mp.offer = none ∨ s.mp.txn.isSome = true → t.cu = none ∧ t.mp = s.mp)

/-- What a session end leaves at the other blocks: the queue empty with the segments of its records marked and no other
mark changed, mirrored windows DEGRADED with their configuration kept, no current segment, every fence FAILED, no round or
ack timer, and the apply unit draining (R23, R39, R76, R116, R134, R137, R146).
A confirm wait ends with ERR, and an offer that stands is then accepted (R49, R154; log 14); a capture in another phase goes
on as `CaptureEnded` says.
Whether the fences have been told of the windows' entry into DEGRADED is either of two, `told` (R144; log 6). -/
def BlocksEnded (s t : State) : Prop :=
  t.rq.records = [] ∧ t.rq.nextSeq = s.rq.nextSeq ∧ t.rq.mergeTimer = none
    ∧ (∀ p, p < 4096 →
        (t.dm.getLsbD p = true ↔
          s.dm.getLsbD p = true ∨ ∃ r ∈ s.rq.records, s.out[r.window].state ≠ .off ∧ s.markOf r = p))
    ∧ (∀ w : WinId, s.out[w].state = .active ∨ s.out[w].state = .resync →
        t.out[w] = { s.out[w] with state := .degraded, haltCause := none, dirtyCount := t.out[w].dirtyCount }
          ∧ t.al.detail.has (.degradedEntered w) = true)
    ∧ (∀ w : WinId, s.out[w].state ≠ .active → s.out[w].state ≠ .resync →
        t.out[w] = { s.out[w] with dirtyCount := t.out[w].dirtyCount })
    ∧ (∀ g, s.re.current = some g → s.out[g.window].state = .resync →
        t.re.current = none ∧ t.re.state = .idle ∧ ReadAbandoned s t)
    ∧ (∃ told d : Bool,
        (d = true ↔ told = true ∧ ∃ w : WinId, s.out[w].state = .active ∨ s.out[w].state = .resync)
          ∧ FencesFailed (degradedBy d s.fu.fences) s t)
    ∧ t.ts = { s.ts with rounds := 0, ackTimer := none }
    ∧ t.rc = s.rc
    ∧ ApplyEnded s t
    ∧ (∀ c, s.cu = some c → c.phase = .confirmWait → s.mp.offer = none →
        t.cu = none ∧ t.mp.completions = s.mp.completions ++ [⟨.err, none⟩])
    ∧ (∀ c, s.cu = some c → c.phase = .confirmWait → s.pins.resetAsserted = false →
        t.mp.offer = none ∧ s.mp.completions ++ [⟨.err, none⟩] <+: t.mp.completions)
    ∧ CaptureEnded s t

/-- A session end of the given cause takes `s` to `t` (R67, R68). -/
def SessionEnded (cause : DownCause) (peer : Option DownCause) (after : LinkState) (s t : State) : Prop :=
  LinkEnded cause peer after s t ∧ BlocksEnded s t
    ∧ Only [.drawn, .out, .rq, .cu, .mp, .da, .lc, .lanes, .ts, .au, .dm, .re, .fu, .al, .counters] s t

/-! ### Laws of the spec -/

/-- ALERT_N is asserted while some category has both its enable and its summary set (R184). -/
def AlertFollows (s : State) : Prop :=
  s.al.asserted = true ↔ ∃ c : Fin 4, s.al.summary.getLsbD c = true ∧ s.al.enables.getLsbD c = true

/-- The apply queue holds at most 16 records, none of them judged yet (R105), the fence list at most 4 fences (R140) and
the result log at most 8 entries (R147). -/
def CapacitiesHold (s : State) : Prop :=
  s.au.queue.length ≤ 16 ∧ (∀ e ∈ s.au.queue, e.reject = none) ∧ s.fu.fences.length ≤ 4 ∧ s.fu.log.length ≤ 8

/-- While the link is not UP the session epoch is 0 and the liveness and keepalive timers are stopped (R53, R65, R66). -/
def EpochFollowsLink (s : State) : Prop :=
  s.lc.state ≠ .up → s.lc.epoch = 0 ∧ s.lc.liveness = none ∧ s.lc.keepalive = none

/-- copy_floor is 0 whenever no CP request is presented, and at most 32 (R174). -/
def CopyFloorFits (s : State) : Prop := (s.da.cp = none → s.da.copyFloor = 0) ∧ s.da.copyFloor ≤ 32

/-- A free port has no request waiting: one presented to it is granted at once, and one that waits is granted when the port
becomes free (R172, R173). -/
def FreePortUnasked (s : State) : Prop := s.da.port = none → s.da.fg = none ∧ s.da.ap = none ∧ s.da.cp = none

/-- A halt cause is present while the window is HALTED and only then, and a map range lies within the 4096 positions (R2,
R8, R15). -/
def WindowsFit (s : State) : Prop :=
  ∀ w : WinId, (s.out[w].haltCause.isSome = true ↔ s.out[w].state = .halted)
    ∧ s.out[w].mapOffset + s.out[w].length ≤ 4096

/-- Only the tail of the replay queue can be OPEN, and an OPEN record is a WRITE without a waiter (R34, R45). -/
def OpenOnlyAtTail (s : State) : Prop :=
  (∀ r ∈ s.rq.records.dropLast, r.state ≠ .opened)
    ∧ ∀ r ∈ s.rq.records, r.state = .opened → r.kind = .write ∧ r.waiter = false

/-- The resync engine holds a reservation exactly while a read is outstanding, the arbiter's view of the read is the
engine's, a read not yet granted belongs to a current segment, and none is outstanding in DRAINING (R32, R125, R128,
R135). -/
def EngineFits (s : State) : Prop :=
  (s.re.reservation = true ↔ s.re.read ≠ .absent)
    ∧ (s.re.read = .requested → s.re.current.isSome = true)
    ∧ (s.re.state = .draining → s.re.read = .absent)
    ∧ (s.da.cp.isSome = true ↔ s.re.read = .requested)
    ∧ ((∃ t, s.da.port = some ⟨.cp, t⟩) ↔ s.re.read = .granted)

/-- Records and reservations together never exceed 64 (R32), with what the engine's reservation rests on. -/
def SlotsFit (s : State) : Prop :=
  s.rq.records.length + (if s.cu.any (·.reservation) then 1 else 0) + (if s.re.reservation then 1 else 0) ≤ 64
    ∧ EngineFits s

/-- While the link is not UP the replay queue is empty and no outbound window is ACTIVE or RESYNC (R39); the engine's
current segment belongs to a window in RESYNC (R17, R134). -/
def QuietWhileDown (s : State) : Prop :=
  (s.lc.state ≠ .up → s.rq.records = [] ∧ ∀ w : WinId, s.out[w].state ≠ .active ∧ s.out[w].state ≠ .resync)
    ∧ ∀ g, s.re.current = some g → s.out[g.window].state = .resync

/-- No two enabled windows overlap: outbound windows in address and in map range, an outbound and an inbound window, and
two inbound windows, in address (R7). -/
def WindowsApart (s : State) : Prop :=
  (∀ w : WinId, s.out[w].state ≠ .off → s.outboundClear w)
    ∧ ∀ i : WinId, s.inb[i].enabled = true → s.inboundClear i

/-- The dirty map follows the windows: dirty_count is the number of marks of the window's range, every mark belongs to an
enabled window, an ACTIVE window has none, and one in RESYNC has some (R17, R121, R124). What the marks are set from lies
within its window: the records of an enabled window (R9, R29), the capture of one (R41, R160), and the engine's current
segment and next read (R125, R128). -/
def DirtyMapFits (s : State) : Prop :=
  (∀ w : WinId, s.out[w].dirtyCount = if s.out[w].state = .off then 0 else s.marksIn w)
    ∧ (∀ p, s.dm.getLsbD p = true →
      ∃ w : WinId, s.out[w].state ≠ .off ∧ s.out[w].mapOffset ≤ p ∧ p < s.out[w].mapOffset + s.out[w].length)
    ∧ (∀ w : WinId, (s.out[w].state = .active → s.out[w].dirtyCount = 0)
      ∧ (s.out[w].state = .resync → s.out[w].dirtyCount ≠ 0))
    ∧ (∀ r ∈ s.rq.records, s.out[r.window].state ≠ .off → s.lineInside r.window r.line)
    ∧ (∀ c, s.cu = some c → ∃ u, s.mp.txn = some u ∧ u.cls = .capture c.window c.line
      ∧ (u.released = false → s.out[c.window].state ≠ .off ∧ s.lineInside c.window c.line))
    ∧ ∀ g, s.re.current = some g → s.out[g.window].state = .resync ∧ g.index < s.out[g.window].length
      ∧ (s.re.read ≠ .absent → s.re.readDropped = false → g.nextLine < s.segLines)

/-- SEGMENT_SIZE has one of its five values (R202), and a granted read without a current segment is one whose segment was
abandoned (R135, R136). -/
def SegmentsFit (s : State) : Prop :=
  s.params.segmentSize.toNat ∈ [4, 8, 16, 32, 64]
    ∧ (s.re.read = .granted → s.re.current = none → s.re.readDropped = true)

/-- What keeps the dirty map and the windows together at every step (R7, R17, R121, R136, R202). -/
def MapLaw (s : State) : Prop :=
  WindowsFit s ∧ WindowsApart s ∧ EngineFits s ∧ SegmentsFit s ∧ DirtyMapFits s

/-- In UP the queued records carry consecutive numbers from acked_through + 1 on, next_seq follows them, and no number
beyond them has been sent (R31, R75). -/
def NumbersFit (s : State) : Prop :=
  s.lc.state = .up →
    (∀ (k : Nat) (h : k < s.rq.records.length),
        s.rq.records[k].seq = s.ts.ackedThrough + BitVec.ofNat 16 (k + 1))
      ∧ s.rq.nextSeq = s.ts.ackedThrough + BitVec.ofNat 16 (s.rq.records.length + 1)
      ∧ (s.ts.sentHigh - s.ts.ackedThrough).toNat ≤ s.rq.records.length

/-- What keeps the numbers consecutive at every step (R31, R32, R39). -/
def NumbersLaw (s : State) : Prop := SlotsFit s ∧ QuietWhileDown s ∧ NumbersFit s

end Sys2Proof.Machine
end

