-- ==== Sys2Proof/Certificates/Slice0/Obligations.lean ====
section
/-! DEFINITION. The statements about the bridge, for the provers. -/

open Sys2Proof Sys2Proof.Machine

/-! ### The machine -/

/-- A step takes the command at the front of the queue and runs it on the state with the queue's rest. -/
def Obligations.StepRunsFrontCommand : Prop :=
  ∀ (c : Instr) (rest : List Instr) (s : State), step (s.setPending (c :: rest)) = exec c (s.setPending rest)

/-- Every command has a next state in every state, and never touches the queue.
A row that the state rules out changes nothing by the model's choice (log 1). -/
def Obligations.EveryCommandAnswersNext : Prop :=
  ∀ (c : Instr) (s : State), ∃ t, exec c s = .next t ∧ t.pending = s.pending

/-- Every block after pin reset: the window tables, the words and the dirty map (R3, R5, R120, R202), the sending and the
receiving side (R40, R41, R53, R75, R97, R106, R125), and the ports, the fence unit, the alert unit and the counters (R141,
R156, R171, R189, R193).
That no upstream offer stands, the zeros of the empty HELLO record, and the fields for completions and for a dropped
read are the model's (log 8, log 11, log 13, log 16). -/
def Obligations.ResetValues : Prop :=
    ((∀ w : WinId, State.reset.out[w] =
        { base := 0, length := 0, mapOffset := 0, policy := .posted, autoResync := false, state := .off, haltCause := none,
          cursor := 0, dirtyCount := 0 })
      ∧ (∀ i : WinId, State.reset.inb[i] = { base := 0, length := 0, enabled := false, guard := true })
      ∧ State.reset.dm = 0 ∧ State.reset.port = .idle
      ∧ State.reset.params =
        { segmentSize := 64, mergeTime := 4, stallLimit := 50, confirmTimeout := 500, ackTimeout := 100, ackDelay := 2,
          ackBatch := 8, keepalive := 50, liveness := 1000, retryLimit := 8 })
    ∧ (State.reset.rq = { records := [], nextSeq := 0, sendPtr := 0, mergeTimer := none } ∧ State.reset.cu = none
      ∧ State.reset.lc.state = .off ∧ State.reset.lc.enabled = false ∧ State.reset.lc.epoch = 0
      ∧ State.reset.lc.lastEpoch = 0 ∧ State.reset.lc.lastDown = none ∧ State.reset.lc.peerReason = none
      ∧ State.reset.lc.proposal = 0 ∧ State.reset.lc.attempts = 0 ∧ State.reset.lc.peerHello = none
      ∧ State.reset.lc.training = none ∧ State.reset.lc.holdoff = none ∧ State.reset.lc.helloInterval = none
      ∧ State.reset.lc.liveness = none ∧ State.reset.lc.keepalive = none
      ∧ State.reset.ts.ackedThrough = 65535 ∧ State.reset.ts.sendLimit = 65535 ∧ State.reset.ts.sentHigh = 65535
      ∧ State.reset.ts.rounds = 0 ∧ State.reset.ts.ackTimer = none
      ∧ State.reset.rc = { expected := 0, nakOutstanding := false }
      ∧ State.reset.au.queue = [] ∧ State.reset.au.state = .idle ∧ State.reset.au.epoch = 0
      ∧ State.reset.au.appliedThrough = 65535 ∧ State.reset.au.unreported = 0 ∧ State.reset.au.ackDelay = none
      ∧ State.reset.au.advertised = 15 ∧ State.reset.au.promotion = false ∧ State.reset.au.lastEpoch = 0
      ∧ State.reset.au.lastApplied = 65535 ∧ State.reset.au.drained = true
      ∧ State.reset.re.state = .idle ∧ State.reset.re.current = none ∧ State.reset.re.lastServed = 7
      ∧ State.reset.re.read = .absent ∧ State.reset.re.readDropped = false ∧ State.reset.re.reservation = false)
    ∧ (State.reset.mp = { txn := none, offer := none, completions := [] }
      ∧ State.reset.da = { port := none, fg := none, ap := none, cp := none, copyFloor := 0 }
      ∧ State.reset.lanes = { frame := none, owed := [], goodbye := none }
      ∧ State.reset.fu = { fences := [], log := [], handshake := .idle, ack := false, clean := false }
      ∧ State.reset.al =
        { detail := { window := 0, link := 0, fence := 0, integrity := 0 }, summary := 0, enables := 0, asserted := false }
      ∧ (∀ c : Fin 14, State.reset.counters[c] = 0) ∧ State.reset.pins.resetAsserted = false)

/-! ### Laws that every step keeps -/

/-- The laws of `Safety.lean` hold right after reset. -/
def Obligations.LawsHoldAtReset : Prop :=
  AlertFollows State.reset ∧ CapacitiesHold State.reset ∧ FreePortUnasked State.reset ∧ LinesFollowHandshake State.reset
    ∧ EpochFollowsLink State.reset ∧ CopyFloorFits State.reset ∧ WindowsFit State.reset ∧ OpenOnlyAtTail State.reset
    ∧ SlotsFit State.reset ∧ QuietWhileDown State.reset ∧ NumbersLaw State.reset ∧ WindowsApart State.reset
    ∧ MapLaw State.reset

/-- Every step keeps ALERT_N at the level its flags and enables give (R184), and FENCE_ACK and FENCE_CLEAN at levels the
handshake state allows (R149). -/
def Obligations.StepKeepsOutputLines : Prop :=
    (∀ s t : State, AlertFollows s → step s = .next t → AlertFollows t)
    ∧ (∀ s t : State, LinesFollowHandshake s → step s = .next t → LinesFollowHandshake t)

/-- Every step keeps the bounds of the apply queue, the fence list and the result log (R105, R140, R147), copy_floor at 0
while no copy request waits and at most 32 otherwise (R174), a halt cause present exactly in HALTED windows, and map ranges
inside the map (R2, R8). It leaves no request waiting at a free port (R172, R173). -/
def Obligations.StepKeepsBounds : Prop :=
    (∀ s t : State, CapacitiesHold s → step s = .next t → CapacitiesHold t)
    ∧ (∀ s t : State, CopyFloorFits s → step s = .next t → CopyFloorFits t)
    ∧ (∀ s t : State, WindowsFit s → step s = .next t → WindowsFit t)
    ∧ (∀ s t : State, FreePortUnasked s → step s = .next t → FreePortUnasked t)

/-- While the link is not UP every step keeps the session epoch at 0 and the session's timers stopped (R53, R65, R66), and the
replay queue empty with no window in ACTIVE or RESYNC (R39); the current segment belongs to a window in RESYNC (R17). -/
def Obligations.StepKeepsDownState : Prop :=
    (∀ s t : State, EpochFollowsLink s → step s = .next t → EpochFollowsLink t)
    ∧ (∀ s t : State, QuietWhileDown s → step s = .next t → QuietWhileDown t)

/-- Every step keeps all records but the tail closed (R34, R45), and records and reservations together at 64 or fewer (R32). -/
def Obligations.StepKeepsQueue : Prop :=
    (∀ s t : State, OpenOnlyAtTail s → step s = .next t → OpenOnlyAtTail t)
    ∧ (∀ s t : State, SlotsFit s → step s = .next t → SlotsFit t)

/-- Every step keeps enabled windows apart (R7), and the dirty map in step with the windows: dirty_count is the number of
marks, an ACTIVE window has none and one in RESYNC has some (R17, R121, R124). With them it keeps SEGMENT_SIZE at one of its
values (R202, R203), and a granted read without a current segment dropped (R135, R136). -/
def Obligations.StepKeepsDirtyMap : Prop :=
  ∀ s t : State, MapLaw s → step s = .next t → MapLaw t

/-- Every step keeps the numbers of the queued records consecutive from acked_through + 1 on, with next_seq behind them,
while the link is UP (R31). -/
def Obligations.StepKeepsNumbers : Prop :=
  ∀ s t : State, NumbersLaw s → step s = .next t → NumbersLaw t

/-! ### Sequence numbers, flags and counters -/

/-- Circular comparison of sequence numbers, and the successor of an epoch (R1); the check values of the two CRCs (R211), the
length of each frame on the wire (R210), and that a frame whose last four bytes are not the CRC-32 of the rest is a bad
frame (R211). -/
def Obligations.NumbersAndFrames : Prop :=
    ((∀ a b : Seq, later b a = true ↔
        1 ≤ (b.toNat + 65536 - a.toNat) % 65536 ∧ (b.toNat + 65536 - a.toNat) % 65536 ≤ 32767)
      ∧ (∀ a b : Seq, atOrBefore b a = true ↔ later b a = false) ∧ (∀ a : Seq, atOrBefore a a = true)
      ∧ epochSucc 255 = 1 ∧ ∀ e : Epoch, e ≠ 255 → epochSucc e = e + 1)
    ∧ (crc32 [0x31, 0x32, 0x33, 0x34, 0x35, 0x36, 0x37, 0x38, 0x39] = 0xCBF43926
      ∧ crc8 [0x31, 0x32, 0x33, 0x34, 0x35, 0x36, 0x37, 0x38, 0x39] = 0xF4 ∧ crc8 [0x00] = 0x00)
    ∧ ((∀ epoch seq kind window line mask bytes,
        (Frame.data epoch seq kind window line mask bytes).bytes.length = 84)
      ∧ (∀ epoch through limit reject, (Frame.ack epoch through limit reject).bytes.length = 13)
      ∧ (∀ epoch expected, (Frame.nak epoch expected).bytes.length = 8)
      ∧ (∀ proposal nodeId limit, (Frame.hello proposal nodeId limit).bytes.length = 9)
      ∧ (∀ agreed nodeId, (Frame.helloAck agreed nodeId).bytes.length = 7)
      ∧ ∀ epoch reason, (Frame.goodbye epoch reason).bytes.length = 7)
    ∧ (∀ body crc : List Byte, crc.length = 4 → crc ≠ crc32Bytes body → receive (body ++ crc) = .badCrcFrame)

/-- Raising a cause sets its detail flag and its category's summary, leaves every other flag and the enables, and
re-examines ALERT_N (R183, R184). An increment raises one counter by one, and a counter at 65535 stays there (R191). -/
def Obligations.FlagsAndCounters : Prop :=
    (∀ (c : Cause) (s : State),
      Only [.al] s (raise c s)
        ∧ (raise c s).al.enables = s.al.enables
        ∧ (∀ d : Cause, (raise c s).al.detail.has d = (decide (d = c) || s.al.detail.has d))
        ∧ (∀ k : Category, (raise c s).al.summary.getLsbD k.code
            = (decide (k = c.category) || s.al.summary.getLsbD k.code))
        ∧ AlertFollows (raise c s))
    ∧ (∀ (c : Counter) (s : State),
      Only [.counters] s (bump c s)
        ∧ (bump c s).counter c = (if s.counter c = 65535 then 65535 else s.counter c + 1)
        ∧ ∀ d : Counter, d ≠ c → (bump c s).counter d = s.counter d)

/-! ### Formats -/

/-- A frame that this bridge forms, received intact, is the row of its type with its own fields, whatever they are
(R210). -/
def Obligations.FramesReceivedAsSent : Prop :=
  ∀ f : Frame, receive f.bytes = f.received

/-- A maintenance request's code and argument bytes spell that request and no other, at every value of every argument, and
the code tells the argument count (R196, R212). -/
def Obligations.RequestsParsedAsSent : Prop :=
  (∀ r : Request, Request.parse r.code r.args = some r ∧ argCount r.code = some r.args.length)
    ∧ ∀ code args r, Request.parse code args = some r → code = r.code ∧ args = r.args

/-! ### The maintenance port -/

/-- A request's CRC byte, when it completes, is that request's row (R197; log 3), and one whose CRC-8 does not match is
answered BAD_CRC and changes nothing else (R197).
That the two rows are one event is the model's reading (log 3). -/
def Obligations.RequestCompletes : Prop :=
    (∀ (r : Request) (crc : Byte) (s : State), s.holds r → exec (.maintenanceByteComplete crc) s = exec (r.row crc) s)
    ∧ (∀ (r : Request) (crc : Byte) (s : State),
      s.holds r → crc ≠ r.crc → exec (r.row crc) s = .next (s.answered .badCrc []))

/-- The maintenance port outside the completion of a request: what a byte does in each state (R194 to R196), how a response
is shifted out (R198), and what the edges of MCS_N do, in reset too (R194, R199, R167).
The MSDO field is the model's latch (log 13), and the rows' bytes are its reading (log 3). -/
def Obligations.PortBytes : Prop :=
    (∀ (b : Byte) (s : State), s.pins.resetAsserted = false →
      (∀ args bits, s.port = .receiving none args bits →
          ((argCount b).isSome → exec (.maintenanceByteComplete b) s
              = .next { s with port := .receiving (some b) [] 0, pins := { s.pins with msdo := some 0xFF } })
            ∧ (argCount b = none →
              exec (.maintenanceByteComplete b) s
                  = .next { s with port := .refusing, pins := { s.pins with msdo := some 0xFF } }
                ∧ exec (.unknownCommand b) s
                  = .next { s with port := .refusing, pins := { s.pins with msdo := some 0xFF } }))
        ∧ (∀ code args bits n, s.port = .receiving (some code) args bits → argCount code = some n → args.length < n →
          exec (.maintenanceByteComplete b) s
            = .next { s with port := .receiving (some code) (args ++ [b]) 0, pins := { s.pins with msdo := some 0xFF } })
        ∧ (s.port = .refusing →
          exec (.maintenanceByteComplete b) s = .next { s with pins := { s.pins with msdo := some 0x05 } })
        ∧ (s.port = .ignoring ∨ s.port = .trailing →
          exec (.maintenanceByteComplete b) s = .next { s with pins := { s.pins with msdo := some 0xFF } })
        ∧ (s.port = .idle → exec (.maintenanceByteComplete b) s = .next s))
    ∧ (∀ (b : Byte) (s : State) (response : List Byte) (k : Nat) (hk : k < response.length),
      s.pins.resetAsserted = false → s.port = .responding response k →
        exec (.maintenanceByteComplete b) s
          = .next { s with
              port := if k + 1 = response.length then .trailing else .responding response (k + 1)
              pins := { s.pins with msdo := some response[k] } })
    ∧ (∀ s : State,
      (s.pins.resetAsserted = false → s.port = .idle →
          exec .mcsNFall s
            = .next { s with port := .receiving none [] 0, pins := { s.pins with mcsHigh := false, msdo := some 0xFF } })
        ∧ (s.pins.resetAsserted = false →
          exec .mcsNRise s = .next { s with port := .idle, pins := { s.pins with mcsHigh := true, msdo := none } })
        ∧ (s.pins.resetAsserted = true →
          exec .mcsNFall s = .next { s with pins := { s.pins with mcsHigh := false } }
            ∧ exec .mcsNRise s = .next { s with pins := { s.pins with mcsHigh := true, msdo := none } }))

/-! ### Window commands -/

/-- WIN_CONFIG writes the five configuration fields of an OFF window, or is refused (R6, R8). -/
def Obligations.WinConfigResult : Prop :=
  ∀ (b : Byte) (base : BitVec 32) (length mapOffset : BitVec 16) (policy autoResync : Byte) (s : State),
    s.holds (.winConfig b base length mapOffset policy autoResync) →
      let run := exec
        (.winConfig b base length mapOffset policy autoResync
          (Request.crc (.winConfig b base length mapOffset policy autoResync))) s
      (8 ≤ b.toNat → run = .next (s.answered .badArg []))
        ∧ ∀ w : WinId, b.toNat = w.val →
          (s.out[w].state ≠ .off → run = .next (s.answered .badState []))
            ∧ (s.out[w].state = .off →
              let good := base.toNat % s.segBytes = 0 ∧ 1 ≤ length.toNat ∧ length.toNat ≤ 4096
                ∧ mapOffset.toNat + length.toNat ≤ 4096 ∧ base.toNat + length.toNat * s.segBytes ≤ 2 ^ 32
                ∧ policy.toNat ≤ 1 ∧ autoResync.toNat ≤ 1
              (¬good → run = .next (s.answered .badArg []))
                ∧ (good → run = .next
                  (State.answered
                    { s with
                      out := s.out.set w
                        { s.out[w] with
                          base := base, length := length.toNat, mapOffset := mapOffset.toNat
                          policy := if policy = 0 then .posted else .confirmed
                          autoResync := decide (autoResync = 1) } }
                    .ok [])))

/-- WIN_ENABLE: the checks in their order, and the marks, count, cursor and state of an accepted enable; the window keeps its
configuration, and every other entry stays as it was (R9, R10, R123). Only a window in RESYNC can have its cursor moved in the
same event, by an engine that takes a segment of it at once (R126, R127). -/
def Obligations.WinEnableResult : Prop :=
  ∀ (b mode : Byte) (s : State), s.holds (.winEnable b mode) →
    let run := exec (.winEnable b mode (Request.crc (.winEnable b mode))) s
    (8 ≤ b.toNat → run = .next (s.answered .badArg []))
      ∧ ∀ w : WinId, b.toNat = w.val →
        (s.out[w].state ≠ .off ∨ s.out[w].length = 0 → run = .next (s.answered .badState []))
          ∧ (s.out[w].state = .off → s.out[w].length ≠ 0 →
            ((∃ r ∈ s.rq.records, r.window = w) → run = .next (s.answered .busy []))
              ∧ ((∀ r ∈ s.rq.records, r.window ≠ w) →
                let good := mode.toNat ≤ 1 ∧ s.out[w].base.toNat % s.segBytes = 0
                  ∧ s.out[w].base.toNat + s.out[w].length * s.segBytes ≤ 2 ^ 32 ∧ s.outboundClear w
                (¬good → run = .next (s.answered .badArg []))
                  ∧ (good → s.out[w].mapOffset + s.out[w].length ≤ 4096 →
                    ∃ t, run = .next t ∧ t.answers .ok []
                      ∧ Only [.pins, .port, .out, .cu, .da, .dm, .re, .fu, .al] s t
                      ∧ WindowBecomes w
                        { s.out[w] with
                          state := if s.lc.state = .up then (if mode = 1 then .resync else .active) else .degraded
                          haltCause := none, cursor := 0, dirtyCount := if mode = 1 then s.out[w].length else 0 } s t
                      ∧ (s.re.state = .copying ∨ s.re.state = .draining → t.out[w].cursor = 0)
                      ∧ (∀ p, t.dm.getLsbD p
                          = (s.dm.getLsbD p || (decide (mode = 1) && decide (s.out[w].mapOffset ≤ p)
                              && decide (p < s.out[w].mapOffset + s.out[w].length))))
                      ∧ (s.lc.state ≠ .up → t.al.detail.has (.degradedEntered w) = true)
                      ∧ (s.lc.state = .up → t.al = s.al))))

/-- WIN_DISABLE turns a window OFF with its marks clear and its configuration kept, touches no record, fence or flag, and
releases a captured write of that window in progress; a current segment of it is abandoned, its requested read withdrawn
and its granted one dropped (R135, R136); an OFF window is left as it is (R11, R160), and so is every other entry but for the
cursor of a window in RESYNC (R127).
The mark of a dropped read is the model's (log 16). -/
def Obligations.WinDisableResult : Prop :=
  ∀ (b : Byte) (s : State), s.holds (.winDisable b) →
    let run := exec (.winDisable b (Request.crc (.winDisable b))) s
    (8 ≤ b.toNat → run = .next (s.answered .badArg []))
      ∧ ∀ w : WinId, b.toNat = w.val →
        (s.out[w].state = .off → run = .next (s.answered .ok []))
          ∧ (s.out[w].state ≠ .off →
            ∃ t, run = .next t ∧ t.answers .ok []
              ∧ Only [.pins, .port, .out, .cu, .mp, .da, .dm, .re] s t
              ∧ WindowBecomes w { s.out[w] with state := .off, haltCause := none, cursor := 0, dirtyCount := 0 } s t
              ∧ (∀ p, s.out[w].mapOffset ≤ p → p < s.out[w].mapOffset + s.out[w].length → t.dm.getLsbD p = false)
              ∧ (∀ p, p < s.out[w].mapOffset ∨ s.out[w].mapOffset + s.out[w].length ≤ p →
                t.dm.getLsbD p = s.dm.getLsbD p)
              ∧ (∀ g, t.re.current = some g → g.window ≠ w)
              ∧ (∀ g, s.re.current = some g → g.window = w → s.out[w].state = .resync → ReadAbandoned s t)
              ∧ (s.mp.txn = none → t.mp = s.mp)
              ∧ (∀ u, s.mp.txn = some u → (∀ line, u.cls ≠ .capture w line) → t.mp = s.mp)
              ∧ (∀ u line, s.mp.txn = some u → u.cls = .capture w line →
                t.mp = { s.mp with txn := some { u with released := true } }))

/-- WIN_RESYNC, WIN_HALT and WIN_RESUME in each window state (R18, R20, R21); the window keeps its configuration and
dirty_count, and every other entry stays as it was but for the cursor of a window in RESYNC (R127). A WIN_HALT of the window
that holds the current segment abandons it: its requested read is withdrawn, its granted one dropped (R135, R136).
The mark of a dropped read is the model's (log 16). -/
def Obligations.WinStateCommands : Prop :=
    (∀ (b : Byte) (s : State), s.holds (.winResync b) →
      let run := exec (.winResync b (Request.crc (.winResync b))) s
      (8 ≤ b.toNat → run = .next (s.answered .badArg []))
        ∧ ∀ w : WinId, b.toNat = w.val →
          (s.out[w].state = .active ∨ s.out[w].state = .resync → run = .next (s.answered .ok []))
            ∧ (s.out[w].state = .halted ∨ s.out[w].state = .off → run = .next (s.answered .badState []))
            ∧ (s.out[w].state = .degraded → s.lc.state ≠ .up → run = .next (s.answered .badState []))
            ∧ (s.out[w].state = .degraded → s.lc.state = .up →
              ∃ t, run = .next t ∧ t.answers .ok [] ∧ Only [.pins, .port, .out, .cu, .da, .re, .fu, .al] s t
                ∧ WindowBecomes w
                  { s.out[w] with
                    state := if s.out[w].dirtyCount = 0 then .active else .resync, haltCause := none } s t
                ∧ (s.out[w].dirtyCount ≠ 0 → t.al = s.al)
                ∧ (s.out[w].dirtyCount = 0 → t.al.detail.has (.synced w) = true)))
    ∧ (∀ (b : Byte) (s : State), s.holds (.winHalt b) →
      let run := exec (.winHalt b (Request.crc (.winHalt b))) s
      (8 ≤ b.toNat → run = .next (s.answered .badArg []))
        ∧ ∀ w : WinId, b.toNat = w.val →
          (s.out[w].state = .off → run = .next (s.answered .badState []))
            ∧ (s.out[w].state = .halted → run = .next (s.answered .ok []))
            ∧ (s.out[w].state ≠ .off → s.out[w].state ≠ .halted →
              ∃ t, run = .next t ∧ t.answers .ok [] ∧ Only [.pins, .port, .out, .cu, .da, .re, .fu, .al] s t
                ∧ WindowBecomes w { s.out[w] with state := .halted, haltCause := some .command } s t
                ∧ (s.out[w].state = .resync → ∀ g, t.re.current = some g → g.window ≠ w)
                ∧ (∀ g, s.re.current = some g → g.window = w → s.out[w].state = .resync → ReadAbandoned s t)
                ∧ t.al.detail.has (.haltedEntered w) = true ∧ ∀ f ∈ t.fu.fences, f.degraded = true))
    ∧ (∀ (b : Byte) (s : State), s.holds (.winResume b) →
      let run := exec (.winResume b (Request.crc (.winResume b))) s
      (8 ≤ b.toNat → run = .next (s.answered .badArg []))
        ∧ ∀ w : WinId, b.toNat = w.val →
          (s.out[w].state ≠ .halted → run = .next (s.answered .badState []))
            ∧ (s.out[w].state = .halted →
              ∃ t, run = .next t ∧ t.answers .ok [] ∧ Only [.pins, .port, .out, .cu, .da, .re, .fu, .al] s t
                ∧ WindowBecomes w
                  { s.out[w] with
                    state :=
                      if s.out[w].autoResync = true ∧ s.lc.state = .up then
                        (if s.out[w].dirtyCount = 0 then .active else .resync)
                      else .degraded
                    haltCause := none } s t
                ∧ t.al.detail.has (.degradedEntered w) = true
                ∧ (s.out[w].autoResync = true → s.lc.state = .up → s.out[w].dirtyCount = 0 →
                  t.al.detail.has (.synced w) = true)))

/-- WIN_MARK sets each named mark of an enabled window and counts the new ones; an ACTIVE window in which a named mark was
clear moves to RESYNC, and a mark on the current segment redirties it (R19, R122, R133). The window keeps its configuration,
and every other entry stays as it was but for the cursor of a window in RESYNC (R127). -/
def Obligations.WinMarkResult : Prop :=
  ∀ (b : Byte) (first count : BitVec 16) (s : State), s.holds (.winMark b first count) →
    let run := exec (.winMark b first count (Request.crc (.winMark b first count))) s
    (8 ≤ b.toNat → run = .next (s.answered .badArg []))
      ∧ ∀ w : WinId, b.toNat = w.val →
        (s.out[w].state = .off → run = .next (s.answered .badState []))
          ∧ (s.out[w].state ≠ .off → count.toNat = 0 ∨ s.out[w].length < first.toNat + count.toNat →
            run = .next (s.answered .badArg []))
          ∧ (s.out[w].state ≠ .off → count.toNat ≠ 0 → first.toNat + count.toNat ≤ s.out[w].length →
            s.out[w].mapOffset + s.out[w].length ≤ 4096 →
            let clear := (List.range count.toNat).filter
              (fun k => !s.dm.getLsbD (s.out[w].mapOffset + (first.toNat + k)))
            ∃ t, run = .next t ∧ t.answers .ok [] ∧ Only [.pins, .port, .out, .cu, .da, .dm, .re, .fu, .al] s t
              ∧ (∀ p, t.dm.getLsbD p
                  = (s.dm.getLsbD p || (decide (s.out[w].mapOffset + first.toNat ≤ p)
                      && decide (p < s.out[w].mapOffset + first.toNat + count.toNat))))
              ∧ WindowBecomes w
                { s.out[w] with
                  state := t.out[w].state
                  haltCause := if s.out[w].state = .active then none else s.out[w].haltCause
                  dirtyCount := s.out[w].dirtyCount + clear.length } s t
              ∧ (s.out[w].state ≠ .active → t.out[w].state = s.out[w].state)
              ∧ (s.out[w].state = .active → clear ≠ [] → t.out[w].state = .resync)
              ∧ ∀ g, s.re.current = some g → g.window = w → first.toNat ≤ g.index → g.index < first.toNat + count.toNat →
                s.re.state = .copying ∨ s.re.state = .draining → t.re.current = some { g with redirtied := true })

/-- WIN_STATUS, IN_STATUS and LINK_STATUS return their bytes in any state and change nothing (R15, R72, R212). -/
def Obligations.StatusReadsResult : Prop :=
    (∀ (b : Byte) (s : State),
      (s.holds (.winStatus b) →
          let run := exec (.winStatus b (Request.crc (.winStatus b))) s
          (8 ≤ b.toNat → run = .next (s.answered .badArg []))
            ∧ ∀ w : WinId, b.toNat = w.val →
              run = .next (s.answered .ok
                ([s.out[w].state.code, codeOr0 HaltCause.code s.out[w].haltCause]
                  ++ bytes16 (BitVec.ofNat 16 s.out[w].dirtyCount) ++ bytes16 (BitVec.ofNat 16 s.out[w].cursor)
                  ++ [if ∃ g, s.re.current = some g ∧ g.window = w then 1 else 0])))
        ∧ (s.holds (.inStatus b) →
          let run := exec (.inStatus b (Request.crc (.inStatus b))) s
          (8 ≤ b.toNat → run = .next (s.answered .badArg []))
            ∧ ∀ i : WinId, b.toNat = i.val →
              run = .next (s.answered .ok
                (bytes32 s.inb[i].base ++ bytes32 s.inb[i].length
                  ++ [if s.inb[i].enabled then 1 else 0, if s.inb[i].guard then 1 else 0]))))
    ∧ (∀ s : State, s.holds .linkStatus →
      exec (.linkStatus (Request.crc .linkStatus)) s = .next (s.answered .ok
        ([s.lc.state.code, if s.lc.enabled then 1 else 0, s.lc.epoch, s.lc.lastEpoch,
            codeOr0 DownCause.code s.lc.lastDown, codeOr0 DownCause.code s.lc.peerReason]
          ++ bytes16 s.rq.nextSeq ++ bytes16 s.ts.ackedThrough ++ bytes16 s.ts.sendLimit
          ++ [BitVec.ofNat 8 s.rq.records.length,
            BitVec.ofNat 8 (s.rq.records.filter (fun r => decide (r.kind = .copy))).length,
            BitVec.ofNat 8 s.au.queue.length]
          ++ bytes16 s.au.appliedThrough ++ bytes16 s.au.lastApplied
          ++ [s.au.lastEpoch, if s.au.drained then 1 else 0])))

/-- IN_CONFIG, IN_ENABLE and IN_DISABLE (R12, R13, R14). -/
def Obligations.InboundCommandsResult : Prop :=
  ∀ (b : Byte) (s : State),
    (∀ (base length : BitVec 32) (guard : Byte), s.holds (.inConfig b base length guard) →
        let run := exec (.inConfig b base length guard (Request.crc (.inConfig b base length guard))) s
        (8 ≤ b.toNat → run = .next (s.answered .badArg []))
          ∧ ∀ i : WinId, b.toNat = i.val →
            let good := base.toNat % 64 = 0 ∧ length.toNat % 64 = 0 ∧ 64 ≤ length.toNat ∧ length.toNat ≤ 2 ^ 30
              ∧ base.toNat + length.toNat ≤ 2 ^ 32 ∧ guard.toNat ≤ 1
            (s.inb[i].enabled = true → run = .next (s.answered .badState []))
              ∧ (s.inb[i].enabled = false → ¬good → run = .next (s.answered .badArg []))
              ∧ (s.inb[i].enabled = false → good → run = .next
                (State.answered
                  { s with
                    inb := s.inb.set i
                      { base := base, length := length, enabled := false, guard := decide (guard = 1) } }
                  .ok [])))
      ∧ (s.holds (.inEnable b) →
        let run := exec (.inEnable b (Request.crc (.inEnable b))) s
        (8 ≤ b.toNat → run = .next (s.answered .badArg []))
          ∧ ∀ i : WinId, b.toNat = i.val →
            (s.inb[i].enabled = true ∨ s.inb[i].length = 0 → run = .next (s.answered .badState []))
              ∧ (s.inb[i].enabled = false → s.inb[i].length ≠ 0 → ¬s.inboundClear i →
                run = .next (s.answered .badArg []))
              ∧ (s.inb[i].enabled = false → s.inb[i].length ≠ 0 → s.inboundClear i → run = .next
                (State.answered { s with inb := s.inb.set i { s.inb[i] with enabled := true } } .ok [])))
      ∧ (s.holds (.inDisable b) →
        let run := exec (.inDisable b (Request.crc (.inDisable b))) s
        (8 ≤ b.toNat → run = .next (s.answered .badArg []))
          ∧ ∀ i : WinId, b.toNat = i.val → run = .next
            (State.answered { s with inb := s.inb.set i { s.inb[i] with enabled := false } } .ok []))

/-! ### Link, fence, alert, counter and parameter commands -/

/-- LINK_ENABLE, and LINK_DISABLE without a session (R55, R56, R57).
The zeros of the cleared record are the model's reading (log 11), and that a GOODBYE that has not begun is not sent once the
link trains is its choice (log 31). -/
def Obligations.LinkEnableDisableResult : Prop :=
  ∀ s : State,
    (s.holds .linkEnable →
        (s.lc.state = .off → exec (.linkEnable (Request.crc .linkEnable)) s = .next
            (State.answered
              { s with
                lc := { s.lc with enabled := true, state := .training, training := some 10000, holdoff := none }
                lanes := { s.lanes with goodbye := none } }
              .ok []))
          ∧ (s.lc.state ≠ .off → exec (.linkEnable (Request.crc .linkEnable)) s = .next
            (State.answered { s with lc := { s.lc with enabled := true } } .ok [])))
      ∧ (s.holds .linkDisable →
        (s.lc.state = .off → exec (.linkDisable (Request.crc .linkDisable)) s = .next
            (State.answered { s with lc := { s.lc with enabled := false } } .ok []))
          ∧ (s.lc.state ≠ .off → s.lc.state ≠ .up →
            ∃ t, exec (.linkDisable (Request.crc .linkDisable)) s = .next t ∧ t.answers .ok []
              ∧ Only [.pins, .port, .lc, .lanes] s t
              ∧ t.lc =
                { s.lc with
                  enabled := false, state := .off, training := none, holdoff := none, helloInterval := none
                  liveness := none, keepalive := none, proposal := 0, attempts := 0, peerHello := none }
              ∧ t.lanes.frame = s.lanes.frame ∧ t.lanes.goodbye = s.lanes.goodbye
              ∧ (∀ o ∈ t.lanes.owed, o ∈ s.lanes.owed ∧ o ≠ .hello ∧ ∀ e, o ≠ .helloAck e)))

/-- FENCE: BUSY with four fences pending; else the tail closes, and the fence completes at once on an empty queue or joins
the list (R142, R147). -/
def Obligations.FenceCommandResult : Prop :=
  ∀ (tag : Byte) (s : State), s.holds (.fence tag) →
    let run := exec (.fence tag (Request.crc (.fence tag))) s
    (4 ≤ s.fu.fences.length → run = .next (s.answered .busy []))
      ∧ (s.fu.fences.length < 4 → s.rq.records = [] →
        ∀ d : Bool, (d = true ↔ s.outOfStep) →
          ∃ t, run = .next t ∧ t.answers .ok [1, 0, 0, if d then 1 else 0] ∧ Only [.pins, .port, .rq, .fu, .al] s t
            ∧ t.rq = { s.rq with mergeTimer := none }
            ∧ t.fu = { s.fu with log := (s.fu.log ++ [(⟨tag, none, true, d⟩ : LogEntry)]).drop (s.fu.log.length + 1 - 8) }
            ∧ t.al.detail.has .fenceDone = true)
      ∧ (∀ older r, s.fu.fences.length < 4 → s.rq.records = older ++ [r] →
        ∀ d : Bool, (d = true ↔ s.outOfStep) →
          run = .next
            (State.answered
              { s with
                rq :=
                  { s.rq with
                    records := older ++ [{ r with state := if r.state = .opened then .ready else r.state }]
                    mergeTimer := none }
                fu := { s.fu with fences := s.fu.fences ++ [⟨r.seq, .port tag, d⟩] } }
              .ok ([0] ++ bytes16 r.seq ++ [if d then 1 else 0])))

/-- FENCE_LOG returns the log and the pending count, COUNTERS_READ the fourteen counters, and each clears what it returned
when asked (R148, R192, R212).
That bits 3 to 7 of the flags byte of an entry place are 0 is the model's reading (log 35). -/
def Obligations.FenceLogAndCounters : Prop :=
    (∀ (b : Byte) (s : State), s.holds (.fenceLog b) →
      let run := exec (.fenceLog b (Request.crc (.fenceLog b))) s
      let place (e : LogEntry) : List Byte :=
        [e.tag, BitVec.ofNat 8 ((if e.ticket.isSome then 1 else 0) + (if e.done then 2 else 0) + if e.degraded then 4 else 0)]
          ++ bytes16 (e.ticket.getD 0)
      let reply := [BitVec.ofNat 8 s.fu.log.length, BitVec.ofNat 8 s.fu.fences.length] ++ s.fu.log.flatMap place
        ++ List.replicate ((8 - s.fu.log.length) * 4) 0
      (b = 0 → run = .next (s.answered .ok reply))
        ∧ (b = 1 → run = .next (State.answered { s with fu := { s.fu with log := [] } } .ok reply))
        ∧ (1 < b.toNat → run = .next (s.answered .badArg [])))
    ∧ (∀ (b : Byte) (s : State), s.holds (.countersRead b) →
      let run := exec (.countersRead b (Request.crc (.countersRead b))) s
      let reply := (List.finRange 14).flatMap (fun c => bytes16 s.counters[c])
      (b = 0 → run = .next (s.answered .ok reply))
        ∧ (b = 1 → run = .next (State.answered { s with counters := Vector.replicate 14 0 } .ok reply))
        ∧ (1 < b.toNat → run = .next (s.answered .badArg [])))

/-- ALERT_READ returns the summaries and the enables and then clears the summaries, which releases ALERT_N (R185).
ALERT_ENABLE writes the four enables and re-examines ALERT_N, or changes nothing (R186). CAUSE_READ returns a category's
detail flags and changes nothing, and CAUSE_CLEAR clears the flags its list names and nothing else (R187, R188, R212).
That bits 4 to 7 of the two bytes of ALERT_READ are 0 is the model's reading (log 33). -/
def Obligations.AlertCommandsResult : Prop :=
    (∀ s : State, s.holds .alertRead →
      exec (.alertRead (Request.crc .alertRead)) s = .next
        (State.answered { s with al := { s.al with summary := 0, asserted := false } }
          .ok [s.al.summary.setWidth 8, s.al.enables.setWidth 8]))
    ∧ (∀ (ew el ef ei : Byte) (s : State), s.holds (.alertEnable ew el ef ei) →
      let run := exec (.alertEnable ew el ef ei (Request.crc (.alertEnable ew el ef ei))) s
      (1 < ew.toNat ∨ 1 < el.toNat ∨ 1 < ef.toNat ∨ 1 < ei.toNat → run = .next (s.answered .badArg []))
        ∧ (ew.toNat ≤ 1 → el.toNat ≤ 1 → ef.toNat ≤ 1 → ei.toNat ≤ 1 →
          ∃ t, run = .next t ∧ t.answers .ok [] ∧ Only [.pins, .port, .al] s t ∧ t.al.detail = s.al.detail
            ∧ t.al.summary = s.al.summary ∧ AlertFollows t
            ∧ t.al.enables.getLsbD 0 = decide (ew = 1) ∧ t.al.enables.getLsbD 1 = decide (el = 1)
            ∧ t.al.enables.getLsbD 2 = decide (ef = 1) ∧ t.al.enables.getLsbD 3 = decide (ei = 1)))
    ∧ (∀ (c : Byte) (list : BitVec 32) (s : State),
      let d := s.al.detail
      let rows : List (Byte × Nat × BitVec 32 × Details) :=
        [(0, 24, d.window.setWidth 32, { d with window := d.window &&& ~~~list.setWidth 24 }),
          (1, 3, d.link.setWidth 32, { d with link := d.link &&& ~~~list.setWidth 3 }),
          (2, 2, d.fence.setWidth 32, { d with fence := d.fence &&& ~~~list.setWidth 2 }),
          (3, 6, d.integrity.setWidth 32, { d with integrity := d.integrity &&& ~~~list.setWidth 6 })]
      (s.holds (.causeRead c) →
          let run := exec (.causeRead c (Request.crc (.causeRead c))) s
          (3 < c.toNat → run = .next (s.answered .badArg []))
            ∧ ∀ n flags cleared, (c, n, flags, cleared) ∈ rows → run = .next (s.answered .ok (bytes32 flags)))
        ∧ (s.holds (.causeClear c list) →
          let run := exec (.causeClear c list (Request.crc (.causeClear c list))) s
          (3 < c.toNat → run = .next (s.answered .badArg []))
            ∧ ∀ n flags cleared, (c, n, flags, cleared) ∈ rows →
              (2 ^ n ≤ list.toNat → run = .next (s.answered .badArg []))
                ∧ (list.toNat < 2 ^ n → run = .next
                  (State.answered { s with al := { s.al with detail := cleared } } .ok []))))

/-- GET_PARAM returns the word of its code (R203, R213). SET_PARAM checks the code, the writing condition, the range and the
cross-check in that order; an accepted value is written and nothing else changes (R202, R204, R73). -/
def Obligations.ParamCommandsResult : Prop :=
    (∀ (c : Byte) (s : State), s.holds (.getParam c) →
      let run := exec (.getParam c (Request.crc (.getParam c))) s
      (c = 0 ∨ 10 < c.toNat → run = .next (s.answered .badArg []))
        ∧ ∀ v, (c, v) ∈
            ([(1, s.params.segmentSize), (2, s.params.mergeTime), (3, s.params.stallLimit), (4, s.params.confirmTimeout),
              (5, s.params.ackTimeout), (6, s.params.ackDelay), (7, s.params.ackBatch), (8, s.params.keepalive),
              (9, s.params.liveness), (10, s.params.retryLimit)] : List (Byte × BitVec 16)) →
          run = .next (s.answered .ok (bytes16 v)))
    ∧ (∀ (c : Byte) (v : BitVec 16) (s : State), s.holds (.setParam c v) →
      let run := exec (.setParam c v (Request.crc (.setParam c v))) s
      let n := v.toNat
      let allOff := ∀ w : WinId, s.out[w].state = .off
      let linkOff := s.lc.state = .off
      let p := s.params
      let rows : List (Byte × Prop × Prop × Params) :=
        [(1, allOff, n = 4 ∨ n = 8 ∨ n = 16 ∨ n = 32 ∨ n = 64, { p with segmentSize := v }),
          (2, True, n ≤ 32, { p with mergeTime := v }),
          (3, True, 1 ≤ n ∧ n ≤ 1000, { p with stallLimit := v }),
          (4, True, 10 ≤ n ∧ n ≤ 5000, { p with confirmTimeout := v }),
          (5, linkOff, 10 ≤ n ∧ n ≤ 1000, { p with ackTimeout := v }),
          (6, linkOff, n ≤ 16, { p with ackDelay := v }),
          (7, linkOff, 1 ≤ n ∧ n ≤ 16, { p with ackBatch := v }),
          (8, linkOff, 10 ≤ n ∧ n ≤ 500 ∧ 2 * n ≤ p.liveness.toNat, { p with keepalive := v }),
          (9, linkOff, 100 ≤ n ∧ n ≤ 10000 ∧ 2 * p.keepalive.toNat ≤ n, { p with liveness := v }),
          (10, linkOff, 1 ≤ n ∧ n ≤ 15, { p with retryLimit := v })]
      (c = 0 ∨ 10 < c.toNat → run = .next (s.answered .badArg []))
        ∧ ∀ writable good q, (c, writable, good, q) ∈ rows →
          (¬writable → run = .next (s.answered .badState []))
            ∧ (writable → ¬good → run = .next (s.answered .badArg []))
            ∧ (writable → good → run = .next (State.answered { s with params := q } .ok [])))

/-- RESET_MIRROR: windows OFF with their configuration kept, queues and map empty, every fence FAILED with the flag it
holds, the engine IDLE, a captured write released; the inbound table and the words are kept, and so, while no upstream offer
stands to be accepted in the same event, are the counters and every cause but FENCE_FAILED and, in UP, LINK_DOWN; in UP the
session ends with a GOODBYE. A granted apply write or copy read goes on with its result to be ignored, a requested one is
withdrawn, and in HELLO the emptied apply queue makes a withheld HELLO owed (R207, R3, R40, R49, R59, R71, R118, R120, R135,
R136, R138, R146, R160, R169, R189).
The zeros of the cleared record, the order of the blocks, the record of completions, the owed HELLO and the marks of ignored
results are the model's (log 11, log 19, log 13, log 10, log 16). That last-served becomes 7 also where nothing is left to
reset is the model's choice between R138 and R208 (log 36). -/
def Obligations.ResetMirrorResult : Prop :=
  ∀ s : State, s.holds .resetMirror → EngineFits s →
    let others := s.lanes.owed.filter (fun o => match o with | .ack .. => false | _ => true)
    ∃ t, exec (.resetMirror (Request.crc .resetMirror)) s = .next t ∧ t.answers .ok []
      ∧ Only [.drawn, .pins, .port, .out, .rq, .cu, .mp, .da, .lc, .lanes, .ts, .au, .dm, .re, .fu, .al, .counters] s t
      ∧ (∀ w : WinId, t.out[w] =
          { s.out[w] with state := .off, haltCause := none, cursor := 0, dirtyCount := 0 })
      ∧ t.dm = 0 ∧ t.rq = { s.rq with records := [], mergeTimer := none }
      ∧ t.re.state = .idle ∧ t.re.current = none ∧ t.re.lastServed = 7
      ∧ (s.re.current.isSome = true → ReadAbandoned s t)
      ∧ (s.re.current = none → t.re = { s.re with state := .idle, lastServed := 7 })
      ∧ FencesFailed s.fu.fences s t
      ∧ t.au.queue = [] ∧ t.au.state = .idle ∧ t.au.drained = true ∧ t.au.promotion = false
      ∧ t.au.unreported = 0 ∧ t.au.ackDelay = none ∧ t.au.advertised = s.au.advertised ∧ t.au.epoch = s.au.epoch
      ∧ t.au.appliedThrough = s.au.appliedThrough ∧ t.da.ap = none ∧ t.da.copyFloor = 0
      ∧ (s.au.state = .writing → s.da.ap = none → t.au.writeIgnored = true)
      ∧ (s.au.state ≠ .writing ∨ (s.da.ap ≠ none ∧ s.da.port ≠ none) → t.au.writeIgnored = s.au.writeIgnored)
      ∧ t.al.enables = s.al.enables ∧ t.lanes.frame = s.lanes.frame
      ∧ (s.lc.state = .hello → s.au.queue ≠ [] → .hello ∉ s.lanes.owed → t.lanes.owed = .hello :: others)
      ∧ (s.lc.state ≠ .up → s.lc.state ≠ .hello ∨ s.au.queue = [] ∨ .hello ∈ s.lanes.owed → t.lanes.owed = others)
      ∧ (s.lc.state ≠ .up → t.lc = s.lc ∧ t.ts = s.ts ∧ t.lanes.goodbye = s.lanes.goodbye
        ∧ t.au.lastEpoch = s.au.lastEpoch ∧ t.au.lastApplied = s.au.lastApplied)
      ∧ (s.lc.state = .up → LinkEnded .resetMirror none .down s t ∧ t.ts = { s.ts with rounds := 0, ackTimer := none }
        ∧ t.au.lastEpoch = s.au.epoch ∧ t.au.lastApplied = s.au.appliedThrough)
      ∧ (s.mp.offer = none →
        t.drawn = s.drawn ∧ t.counters = s.counters
          ∧ (∀ c : Cause, t.al.detail.has c = true ↔
            s.al.detail.has c = true ∨ (c = .linkDown ∧ s.lc.state = .up)
              ∨ (c = .fenceFailed ∧ ∃ f ∈ s.fu.fences, f.source ≠ .line))
          ∧ (∀ c, s.cu = some c → c.phase = .confirmWait →
            t.cu = none ∧ t.mp = { s.mp with txn := none, completions := s.mp.completions ++ [⟨.err, none⟩] })
          ∧ (∀ c, s.cu = some c → c.phase = .localWrite → t.cu = some { c with sessionEnded := true })
          ∧ (∀ c, s.cu = some c → c.phase = .slotWait → t.cu = none)
          ∧ (s.cu = none → t.cu = none)
          ∧ ((∀ c, s.cu = some c → c.phase ≠ .confirmWait) →
            (s.mp.txn = none → t.mp = s.mp)
              ∧ (∀ u, s.mp.txn = some u → (∀ w line, u.cls ≠ .capture w line) → t.mp = s.mp)
              ∧ ∀ u w line, s.mp.txn = some u → u.cls = .capture w line →
                t.mp = { s.mp with txn := some { u with released := true } }))

/-! ### Pin reset and the fence lines -/

/-- RESET_N: its assertion puts every block in its pin-reset state and keeps the standing offer; its release samples
NODE_ID, leaves the port in IDLE or IGNORING by the level of MCS_N, and accepts a standing offer as a pass-through
(R167, R168).
The MSDO field and the record of completions, what a second assertion or release does, the node id during the reset, and
the bytes of a malformed READ are the model's choices (log 13, log 1, log 22, log 23). -/
def Obligations.PinResetResult : Prop :=
  ∀ s : State,
    let cleared (asserted : Bool) (nodeId : BitVec 4) : State :=
      { State.reset with
        pending := s.pending, drawn := s.drawn
        pins := { s.pins with resetAsserted := asserted, msdo := none }
        lc := { State.reset.lc with nodeId := nodeId }
        mp := { State.reset.mp with offer := s.mp.offer } }
    (s.pins.resetAsserted = false → exec .resetNAssert s = .next (cleared true s.lc.nodeId))
      ∧ (s.pins.resetAsserted = true → exec .resetNAssert s = .next s)
      ∧ ∀ nodeId : BitVec 4,
        (s.pins.resetAsserted = false → exec (.resetNRelease nodeId) s = .next s)
          ∧ (s.pins.resetAsserted = true → s.mp.offer = none →
            exec (.resetNRelease nodeId) s = .next
              (if s.pins.mcsHigh then cleared false nodeId
              else
                { cleared false nodeId with
                  port := .ignoring, pins := { s.pins with resetAsserted := false, msdo := some 0xFF } }))
          ∧ (∀ x, s.pins.resetAsserted = true → s.mp.offer = some x → wellFormedTxn x = true →
            ∃ t, exec (.resetNRelease nodeId) s = .next t ∧ t.lc = (cleared false nodeId).lc
              ∧ t.mp = { txn := some ⟨x, .passThrough, false⟩, offer := none, completions := [] }
              ∧ t.da.port = some ⟨.fg, x⟩)
          ∧ ∀ x, s.pins.resetAsserted = true → s.mp.offer = some x → wellFormedTxn x = false →
            ∃ t bytes, exec (.resetNRelease nodeId) s = .next t
              ∧ t.mp = { txn := none, offer := none, completions := [⟨.err, bytes⟩] }
              ∧ (bytes.isSome = true ↔ x.access = .read)

/-- FENCE_REQ rising: in IDLE a LINE fence is issued, is answered at once on an empty queue, or waits for a place; in the
other handshake states, and while RESET_N is asserted, only the pin changes (R142, R150, R151). FENCE_REQ falling: an
unanswered request is withdrawn, an answer is released, and the rest is unchanged (R151, R152).
An edge to the level the pin has is the model's choice (log 1). -/
def Obligations.FenceLineResult : Prop :=
    (∀ s : State,
      (s.pins.fenceReq = true → exec .fenceReqRise s = .next s)
        ∧ (s.pins.fenceReq = false →
          let raised : State := { s with pins := { s.pins with fenceReq := true } }
          (s.pins.resetAsserted = true ∨ s.fu.handshake ≠ .idle → exec .fenceReqRise s = .next raised)
            ∧ (s.pins.resetAsserted = false → s.fu.handshake = .idle →
              (4 ≤ s.fu.fences.length →
                  exec .fenceReqRise s = .next { raised with fu := { s.fu with handshake := .waiting } })
                ∧ (s.fu.fences.length < 4 → s.rq.records = [] →
                  ∀ d : Bool, (d = true ↔ s.outOfStep) →
                    exec .fenceReqRise s = .next
                      { raised with
                        rq := { s.rq with mergeTimer := none }
                        fu := { s.fu with handshake := .answered, ack := true, clean := !d } })
                ∧ ∀ older r, s.fu.fences.length < 4 → s.rq.records = older ++ [r] →
                  ∀ d : Bool, (d = true ↔ s.outOfStep) →
                    exec .fenceReqRise s = .next
                      { raised with
                        rq :=
                          { s.rq with
                            records := older ++ [{ r with state := if r.state = .opened then .ready else r.state }]
                            mergeTimer := none }
                        fu := { s.fu with fences := s.fu.fences ++ [⟨r.seq, .line, d⟩], handshake := .pending } })))
    ∧ (∀ s : State,
      (s.pins.fenceReq = false → exec .fenceReqFall s = .next s)
        ∧ (s.pins.fenceReq = true →
          let fallen : State := { s with pins := { s.pins with fenceReq := false } }
          (s.pins.resetAsserted = true ∨ s.fu.handshake = .idle → exec .fenceReqFall s = .next fallen)
            ∧ (s.pins.resetAsserted = false →
              (s.fu.handshake = .waiting →
                  exec .fenceReqFall s = .next { fallen with fu := { s.fu with handshake := .idle } })
                ∧ (s.fu.handshake = .pending →
                  exec .fenceReqFall s = .next
                    { fallen with
                      fu :=
                        { s.fu with
                          fences := s.fu.fences.filter (fun f => decide (f.source ≠ .line)), handshake := .idle } })
                ∧ (s.fu.handshake = .answered →
                  exec .fenceReqFall s = .next
                    { fallen with fu := { s.fu with handshake := .idle, ack := false, clean := false } }))))

/-! ### The memory path and the capture unit -/

/-- An offer on a free upstream port: one that is not well-formed, and a write into a guarded inbound window, complete with
ERR at once and touch nothing downstream; anything that is no write into an enabled window goes downstream unchanged
(R154, R156, R157, R161, R163). An offer made while the port holds a transaction, or while RESET_N is asserted, stays
offered, and none is made beside one that stands (R154, R167).
The record of completions, which the making of an offer empties, the bytes of a malformed READ, and a second offer are the
model's choices (log 13, log 23, log 1). -/
def Obligations.UpstreamOfferUncaptured : Prop :=
    (∀ (x : Txn) (s : State),
      s.mp.txn = none → s.mp.offer = none → s.cu = none → s.pins.resetAsserted = false →
        let wellFormed := 1 ≤ x.length ∧ x.length ≤ 64 ∧ x.addr.toNat % 64 + x.length ≤ 64
        let line := x.addr.toNat / 64 * 64
        let guarded := ∃ i : WinId, s.inb[i].enabled = true ∧ s.inb[i].guard = true ∧ s.inb[i].base.toNat ≤ line
          ∧ line + 64 ≤ s.inb[i].base.toNat + s.inb[i].length.toNat
        let mirrored := ∃ w : WinId, s.out[w].state ≠ .off ∧ s.out[w].base.toNat ≤ line
          ∧ line + 64 ≤ s.out[w].base.toNat + s.out[w].length * s.segBytes
        let failed : State := { s with mp := { txn := none, offer := none, completions := [⟨.err, none⟩] } }
        (∀ mask data, ¬wellFormed → x.access = .write mask data → exec (.upstreamOffer x) s = .next failed)
          ∧ (¬wellFormed → x.access = .read →
            ∃ bytes : LineData, exec (.upstreamOffer x) s = .next
              { s with
                drawn := s.drawn + 1
                mp := { txn := none, offer := none, completions := [⟨.err, some bytes⟩] } })
          ∧ (∀ mask data, wellFormed → x.access = .write mask data → guarded →
            exec (.upstreamOffer x) s = .next (bump .guardRefusals (raise .guardRefusal failed)))
          ∧ (wellFormed →
            x.access = .read ∨ (∃ mask data, x.access = .write mask data ∧ ¬guarded
              ∧ (¬mirrored ∨ effectiveMask x mask = 0)) →
              ∃ t, exec (.upstreamOffer x) s = .next t ∧ Only [.mp, .da, .re] s t
                ∧ t.mp = { txn := some ⟨x, .passThrough, false⟩, offer := none, completions := [] }
                ∧ (s.da.port.isSome = true → t.da = { s.da with fg := some x } ∧ t.re = s.re)
                ∧ (s.da.port = none → s.da.ap = none → s.da.cp = none → t.da.port = some ⟨.fg, x⟩ ∧ t.da.fg = none)))
    ∧ (∀ (x : Txn) (s : State),
      (s.mp.offer.isSome = true → exec (.upstreamOffer x) s = .next s)
        ∧ (s.mp.offer = none → s.mp.txn.isSome = true ∨ s.pins.resetAsserted = true →
          exec (.upstreamOffer x) s = .next { s with mp := { s.mp with offer := some x, completions := [] } }))

/-- A write into one enabled outbound window is captured, and the slot check decides how it goes on: unless it waits for a
slot, it is presented downstream at once, and takes a free port that nobody else asks for (R42, R43, R44, R157, R172).
The record of completions, which the making of an offer empties, is the model's (log 13). -/
def Obligations.UpstreamOfferCaptured : Prop :=
  ∀ (x : Txn) (mask : Mask) (data : LineData) (w : WinId) (s : State),
    s.mp.txn = none → s.mp.offer = none → s.cu = none → s.pins.resetAsserted = false →
    wellFormedTxn x = true → x.access = .write mask data → effectiveMask x mask ≠ 0 →
    (∀ i : WinId, ¬(s.inb[i].enabled = true ∧ s.inb[i].guard = true
        ∧ lineInExtent (lineAddr x) s.inb[i].base.toNat s.inb[i].length.toNat = true)) →
    (∀ v : WinId, s.out[v].state ≠ .off
        ∧ lineInExtent (lineAddr x) s.out[v].base.toNat (s.out[v].length * s.segBytes) = true ↔ v = w) →
      let line : LineIndex := BitVec.ofNat 22 ((x.addr.toNat - s.out[w].base.toNat) / 64)
      let held := s.rq.records.length + if s.re.reservation then 1 else 0
      let mergeable := ∃ r, s.rq.records.getLast? = some r ∧ r.state = .opened ∧ r.kind = .write ∧ r.window = w
        ∧ r.line = line
      let fresh : Capture :=
        { window := w, line := line, phase := .localWrite, path := none, reservation := false, sessionEnded := false
          stallTimer := none, confirmTimer := none }
      let onward (t : State) (c : Capture) :=
        t.cu = some c ∧ ForegroundAsked x s t
          ∧ (s.da.port.isSome = true → t.da = { s.da with fg := some x } ∧ t.re = s.re)
          ∧ (s.da.port = none → s.da.ap = none → s.da.cp = none →
            t.da = { s.da with port := some ⟨.fg, x⟩, fg := none, copyFloor := 0 } ∧ t.re = s.re)
      ∃ t, exec (.upstreamOffer x) s = .next t ∧ Only [.mp, .cu, .da, .re] s t
        ∧ t.mp = { txn := some ⟨x, .capture w line, false⟩, offer := none, completions := [] }
        ∧ (s.out[w].state = .degraded ∨ s.out[w].state = .halted →
          onward t { fresh with path := some .noRecord })
        ∧ (s.out[w].state = .active ∨ s.out[w].state = .resync →
          (held < 64 → onward t { fresh with path := some .record, reservation := true })
            ∧ (64 ≤ held → mergeable → onward t { fresh with path := some .mergeOnly })
            ∧ (64 ≤ held → ¬mergeable →
              t.cu = some { fresh with phase := .slotWait, stallTimer := some s.params.stallLimit.toNat }
                ∧ t.da = s.da ∧ t.re = s.re))

/-- Local memory completes a pass-through: the same completion goes upstream, and the port is free and granted again, in
the order `GrantOrder` states, whatever requests wait (R163, R173). An offer that stands is then accepted (R154): a
well-formed read becomes the pass-through in progress and asks for the port.
That the acceptance follows the grant in the same event is the model's (log 14), as are the record of completions (log 13),
the bytes of an ERR (log 23) and the places of the bytes in a completion (log 37). -/
def Obligations.PassThroughCompleteResult : Prop :=
  ∀ (r : Result) (bytes : LineData) (x : Txn) (u : UpTxn) (s : State),
    s.da.port = some ⟨.fg, x⟩ → s.cu = none → s.mp.txn = some u →
      let completions : List Completion :=
        s.mp.completions ++ [⟨r, match u.txn.access with | .read => some bytes | .write _ _ => none⟩]
      let freed :=
        grant { s with
          mp := { s.mp with txn := none, completions := completions }, da := { s.da with port := none } }
      ∃ t, exec (.passThroughComplete r bytes) s = .next t ∧ OfferTaken freed t
        ∧ (s.mp.offer = none → Only [.mp, .da, .re] s t
          ∧ t.mp = { txn := none, offer := none, completions := completions } ∧ t.da = freed.da ∧ t.re = freed.re
          ∧ (s.da.fg = none → s.da.ap = none → s.da.cp = none → t.da = { s.da with port := none } ∧ t.re = s.re))
        ∧ ∀ y, s.mp.offer = some y → s.pins.resetAsserted = false → wellFormedTxn y = true → y.access = .read →
          Only [.mp, .da, .re] s t
            ∧ t.mp = { txn := some ⟨y, .passThrough, false⟩, offer := none, completions := completions }
            ∧ (freed.da.port.isSome = true → t.da = { freed.da with fg := some y } ∧ t.re = freed.re)
            ∧ (freed.da.port = none → t.da.port = some ⟨.fg, y⟩ ∨ t.da.fg = some y)

/-- A free port goes to AP under promotion, else to CP at a copy_floor of 32, else to FG, AP, CP in that order; the grant
takes the request and moves copy_floor (R172, R174). -/
def Obligations.GrantOrder : Prop :=
  ∀ s : State, s.da.port = none →
    let others := if s.da.cp.isSome then min 32 (s.da.copyFloor + 1) else 0
    (∀ x, s.da.ap = some x → s.au.promotion = true →
        grant s = { s with da := { s.da with port := some ⟨.ap, x⟩, ap := none, copyFloor := others } })
      ∧ (s.au.promotion = false ∨ s.da.ap = none →
        (∀ x, s.da.cp = some x → s.da.copyFloor = 32 →
            grant s = { s with
              da := { s.da with port := some ⟨.cp, x⟩, cp := none, copyFloor := 0 }, re := { s.re with read := .granted } })
          ∧ (s.da.copyFloor ≠ 32 ∨ s.da.cp = none →
            (∀ x, s.da.fg = some x →
                grant s = { s with da := { s.da with port := some ⟨.fg, x⟩, fg := none, copyFloor := others } })
              ∧ (∀ x, s.da.fg = none → s.da.ap = some x →
                grant s = { s with da := { s.da with port := some ⟨.ap, x⟩, ap := none, copyFloor := others } })
              ∧ (∀ x, s.da.fg = none → s.da.ap = none → s.da.cp = some x →
                grant s = { s with
                  da := { s.da with port := some ⟨.cp, x⟩, cp := none, copyFloor := 0 }
                  re := { s.re with read := .granted } })
              ∧ (s.da.fg = none → s.da.ap = none → s.da.cp = none → grant s = s)))

/-- A captured write that completed locally with OK in a mirrored window, and cannot merge, is appended as a WRITE record:
a POSTED write then completes, a CONFIRMED one waits with its record READY (R33, R34, R44, R45). The port is granted again
after that, and an offer that stands is accepted at a completion (R154, R173); `d` is the state before both.
That the acceptance follows the grant (log 14) and the record of completions (log 13) are the model's; the bytes not written
are free (log 5). -/
def Obligations.CapturedWriteAppended : Prop :=
  ∀ (c : Capture) (u : UpTxn) (x : Txn) (mask : Mask) (data : LineData) (s : State),
    s.cu = some c → s.da.port = some ⟨.fg, x⟩ → c.phase = .localWrite → c.sessionEnded = false →
    c.path ≠ some .noRecord → s.mp.txn = some u → u.released = false → u.txn.access = .write mask data →
    s.out[c.window].state = .active ∨ s.out[c.window].state = .resync →
    (c.reservation = true ∨ s.rq.records.length + (if s.re.reservation then 1 else 0) < 64) →
    (∀ r, s.rq.records.getLast? = some r →
        ¬(r.state = .opened ∧ r.kind = .write ∧ r.window = c.window ∧ r.line = c.line)) →
      let confirmed := s.out[c.window].policy = .confirmed
      let open' := ¬confirmed ∧ effectiveMask u.txn mask ≠ fullMask ∧ s.params.mergeTime ≠ 0
      ∃ d t rec, exec (.localWriteComplete .ok) s = .next t ∧ LocalWriteEnds s d t
        ∧ Only [.drawn, .rq, .cu, .mp, .da, .re, .out] s d
        ∧ d.rq.records = closedTail s.rq.records ++ [rec] ∧ d.rq.nextSeq = s.rq.nextSeq + 1
        ∧ d.rq.sendPtr = s.rq.sendPtr
        ∧ rec.seq = s.rq.nextSeq ∧ rec.kind = .write ∧ rec.window = c.window ∧ rec.line = c.line
        ∧ rec.mask = effectiveMask u.txn mask ∧ rec.segmentEnd = false ∧ (rec.waiter = true ↔ confirmed)
        ∧ (open' → rec.state = .opened ∧ d.rq.mergeTimer = some s.params.mergeTime.toNat)
        ∧ (¬open' → rec.state = .ready ∧ d.rq.mergeTimer = none)
        ∧ (∀ k : Fin 64, rec.mask.getLsbD k = true → rec.data[k] = data[k])
        ∧ (confirmed → d.mp = s.mp ∧ d.cu = some
          { c with phase := .confirmWait, reservation := false, confirmTimer := some s.params.confirmTimeout.toNat })
        ∧ (¬confirmed →
          d.cu = none ∧ d.mp = { s.mp with txn := none, completions := s.mp.completions ++ [⟨.ok, none⟩] })

/-- A captured write for the line of the OPEN tail merges into it: no number is taken, the written bytes and flags join the
record, and a full mask, or a MERGE_TIME of 0, closes it (R35, R36, R44, R205). The port is granted again after that, and an
offer that stands is accepted (R154, R173); `d` is the state before both.
That the acceptance follows the grant (log 14) and the record of completions (log 13) are the model's. -/
def Obligations.CapturedWriteMerged : Prop :=
  ∀ (c : Capture) (u : UpTxn) (x : Txn) (mask : Mask) (data : LineData) (older : List Record) (r : Record) (s : State),
    s.cu = some c → s.da.port = some ⟨.fg, x⟩ → c.phase = .localWrite → c.sessionEnded = false →
    c.path ≠ some .noRecord → s.mp.txn = some u → u.released = false → u.txn.access = .write mask data →
    s.out[c.window].state = .active ∨ s.out[c.window].state = .resync →
    s.rq.records = older ++ [r] → r.state = .opened → r.kind = .write → r.window = c.window → r.line = c.line →
      let m := effectiveMask u.txn mask
      let closes := r.mask ||| m = fullMask ∨ s.params.mergeTime = 0
      ∃ d t merged, exec (.localWriteComplete .ok) s = .next t ∧ LocalWriteEnds s d t
        ∧ Only [.rq, .cu, .mp, .da, .re, .out] s d
        ∧ d.rq.records = older ++ [merged] ∧ d.rq.nextSeq = s.rq.nextSeq ∧ d.rq.sendPtr = s.rq.sendPtr
        ∧ (closes → d.rq.mergeTimer = none ∧ merged.state = .ready)
        ∧ (¬closes → d.rq.mergeTimer = some s.params.mergeTime.toNat ∧ merged.state = .opened)
        ∧ merged.mask = r.mask ||| m ∧ merged.seq = r.seq ∧ merged.kind = r.kind ∧ merged.window = r.window
        ∧ merged.line = r.line ∧ merged.waiter = r.waiter ∧ merged.segmentEnd = r.segmentEnd
        ∧ (∀ k : Fin 64, merged.data[k] = if m.getLsbD k then data[k] else r.data[k])
        ∧ d.cu = none ∧ d.mp = { s.mp with txn := none, completions := s.mp.completions ++ [⟨.ok, none⟩] }

/-- A captured write that is not recorded: in DEGRADED and HALTED, without a slot, or after a session end, its segment is
marked, an ACTIVE window takes the capture-failure transition, and it completes with the local result; a merge-only write
that finds the tail closed and no slot free does the same and counts in STALL_EXPIRIES; on a local ERR in an enabled window
it is marked, LOCAL_MEMORY_ERROR is raised and LOCAL_ERRORS counted; for an OFF window, or a released capture, the local
result passes through. No other mark and no other window changes (R24, R44, R48, R122, R160). The port is granted again
after that, and an offer that stands is accepted (R154, R173); `d` is the state before both.
That a released capture leaves no mark even if its window is enabled again is the model's reading of R160 beside R49
(log 29); the record of completions (log 13) and the acceptance's place after the grant (log 14) are the model's. -/
def Obligations.CapturedWriteUnrecorded : Prop :=
  ∀ (c : Capture) (u : UpTxn) (x : Txn) (r : Result) (s : State),
    s.cu = some c → s.da.port = some ⟨.fg, x⟩ → c.phase = .localWrite → s.mp.txn = some u →
      let mark := s.out[c.window].mapOffset + c.line.toNat * 64 / s.segBytes
      let lost := c.path = some .mergeOnly ∧ c.reservation = false
        ∧ 64 ≤ s.rq.records.length + (if s.re.reservation then 1 else 0)
        ∧ ∀ q, s.rq.records.getLast? = some q →
          ¬(q.state = .opened ∧ q.kind = .write ∧ q.window = c.window ∧ q.line = c.line)
      (u.released = true ∨ s.out[c.window].state = .off →
          ∃ d t, exec (.localWriteComplete r) s = .next t ∧ LocalWriteEnds s d t
            ∧ Only [.cu, .mp, .da, .re, .out] s d ∧ d.cu = none
            ∧ (∀ v : WinId, d.out[v].state = s.out[v].state)
            ∧ d.mp = { s.mp with txn := none, completions := s.mp.completions ++ [⟨r, none⟩] })
        ∧ (u.released = false → s.out[c.window].state ≠ .off →
          r = .err ∨ s.out[c.window].state = .degraded ∨ s.out[c.window].state = .halted ∨ c.path = some .noRecord
            ∨ c.sessionEnded = true ∨ lost →
            ∃ d t, exec (.localWriteComplete r) s = .next t ∧ LocalWriteEnds s d t
              ∧ Only [.cu, .mp, .da, .dm, .re, .fu, .al, .out, .counters] s d ∧ d.cu = none
              ∧ d.mp = { s.mp with txn := none, completions := s.mp.completions ++ [⟨r, none⟩] }
              ∧ (mark < 4096 → d.dm.getLsbD mark = true)
              ∧ (∀ p, p ≠ mark → d.dm.getLsbD p = s.dm.getLsbD p)
              ∧ (∀ v : WinId, v ≠ c.window → d.out[v].state = s.out[v].state)
              ∧ (s.out[c.window].state ≠ .active → d.out[c.window].state = s.out[c.window].state)
              ∧ (s.out[c.window].state = .active → mark < 4096 → s.dm.getLsbD mark = false →
                d.out[c.window].state = if s.out[c.window].autoResync then .resync else .degraded)
              ∧ (r = .err → d.al.detail.has .localMemoryError = true
                ∧ d.counter .localErrors = saturate (s.counter .localErrors))
              ∧ (r = .ok → s.out[c.window].state = .degraded ∨ s.out[c.window].state = .halted
                  ∨ c.path = some .noRecord ∨ c.sessionEnded = true → d.counters = s.counters)
              ∧ (r = .ok → s.out[c.window].state = .active ∨ s.out[c.window].state = .resync → c.sessionEnded = false →
                lost → d.counters = (bump .stallExpiries s).counters))

/-- The three timers of the capture unit: a stall ends the slot wait without a record and is counted, a confirm timeout
completes the write with ERR, marks its segment and takes an ACTIVE window to RESYNC with auto_resync or to DEGRADED without,
and a merge timeout closes the OPEN tail (R24, R36, R46, R47, R50, R122). An offer that stands when the confirm timeout
completes the write is accepted (R154); `d` is the state before that.
The acceptance in the same event (log 14) and the record of completions (log 13) are the model's. -/
def Obligations.CaptureTimersResult : Prop :=
  ∀ s : State,
    let mark (c : Capture) := s.out[c.window].mapOffset + c.line.toNat * 64 / s.segBytes
    (∀ c n u, s.cu = some c → c.phase = .slotWait → c.stallTimer = some n → s.mp.txn = some u →
        ∃ t, exec .stallTimerExpiry s = .next t ∧ Only [.cu, .da, .re, .out, .counters] s t
          ∧ t.cu = some { c with phase := .localWrite, path := some .noRecord, stallTimer := none }
          ∧ t.counter .stallExpiries = saturate (s.counter .stallExpiries) ∧ ForegroundAsked u.txn s t)
      ∧ (∀ c n, s.cu = some c → c.phase = .confirmWait → c.confirmTimer = some n →
        ∃ d t, exec .confirmTimerExpiry s = .next t ∧ OfferTaken d t
          ∧ Only [.cu, .mp, .rq, .da, .dm, .re, .fu, .al, .out] s d
          ∧ d.cu = none ∧ d.mp = { s.mp with txn := none, completions := s.mp.completions ++ [⟨.err, none⟩] }
          ∧ (s.da.port.isSome = true → d.da = { s.da with cp := d.da.cp } ∧ EngineServed s.re.read s d)
          ∧ d.rq.records = s.rq.records.map (fun r => { r with waiter := false })
          ∧ (s.mp.txn.any (·.released) = true ∨ s.out[c.window].state = .off →
            d.dm = s.dm ∧ d.al = s.al ∧ ∀ v : WinId, d.out[v].state = s.out[v].state)
          ∧ (s.mp.txn.any (·.released) = false → s.out[c.window].state ≠ .off →
            (mark c < 4096 → d.dm.getLsbD (mark c) = true)
              ∧ (∀ p, p ≠ mark c → d.dm.getLsbD p = s.dm.getLsbD p)
              ∧ (∀ v : WinId, v ≠ c.window ∨ s.out[v].state ≠ .active → d.out[v].state = s.out[v].state)
              ∧ (s.out[c.window].state = .active → mark c < 4096 → s.dm.getLsbD (mark c) = false →
                d.out[c.window].state = if s.out[c.window].autoResync then .resync else .degraded)
              ∧ (s.out[c.window].state = .active → s.out[c.window].autoResync = false →
                d.out[c.window].state = .degraded ∧ d.al.detail.has (.degradedEntered c.window) = true)))
      ∧ (∀ older r n, s.rq.mergeTimer = some n → s.rq.records = older ++ [r] → r.state = .opened →
        exec .mergeTimerExpiry s = .next
          { s with rq := { s.rq with records := older ++ [{ r with state := .ready }], mergeTimer := none } })

/-! ### The link controller -/

/-- ALIGNED, the training and holdoff timers, and LOST outside UP, in every link state (R52, R57, R58, R59).
Rows that the state rules out, owed HELLO frames, the record kept into DOWN, and a GOODBYE that has not begun when the link
trains are the model's choices (log 1, log 10, log 11, log 31). -/
def Obligations.TrainingResult : Prop :=
  ∀ s : State,
    let proposal : Epoch := if s.lc.lastEpoch = 255 then 1 else s.lc.lastEpoch + 1
    let hello : LinkController :=
      { s.lc with state := .hello, training := none, proposal := proposal, attempts := 0, peerHello := none }
    let down : LinkController :=
      { s.lc with state := .down, training := none, helloInterval := none, holdoff := some 2000 }
    let dropped := s.lanes.owed.filter (fun o => match o with | .ack .. => true | .nak .. => true | _ => false)
    (s.lc.state = .training → s.au.queue = [] → .hello ∉ s.lanes.owed →
        exec .aligned s = .next { s with lc := hello, lanes := { s.lanes with owed := s.lanes.owed ++ [.hello] } })
      ∧ (s.lc.state = .training → s.au.queue ≠ [] → exec .aligned s = .next { s with lc := hello })
      ∧ (s.lc.state ≠ .training → exec .aligned s = .next s ∧ exec .trainingTimerExpiry s = .next s)
      ∧ (∀ n, s.lc.state = .training → s.lc.training = some n →
        exec .trainingTimerExpiry s = .next { s with lc := down, lanes := { s.lanes with owed := dropped } })
      ∧ (∀ n, s.lc.state = .down → s.lc.holdoff = some n →
        exec .holdoffTimerExpiry s
          = .next
            { s with
              lc := { s.lc with state := .training, training := some 10000, holdoff := none }
              lanes := { s.lanes with goodbye := none } })
      ∧ (s.lc.state ≠ .down → exec .holdoffTimerExpiry s = .next s)
      ∧ (s.lc.state = .hello →
        exec .lost s = .next { s with lc := down, lanes := { s.lanes with owed := dropped } })
      ∧ (s.lc.state ≠ .hello → s.lc.state ≠ .up → exec .lost s = .next s)

/-- An arriving HELLO: in HELLO it is recorded and answered with the larger proposal, or is the bridge's own node id and
leads to FAULT; in UP it is answered with the session epoch when it is the partner's; elsewhere it is discarded (R54, R60,
R62, R64). A HELLO_ACK that does not bring the link UP: the own node id leads to FAULT, one without a recorded peer HELLO
is discarded, a mismatch restarts the exchange with a new HELLO or ends it in DOWN after 16, and outside HELLO it is
discarded (R54, R61, R62). The HELLO interval timer's expiry sends another HELLO in the same way (R59).
Owed HELLO frames, the cleared record and the contents of an owed HELLO_ACK are the model's readings (log 10, log 11,
log 21). -/
def Obligations.HelloFramesResult : Prop :=
    (∀ (proposal nodeId : Byte) (limit : Seq) (s : State),
      let run := exec (.helloReceived proposal nodeId limit) s
      (s.lc.state = .hello → nodeId.toNat ≠ s.lc.nodeId.toNat →
          let agreed := if s.lc.proposal.toNat < proposal.toNat then proposal else s.lc.proposal
          run = .next
            { s with
              lc := { s.lc with peerHello := some ⟨proposal, nodeId, limit⟩ }
              lanes := { s.lanes with owed := s.lanes.owed ++ [.helloAck agreed] } })
        ∧ (s.lc.state = .hello → nodeId.toNat = s.lc.nodeId.toNat →
          ∃ t, run = .next t ∧ Only [.lc, .lanes, .al] s t
            ∧ t.lc =
              { s.lc with
                state := .fault, training := none, holdoff := none, helloInterval := none, liveness := none
                keepalive := none, proposal := 0, attempts := 0, peerHello := none }
            ∧ t.al.detail.has .linkFault = true ∧ t.lanes.frame = s.lanes.frame
            ∧ ∀ o ∈ t.lanes.owed, o ≠ .hello ∧ ∀ e, o ≠ .helloAck e)
        ∧ (s.lc.state = .up →
          ((∃ p, s.lc.peerHello = some p ∧ p.nodeId = nodeId) →
              run = .next { s with lanes := { s.lanes with owed := s.lanes.owed ++ [.helloAck s.lc.epoch] } })
            ∧ ((∀ p, s.lc.peerHello = some p → p.nodeId ≠ nodeId) → run = .next s))
        ∧ (s.lc.state ≠ .hello → s.lc.state ≠ .up → run = .next s))
    ∧ (∀ (agreed nodeId : Byte) (s : State),
      let run := exec (.helloAckReceived agreed nodeId) s
      let again (lc : LinkController) : State :=
        if s.lc.attempts < 16 then
          { s with lc := lc, lanes := { s.lanes with owed := s.lanes.owed ++ [.hello] } }
        else
          { s with
            lc := { lc with state := .down, training := none, helloInterval := none, holdoff := some 2000 }
            lanes := { s.lanes with
              owed := s.lanes.owed.filter (fun o => match o with | .ack .. => true | .nak .. => true | _ => false) } }
      (s.lc.state ≠ .hello → run = .next s ∧ exec .helloIntervalExpiry s = .next s)
        ∧ (s.lc.state = .hello → nodeId.toNat = s.lc.nodeId.toNat →
          ∃ t, run = .next t ∧ Only [.lc, .lanes, .al] s t ∧ t.lc.state = .fault ∧ t.al.detail.has .linkFault = true)
        ∧ (s.lc.state = .hello → nodeId.toNat ≠ s.lc.nodeId.toNat → s.lc.peerHello = none → run = .next s)
        ∧ (∀ p, s.lc.state = .hello → nodeId.toNat ≠ s.lc.nodeId.toNat → s.lc.peerHello = some p →
          s.au.queue = [] → .hello ∉ s.lanes.owed →
          nodeId ≠ p.nodeId ∨ agreed ≠ (if s.lc.proposal.toNat < p.proposal.toNat then p.proposal else s.lc.proposal) →
            run = .next (again { s.lc with peerHello := none, helloInterval := none }))
        ∧ (∀ n, s.lc.state = .hello → s.lc.helloInterval = some n → s.au.queue = [] → .hello ∉ s.lanes.owed →
          exec .helloIntervalExpiry s = .next (again { s.lc with helloInterval := none })))

/-- A matching HELLO_ACK in HELLO brings the link UP, and every block starts its session values; DEGRADED windows with
auto_resync go on (R22, R31, R37, R61, R63, R76, R97, R106).
The owed HELLO dropped is the model's reading (log 10), and so is the queue left in place (log 20). -/
def Obligations.LinkReachesUp : Prop :=
  ∀ (agreed nodeId : Byte) (p : PeerHello) (s : State),
    s.lc.state = .hello → s.lc.peerHello = some p → nodeId = p.nodeId → nodeId.toNat ≠ s.lc.nodeId.toNat →
    agreed = (if s.lc.proposal.toNat < p.proposal.toNat then p.proposal else s.lc.proposal) →
      ∃ t, exec (.helloAckReceived agreed nodeId) s = .next t
        ∧ Only [.out, .rq, .cu, .da, .lc, .lanes, .ts, .rc, .au, .re, .fu, .al, .counters] s t
        ∧ t.lc =
          { s.lc with
            state := .up, epoch := agreed, lastEpoch := agreed, helloInterval := none
            liveness := some s.params.liveness.toNat, keepalive := some s.params.keepalive.toNat }
        ∧ t.rq = { s.rq with nextSeq := 0, sendPtr := 0 }
        ∧ t.ts = { ackedThrough := 65535, sendLimit := p.limit, sentHigh := 65535, rounds := 0, ackTimer := none }
        ∧ t.rc = { expected := 0, nakOutstanding := false }
        ∧ t.au =
          { s.au with
            epoch := agreed, appliedThrough := 65535, unreported := 0, ackDelay := none, advertised := 15 }
        ∧ t.counter .sessions = saturate (s.counter .sessions) ∧ t.al.detail.has .linkUp = true
        ∧ (∀ e, .helloAck e ∈ s.lanes.owed → .helloAck e ∈ t.lanes.owed)
        ∧ ∀ w : WinId, t.out[w].state =
            if s.out[w].state = .degraded ∧ s.out[w].autoResync = true then
              (if s.out[w].dirtyCount = 0 then .active else .resync)
            else s.out[w].state

/-- The events that end a session in UP, each with its recorded cause and the state after it (R67, R68, R69). The apply queue
is not touched (R116), the discarded records' marks are set and no other mark changes (R39), the engine gives up its
segment and its read (R134 to R137), and a capture ends its wait, or goes on with its session-ended flag set (R41, R43, R49).
The zeros of the cleared record, the free order of the fence unit, the record of completions and the mark of a dropped read
are the model's (log 11, log 6, log 13, log 16). -/
def Obligations.SessionEndEvents : Prop :=
  ∀ s : State, s.lc.state = .up →
    (∀ n, s.lc.liveness = some n →
        ∃ t, exec .livenessExpiry s = .next t ∧ SessionEnded .liveness none .down s t)
      ∧ (∃ t, exec .lost s = .next t ∧ SessionEnded .lost none .down s t)
      ∧ (∀ epoch reason : Byte, epoch = s.lc.epoch →
        ∃ t, exec (.goodbyeReceived epoch reason) s = .next t
          ∧ SessionEnded .peerGoodbye
            (if reason = 3 then some .retry else if reason = 4 then some .protocol else if reason = 6 then some .command
            else if reason = 7 then some .resetMirror else none) .down s t)
      ∧ (∀ typeCode epoch : Byte, (Instr.undefinedFrame typeCode epoch).wf = true →
        ∃ t, exec (.undefinedFrame typeCode epoch) s = .next t ∧ SessionEnded .protocol none .down s t)
      ∧ (s.holds .linkDisable →
        ∃ t, exec (.linkDisable (Request.crc .linkDisable)) s = .next t ∧ t.answers .ok []
          ∧ LinkEnded .command none .off (s.setLc { s.lc with enabled := false }) t
          ∧ BlocksEnded (s.setLc { s.lc with enabled := false }) t)

/-- Outside UP no event ends a session: liveness, GOODBYE, DATA, ACK, NAK and undefined frames change nothing (R54, R64,
R70). In UP a DATA, ACK, NAK or GOODBYE of another epoch is stale: counted and nothing else (R64).
The expiry of a timer that no state runs is the model's choice (log 1). -/
def Obligations.FramesNotOfSession : Prop :=
    (∀ s : State, s.lc.state ≠ .up →
      (s.lc.liveness = none → exec .livenessExpiry s = .next s)
        ∧ exec .keepaliveExpiry s = .next s
        ∧ (∀ epoch reason, exec (.goodbyeReceived epoch reason) s = .next s)
        ∧ (∀ typeCode epoch, exec (.undefinedFrame typeCode epoch) s = .next s)
        ∧ (∀ epoch seq kind window line mask data,
          exec (.dataReceived epoch seq kind window line mask data) s = .next s)
        ∧ (∀ epoch a limit reason q, exec (.ackReceived epoch a limit reason q) s = .next s)
        ∧ ∀ epoch e, exec (.nakReceived epoch e) s = .next s)
    ∧ (∀ (epoch : Byte) (s : State), s.lc.state = .up → epoch ≠ s.lc.epoch →
      (∀ seq kind window line mask data,
          exec (.dataReceived epoch seq kind window line mask data) s = .next (bump .staleFrames s))
        ∧ (∀ a limit reason q, exec (.ackReceived epoch a limit reason q) s = .next (bump .staleFrames s))
        ∧ (∀ e, exec (.nakReceived epoch e) s = .next (bump .staleFrames s))
        ∧ ∀ reason, exec (.goodbyeReceived epoch reason) s = .next (bump .staleFrames s))

/-- A frame with a bad CRC-32: counted and raised in UP and HELLO, and in UP it makes a NAK owed unless one is outstanding;
elsewhere it is discarded uncounted (R54, R99). -/
def Obligations.BadCrcFrameResult : Prop :=
  ∀ s : State,
    let counted := raise .crcError (bump .crcErrors s)
    (s.lc.state = .up → s.rc.nakOutstanding = false →
        exec .badCrcFrame s = .next
          { counted with
            rc := { s.rc with nakOutstanding := true }
            lanes := { s.lanes with owed := s.lanes.owed ++ [.nak s.rc.expected] } })
      ∧ (s.lc.state = .up → s.rc.nakOutstanding = true → exec .badCrcFrame s = .next counted)
      ∧ (s.lc.state = .hello → exec .badCrcFrame s = .next counted)
      ∧ (s.lc.state ≠ .up → s.lc.state ≠ .hello → exec .badCrcFrame s = .next s)

/-- The keepalive timer and the ack delay timer make an ordinary ACK owed in UP, which reports every finished record
(R66, R111, R112, R113).
That an expired keepalive timer stays stopped until a frame begins is the model's reading (log 26). -/
def Obligations.AckTimersOweAck : Prop :=
  ∀ s : State, s.lc.state = .up →
    (∀ n, s.lc.keepalive = some n →
        ∃ t, exec .keepaliveExpiry s = .next t ∧ Only [.lc, .lanes, .au] s t
          ∧ t.lc = { s.lc with keepalive := none } ∧ t.au = { s.au with unreported := 0, ackDelay := none }
          ∧ t.lanes.frame = s.lanes.frame ∧ t.lanes.goodbye = s.lanes.goodbye
          ∧ AckOwed s.au.appliedThrough (s.au.appliedThrough + 16) s.lanes.owed t.lanes.owed)
      ∧ (∀ n, s.au.ackDelay = some n →
        ∃ t, exec .ackDelayExpiry s = .next t ∧ Only [.lanes, .au] s t
          ∧ t.au = { s.au with unreported := 0, ackDelay := none }
          ∧ t.lanes.frame = s.lanes.frame ∧ t.lanes.goodbye = s.lanes.goodbye
          ∧ AckOwed s.au.appliedThrough (s.au.appliedThrough + 16) s.lanes.owed t.lanes.owed)

/-! ### The receive checker -/

/-- A well-formed DATA frame of the session epoch that is expected, and overruns nothing, joins the apply queue; an IDLE
unit with an empty queue checks it at once and requests its write, or rejects it (R101, R105, R107, R108, R110, R115). -/
def Obligations.DataAccepted : Prop :=
  ∀ (seq : Seq) (k : RecordKind) (w : WinId) (line : LineIndex) (mask : Mask) (data : LineData) (s : State),
    s.lc.state = .up → mask ≠ 0 → (k = .copy → mask = BitVec.allOnes 64) → seq = s.rc.expected →
    s.au.queue.length < 16 → later seq s.au.advertised = false →
      let run := exec (.dataReceived s.lc.epoch seq k.code (BitVec.ofNat 4 w.val) (line.setWidth 24) mask data) s
      let e : ApplyEntry :=
        { seq := seq, kind := k, window := w, line := line, mask := mask, data := data, reject := none }
      let alive : LinkController := { s.lc with liveness := some s.params.liveness.toNat }
      let checker : Checker := { expected := s.rc.expected + 1, nakOutstanding := false }
      let joined : ApplyUnit :=
        { s.au with
          queue := s.au.queue ++ [e], promotion := s.au.promotion || decide (12 ≤ s.au.queue.length + 1) }
      let fits := s.inb[w].enabled = true ∧ line.toNat * 64 + 64 ≤ s.inb[w].length.toNat
      let write : Txn :=
        { access := .write mask data, addr := s.inb[w].base + BitVec.ofNat 32 (line.toNat * 64), length := 64 }
      (s.au.state ≠ .idle → run = .next { s with lc := alive, rc := checker, au := joined })
        ∧ (s.au.state = .idle → s.au.queue = [] → fits →
          ∃ t, run = .next t ∧ Only [.lc, .rc, .au, .da, .re] s t ∧ t.lc = alive ∧ t.rc = checker
            ∧ t.au = { joined with state := .writing }
            ∧ (t.da.ap = some write ∨ t.da.port = some ⟨.ap, write⟩)
            ∧ (s.da.port.isSome = true → t.re = s.re ∧ t.da = { s.da with ap := some write }))
        ∧ (s.au.state = .idle → s.au.queue = [] → ¬fits →
          let reason : RejectReason := if s.inb[w].enabled then .range else .disabled
          ∃ t, run = .next t ∧ Only [.lc, .rc, .au, .lanes, .al, .counters] s t ∧ t.lc = alive ∧ t.rc = checker
            ∧ t.au.queue = [] ∧ t.au.state = .blocked ∧ t.au.appliedThrough = seq ∧ t.au.unreported = 0
            ∧ t.lanes.owed = s.lanes.owed ++ [.ack seq (seq + 16) (some reason)]
            ∧ t.al.detail.has .rejectSent = true ∧ t.counter .rejectsSent = saturate (s.counter .rejectsSent))

/-- A well-formed DATA frame that is not accepted: a limit violation, an out-of-order frame or a duplicate, each counted,
with nothing joining the queue (R101, R102, R103). -/
def Obligations.DataNotAccepted : Prop :=
  ∀ (seq : Seq) (k : RecordKind) (w : WinId) (line : LineIndex) (mask : Mask) (data : LineData) (s : State),
    s.lc.state = .up → mask ≠ 0 → (k = .copy → mask = BitVec.allOnes 64) →
      let run := exec (.dataReceived s.lc.epoch seq k.code (BitVec.ofNat 4 w.val) (line.setWidth 24) mask data) s
      let alive := s.setLc { s.lc with liveness := some s.params.liveness.toNat }
      (seq = s.rc.expected → 16 ≤ s.au.queue.length ∨ later seq s.au.advertised = true →
          run = .next (raise .limitViolation (bump .limitViolations alive)))
        ∧ (later seq s.rc.expected = true → s.rc.nakOutstanding = true → run = .next (bump .outOfOrder alive))
        ∧ (later seq s.rc.expected = true → s.rc.nakOutstanding = false →
          run = .next
            { bump .outOfOrder alive with
              rc := { s.rc with nakOutstanding := true }
              lanes := { s.lanes with owed := s.lanes.owed ++ [.nak s.rc.expected] } })
        ∧ (later s.rc.expected seq = true →
          ∃ t, run = .next t ∧ Only [.lc, .au, .lanes, .counters] s t ∧ t.lc = alive.lc
            ∧ t.counters = (bump .duplicates s).counters
            ∧ t.au = { s.au with unreported := 0, ackDelay := none } ∧ t.lanes.frame = s.lanes.frame
            ∧ AckOwed s.au.appliedThrough (s.au.appliedThrough + 16) s.lanes.owed t.lanes.owed)

/-- A DATA frame whose contents are not well-formed ends the session with PROTOCOL, whatever its number (R100), and so do the
four protocol violations of an ACK (R81, R93).
The zeros of the cleared record and the free order of the fence unit are the model's (log 11, log 6), and so is the mark of a dropped read in SessionEnded
(log 16). -/
def Obligations.ViolationsEndSession : Prop :=
    (∀ (seq : Seq) (kind window : BitVec 4) (line : BitVec 24) (mask : Mask) (data : LineData) (s : State),
      s.lc.state = .up →
      (kind ≠ 1 ∧ kind ≠ 2) ∨ 7 < window.toNat ∨ 2 ^ 22 ≤ line.toNat ∨ mask = 0
        ∨ (kind = 2 ∧ mask ≠ BitVec.allOnes 64) →
        ∃ t, exec (.dataReceived s.lc.epoch seq kind window line mask data) s = .next t
          ∧ SessionEnded .protocol none .down s t ∧ t.au.queue.length ≤ s.au.queue.length)
    ∧ (∀ (a limit : Seq) (reason : Byte) (q : Seq) (s : State), s.lc.state = .up →
      later a s.ts.sentHigh = true
        ∨ (reason ≠ 0 ∧ (later a s.ts.ackedThrough = false ∨ q ≠ a ∨ 3 < reason.toNat)) →
        ∃ t, exec (.ackReceived s.lc.epoch a limit reason q) s = .next t ∧ SessionEnded .protocol none .down s t)

/-! ### Acknowledgements -/

/-- An ACK without a reject that makes no progress changes the send limit only, and that only to a later one (R81, R83). An
ACK that makes progress removes every record it covers, resets the round count, settles the ack timer, completes the
fences it reaches and a confirm wait it answers; with a reject, the window of the rejected record is HALTED, which abandons
its segment (R82 to R85, R25, R38, R47, R135, R145).
A wait that ends is shown in the model's record of completions (log 13), and a read to be dropped in its mark (log 16). -/
def Obligations.AckResult : Prop :=
    (∀ (a limit q : Seq) (s : State),
      s.lc.state = .up → later a s.ts.sentHigh = false → later a s.ts.ackedThrough = false →
        exec (.ackReceived s.lc.epoch a limit 0 q) s = .next
          { s with
            lc := { s.lc with liveness := some s.params.liveness.toNat }
            ts := { s.ts with sendLimit := if later limit s.ts.sendLimit then limit else s.ts.sendLimit } })
    ∧ (∀ (a limit : Seq) (reject : Option RejectReason) (q : Seq) (s : State),
      s.lc.state = .up → later a s.ts.sentHigh = false → later a s.ts.ackedThrough = true →
      (reject.isSome = true → q = a) → s.fu.handshake ≠ .waiting → QuietWhileDown s →
        let kept := s.rq.records.filter (fun r => later r.seq a)
        ∃ t, exec (.ackReceived s.lc.epoch a limit (codeOr0 RejectReason.code reject) q) s = .next t
          ∧ t.lc = { s.lc with liveness := some s.params.liveness.toNat } ∧ t.lanes = s.lanes ∧ t.au = s.au
          ∧ t.rq =
            { s.rq with records := kept, sendPtr := if atOrBefore s.rq.sendPtr a then a + 1 else s.rq.sendPtr }
          ∧ t.ts =
            { s.ts with
              ackedThrough := a, rounds := 0
              sendLimit := if later limit s.ts.sendLimit then limit else s.ts.sendLimit
              ackTimer := if ∃ r ∈ kept, r.state = .sent then some s.params.ackTimeout.toNat else none }
          ∧ t.fu.fences.map (·.ticket) = (s.fu.fences.map (·.ticket)).dropWhile (fun k => atOrBefore k a)
          ∧ (∀ c, s.cu = some c → c.phase = .confirmWait → s.mp.offer = none →
            (∃ r ∈ s.rq.records, r.waiter = true ∧ atOrBefore r.seq a = true) →
              t.cu = none
                ∧ t.mp = { txn := none, offer := none, completions := s.mp.completions ++ [⟨.ok, none⟩] })
          ∧ (∀ reason r, reject = some reason → s.rq.records.find? (fun r => decide (r.seq = a)) = some r →
            t.counter .rejectsReceived = saturate (s.counter .rejectsReceived)
              ∧ (s.out[r.window].state ≠ .off → s.out[r.window].state ≠ .halted →
                t.out[r.window].state = .halted ∧ t.out[r.window].haltCause = some (.reject reason)
                  ∧ (∀ g, s.re.current = some g → g.window = r.window → s.out[r.window].state = .resync →
                    ReadAbandoned s t)
                  ∧ t.al.detail.has (.haltedEntered r.window) = true ∧ ∀ f ∈ t.fu.fences, f.degraded = true)
              ∧ (s.out[r.window].state = .halted → t.out[r.window].haltCause = s.out[r.window].haltCause)))

/-- The fences an ACK with progress reaches complete DONE in list order, each with its flag, which a window that the same
ACK halts has set (R145, R144); their results go to the log and the lines (R147, R151). A line request that waits is issued
once a place is free: it is answered at once on an empty queue, and else closes the tail and takes its number (R150). -/
def Obligations.FencesCompleteResult : Prop :=
  ∀ (a limit : Seq) (reject : Option RejectReason) (q : Seq) (halts behind : Bool) (s : State),
    s.lc.state = .up → later a s.ts.sentHigh = false → later a s.ts.ackedThrough = true →
    (reject.isSome = true → q = a) → QuietWhileDown s → LinesFollowHandshake s →
    (halts = true ↔ reject.isSome = true ∧ ∃ r, s.rq.records.find? (fun r => decide (r.seq = a)) = some r
      ∧ s.out[r.window].state ≠ .off ∧ s.out[r.window].state ≠ .halted) →
    (behind = true ↔ s.outOfStep ∨ halts = true) →
      let reached := s.fu.fences.takeWhile (fun f => atOrBefore f.ticket a)
      let left := degradedBy halts (s.fu.fences.dropWhile (fun f => atOrBefore f.ticket a))
      let kept := s.rq.records.filter (fun r => later r.seq a)
      ∃ t, exec (.ackReceived s.lc.epoch a limit (codeOr0 RejectReason.code reject) q) s = .next t
        ∧ (s.fu.handshake ≠ .waiting ∨ reached = [] →
          t.fu.fences = left ∧ t.rq.records = kept ∧ t.rq.mergeTimer = s.rq.mergeTimer
            ∧ FencesDelivered true (degradedBy halts reached) s t)
        ∧ (reached = [] → t.fu.log = s.fu.log ∧ t.fu.handshake = s.fu.handshake)
        ∧ (s.fu.handshake = .waiting → reached ≠ [] →
          (s.fu.log.length ≤ 8 →
              t.fu.log = lastEntries (s.fu.log ++ (degradedBy halts reached).filterMap (Fence.result true)))
            ∧ t.al.detail.has .fenceDone = true ∧ t.rq.mergeTimer = none
            ∧ (kept = [] → t.rq.records = [] ∧ t.fu.fences = left ∧ t.fu.handshake = .answered ∧ t.fu.ack = true
              ∧ t.fu.clean = !behind)
            ∧ ∀ older r, kept = older ++ [r] →
              t.rq.records = older ++ [{ r with state := if r.state = .opened then .ready else r.state }]
                ∧ t.fu.fences = left ++ [⟨r.seq, .line, behind⟩] ∧ t.fu.handshake = .pending ∧ t.fu.ack = s.fu.ack)

/-- The acknowledgement of a segment's last record completes the segment: its mark clears unless it was redirtied, and the
last mark takes the window to ACTIVE; every other entry of the window table stays as it was but for the cursor of a window in
RESYNC. The engine holds the segment no longer: it is IDLE, as it is once no window is in RESYNC, or copies a segment newly
taken (R124, R27, R127, R132).
The engine comes last among the effects by the model's reading of R85 (log 18). -/
def Obligations.SegmentCompletes : Prop :=
  ∀ (a limit q : Seq) (g : Segment) (l : Seq) (s : State),
    s.lc.state = .up → later a s.ts.sentHigh = false → later a s.ts.ackedThrough = true →
    s.re.state = .draining → s.re.current = some g → g.lastSeq = some l → atOrBefore l a = true →
    s.out[g.window].state = .resync →
      let p := s.out[g.window].mapOffset + g.index
      ∃ t, exec (.ackReceived s.lc.epoch a limit 0 q) s = .next t
        ∧ (t.re.current = none → t.re.state = .idle)
        ∧ (∀ g', t.re.current = some g' →
          t.re.state = .copying ∧ g'.nextLine = 0 ∧ g'.lastSeq = none ∧ g'.redirtied = false)
        ∧ (g.redirtied = true → t.dm = s.dm ∧ WindowBecomes g.window s.out[g.window] s t)
        ∧ (g.redirtied = false → s.dm.getLsbD p = true →
          t.dm.getLsbD p = false ∧ (∀ j, j ≠ p → t.dm.getLsbD j = s.dm.getLsbD j)
            ∧ t.out[g.window].dirtyCount = s.out[g.window].dirtyCount - 1
            ∧ (s.out[g.window].dirtyCount = 1 →
              WindowBecomes g.window { s.out[g.window] with state := .active, haltCause := none, dirtyCount := 0 } s t
                ∧ t.al.detail.has (.synced g.window) = true
                ∧ ((∀ v : WinId, v ≠ g.window → s.out[v].state ≠ .resync) →
                  t.re.current = none ∧ t.re.state = .idle))
            ∧ (1 < s.out[g.window].dirtyCount →
              WindowBecomes g.window
                { s.out[g.window] with dirtyCount := s.out[g.window].dirtyCount - 1 } s t))

/-- A NAK of the session epoch is counted and judged by the rows of the table in order (R86, R87, R88, R91, R95). The ack
timer's expiry with SENT records starts a round from the head, or reports RETRY at the limit; without a SENT record, or
with the timer stopped, nothing happens (R89, R90, R91).
The expiry of a stopped ack timer, or of one without a SENT record, is the model's choice (log 1), and so are the zeros of
the cleared record, the free order of the fence unit and the mark of a dropped read in SessionEnded (log 11, log 6,
log 16). -/
def Obligations.RoundsResult : Prop :=
    (∀ (e : Seq) (s : State), s.lc.state = .up →
      let run := exec (.nakReceived s.lc.epoch e) s
      let counted := bump .naksReceived (s.setLc { s.lc with liveness := some s.params.liveness.toNat })
      let high := s.ts.sentHigh + 1
      (later e high = true →
          ∃ t, run = .next t ∧ SessionEnded .protocol none .down counted t)
        ∧ (later e high = false → atOrBefore e s.ts.ackedThrough = true → run = .next counted)
        ∧ (e = high → atOrBefore e s.ts.ackedThrough = false →
          run = .next
            { counted with rq := { s.rq with sendPtr := if later high s.rq.sendPtr then high else s.rq.sendPtr } })
        ∧ (e ≠ high → later e high = false → atOrBefore e s.ts.ackedThrough = false →
          (s.ts.rounds < s.params.retryLimit.toNat →
              run = .next
                (bump .retransmitRounds
                  { counted with
                    rq := { s.rq with sendPtr := e }
                    ts := { s.ts with rounds := s.ts.rounds + 1, ackTimer := some s.params.ackTimeout.toNat } }))
            ∧ (s.params.retryLimit.toNat ≤ s.ts.rounds →
              ∃ t, run = .next t ∧ SessionEnded .retry none .down counted t)))
    ∧ (∀ s : State, s.lc.state = .up →
      (s.ts.ackTimer = none ∨ (∀ r ∈ s.rq.records, r.state ≠ .sent) → exec .ackTimerExpiry s = .next s)
        ∧ (s.ts.ackTimer.isSome = true → (∃ r ∈ s.rq.records, r.state = .sent) →
          (s.ts.rounds < s.params.retryLimit.toNat →
              exec .ackTimerExpiry s = .next
                (bump .retransmitRounds
                  { s with
                    rq := { s.rq with sendPtr := s.ts.ackedThrough + 1 }
                    ts := { s.ts with rounds := s.ts.rounds + 1, ackTimer := some s.params.ackTimeout.toNat } }))
            ∧ (s.params.retryLimit.toNat ≤ s.ts.rounds →
              ∃ t, exec .ackTimerExpiry s = .next t ∧ SessionEnded .retry none .down s t)))

/-! ### The transmit lanes -/

/-- A DATA frame begins for the record at the send pointer when the link is UP, the record is closed and within the limit,
and no control frame is owed (R77, R78, R66); it does not begin beyond the send limit, for a past-tail pointer, outside UP,
on busy lanes, or before an owed control frame (R77, R79, R80).
That nothing begins on busy lanes or out of turn is the model's reading (log 9). -/
def Obligations.TransmitDataResult : Prop :=
    (∀ (older newer : List Record) (r : Record) (s : State),
      s.lc.state = .up → s.lanes.frame = none → s.lanes.goodbye = none → s.lanes.owed = [] →
      s.rq.records = older ++ r :: newer → r.seq = s.rq.sendPtr → r.state ≠ .opened →
      (∀ r' ∈ older ++ newer, r'.seq ≠ r.seq) → atOrBefore r.seq s.ts.sendLimit = true →
        exec .transmitData s = .next
          { s with
            rq := { s.rq with records := older ++ { r with state := .sent } :: newer, sendPtr := r.seq + 1 }
            ts :=
              { s.ts with
                sentHigh := if later r.seq s.ts.sentHigh then r.seq else s.ts.sentHigh
                ackTimer := match s.ts.ackTimer with | none => some s.params.ackTimeout.toNat | some n => some n }
            lc := { s.lc with keepalive := some s.params.keepalive.toNat }
            lanes := { s.lanes with frame := some (.data s.lc.epoch r.seq r.kind r.window r.line r.mask r.data) } })
    ∧ (∀ s : State,
      s.lc.state ≠ .up ∨ s.lanes.frame ≠ none ∨ s.lanes.goodbye ≠ none ∨ s.lanes.owed ≠ []
        ∨ (∀ r ∈ s.rq.records, r.seq = s.rq.sendPtr → r.state = .opened ∨ later r.seq s.ts.sendLimit = true) →
        exec .transmitData s = .next s)

/-- The owed control frames begin in the order they became owed, each with its contents and its effect: an ACK advances the
advertised limit, a reject ACK frees a BLOCKED apply unit, which then takes its next head, a NAK is counted, a HELLO is an
attempt and loads the interval timer (R59, R60, R66, R104, R107, R110, R112). An owed GOODBYE begins on free lanes in OFF and
DOWN, with the ended session's epoch and cause, and in UP, where its beginning restarts the keepalive timer; it does not
begin in TRAINING, HELLO or FAULT (R52, R54, R66, R68, R80).
That a HELLO counts when it begins is the model's reading (log 10), and so is which row begins a frame (log 9) and in which
states an owed GOODBYE begins (log 31). -/
def Obligations.TransmitControlResult : Prop :=
    (∀ (rest : List Owed) (s : State), s.lanes.frame = none → s.lanes.goodbye = none ∨ s.lc.state = .hello →
      let lanes (f : Frame) : Lanes := { s.lanes with frame := some f, owed := rest }
      let kept : LinkController := { s.lc with keepalive := some s.params.keepalive.toNat }
      (∀ a limit reject, s.lc.state = .up → s.lanes.owed = .ack a limit reject :: rest →
          let advertised := if later limit s.au.advertised then limit else s.au.advertised
          (reject = none ∨ s.au.state ≠ .blocked →
              exec .transmitAck s = .next
                { s with
                  lanes := lanes (.ack s.lc.epoch a limit reject), lc := kept
                  au := { s.au with advertised := advertised } })
            ∧ (reject.isSome = true → s.au.state = .blocked → s.au.queue = [] →
              exec .transmitAck s = .next
                { s with
                  lanes := lanes (.ack s.lc.epoch a limit reject), lc := kept
                  au := { s.au with advertised := advertised, state := .idle } })
            ∧ (reject.isSome = true → s.au.state = .blocked → s.au.queue ≠ [] →
              let begun : State :=
                { s with
                  lanes := lanes (.ack s.lc.epoch a limit reject), lc := kept
                  au := { s.au with advertised := advertised, state := .idle } }
              ∃ t, exec .transmitAck s = .next t ∧ Only [.lanes, .lc, .au, .da, .re, .al, .counters] s t ∧ t.lc = kept
                ∧ HeadTaken begun t))
        ∧ (∀ e, s.lc.state = .up → s.lanes.owed = .nak e :: rest →
          exec .transmitNak s = .next (bump .naksSent { s with lanes := lanes (.nak s.lc.epoch e), lc := kept }))
        ∧ (∀ e, s.lc.state = .up → s.lanes.owed = .helloAck e :: rest →
          exec .transmitHelloAck s = .next { s with lanes := lanes (.helloAck e s.lc.nodeId), lc := kept })
        ∧ (∀ e, s.lc.state = .hello → s.au.queue = [] → s.lanes.owed = .helloAck e :: rest →
          exec .transmitHelloAck s = .next { s with lanes := lanes (.helloAck e s.lc.nodeId) })
        ∧ (s.lc.state = .hello → s.au.queue = [] → s.lanes.owed = .hello :: rest →
          exec .transmitHello s = .next
            { s with
              lanes := lanes (.hello s.lc.proposal s.lc.nodeId 15)
              lc := { s.lc with attempts := s.lc.attempts + 1, helloInterval := some 1000 } })
        ∧ (s.lc.state = .hello → s.au.queue ≠ [] → exec .transmitHello s = .next s ∧ exec .transmitHelloAck s = .next s))
    ∧ (∀ (epoch : Epoch) (reason : DownCause) (s : State),
      s.lanes.frame = none → s.lanes.goodbye = some (epoch, reason) →
        let begun : State := { s with lanes := { s.lanes with frame := some (.goodbye epoch reason), goodbye := none } }
        (s.lc.state = .off ∨ s.lc.state = .down → exec .transmitGoodbye s = .next begun)
          ∧ (s.lc.state = .up → exec .transmitGoodbye s = .next
            { begun with lc := { s.lc with keepalive := some s.params.keepalive.toNat } })
          ∧ (s.lc.state = .training ∨ s.lc.state = .hello ∨ s.lc.state = .fault → exec .transmitGoodbye s = .next s))

/-- When a frame ends the lanes take an owed GOODBYE first where the link state sends one, then the first owed control
frame, then a DATA frame in UP; in HELLO they take an owed HELLO or HELLO_ACK once the apply queue is empty; elsewhere they
stay free (R52, R54, R59, R80).
That this happens within the event of the frame's end is the model's reading (log 9), and so is in which states an owed
GOODBYE begins (log 31). That FRAME_END without a frame in progress changes nothing is the model's choice for a row that the
state rules out (log 1). -/
def Obligations.FrameEndTakesNext : Prop :=
  ∀ s : State,
    let freed : State := { s with lanes := { s.lanes with frame := none } }
    (s.lanes.frame = none → exec .frameEnd s = .next s)
      ∧ (s.lanes.frame ≠ none →
        (s.lanes.goodbye ≠ none → s.lc.state = .off ∨ s.lc.state = .down ∨ s.lc.state = .up →
            exec .frameEnd s = exec .transmitGoodbye freed)
          ∧ (s.lanes.goodbye = none → s.lc.state = .up →
            (∀ a limit reject rest, s.lanes.owed = .ack a limit reject :: rest →
                exec .frameEnd s = exec .transmitAck freed)
              ∧ (∀ e rest, s.lanes.owed = .nak e :: rest → exec .frameEnd s = exec .transmitNak freed)
              ∧ (∀ e rest, s.lanes.owed = .helloAck e :: rest → exec .frameEnd s = exec .transmitHelloAck freed)
              ∧ (s.lanes.owed = [] → exec .frameEnd s = exec .transmitData freed))
          ∧ (s.lc.state = .hello → s.au.queue = [] →
            (∀ rest, s.lanes.owed = .hello :: rest → exec .frameEnd s = exec .transmitHello freed)
              ∧ (∀ e rest, s.lanes.owed = .helloAck e :: rest → exec .frameEnd s = exec .transmitHelloAck freed)
              ∧ (s.lanes.owed = [] → exec .frameEnd s = .next freed))
          ∧ (s.lc.state = .hello → s.au.queue ≠ [] → exec .frameEnd s = .next freed)
          ∧ (s.lanes.goodbye = none → s.lc.state = .off ∨ s.lc.state = .down → exec .frameEnd s = .next freed)
          ∧ (s.lc.state = .training ∨ s.lc.state = .fault → exec .frameEnd s = .next freed))

/-! ### The apply unit and the resync engine -/

/-- An apply write's completion finishes the head entry: applied_through advances, a good write is counted as unreported or
reported at once, an ERR is rejected with REJECT_MEMORY in an ACK of its own. In UP the unit then takes the next head unless
it is BLOCKED; outside UP it drops every next head that fails its check, requests the first that passes, and the drain ends
with the queue. A result orphaned by RESET_MIRROR is ignored (R107 to R112, R115, R117, R118). The port is then granted
again, with the next head's request presented and the promotion flag as the finish left it (R173, R175).
The mark of an orphaned result is the model's (log 16), and so is the HELLO that an emptied queue makes owed (log 10). -/
def Obligations.ApplyWriteCompleteResult : Prop :=
  ∀ (r : Result) (x : Txn) (s : State), s.da.port = some ⟨.ap, x⟩ →
    (s.au.writeIgnored = true →
        ∃ t, exec (.applyWriteComplete r) s = .next t ∧ Only [.au, .da, .re] s t
          ∧ t.au = { s.au with writeIgnored := false } ∧ ApplyWriteEnds s.da.ap s t)
      ∧ ∀ e rest, s.au.writeIgnored = false → s.au.state = .writing → s.au.queue = e :: rest → e.reject = none →
        let promotion := s.au.promotion && decide (4 < rest.length)
        ∃ t, exec (.applyWriteComplete r) s = .next t ∧ Only [.au, .lanes, .da, .re, .al, .counters] s t
          ∧ t.au.promotion = (s.au.promotion && decide (4 < t.au.queue.length))
          ∧ ApplyWriteEnds (if t.au.state = .writing then t.au.queue.head?.map s.writeOf else s.da.ap) s t
          ∧ (r = .ok → s.lc.state = .up →
            ∃ u : State, HeadTaken u t ∧ u.inb = s.inb ∧ u.al = s.al ∧ u.counters = s.counters
              ∧ u.lanes.frame = s.lanes.frame ∧ u.lanes.goodbye = s.lanes.goodbye
              ∧ u.au =
                { s.au with
                  queue := rest, state := .idle, appliedThrough := e.seq, promotion := promotion
                  unreported := u.au.unreported, ackDelay := u.au.ackDelay }
              ∧ (s.au.unreported + 1 < s.params.ackBatch.toNat → s.params.ackDelay ≠ 0 →
                u.au.unreported = s.au.unreported + 1 ∧ u.lanes.owed = s.lanes.owed
                  ∧ u.au.ackDelay = if s.au.unreported = 0 then some s.params.ackDelay.toNat else s.au.ackDelay)
              ∧ (s.params.ackBatch.toNat ≤ s.au.unreported + 1 ∨ s.params.ackDelay = 0 →
                u.au.unreported = 0 ∧ u.au.ackDelay = none
                  ∧ AckOwed e.seq (e.seq + 16) s.lanes.owed u.lanes.owed))
          ∧ (r = .err → s.lc.state = .up →
            t.au =
                { s.au with
                  queue := rest, state := .blocked, appliedThrough := e.seq, promotion := promotion
                  unreported := 0, ackDelay := none }
              ∧ t.lanes = { s.lanes with owed := s.lanes.owed ++ [.ack e.seq (e.seq + 16) (some .memory)] }
              ∧ t.counter .rejectsSent = saturate (s.counter .rejectsSent))
          ∧ (r = .err →
            t.al.detail.has .localMemoryError = true ∧ t.al.detail.has .rejectSent = true
              ∧ t.counter .localErrors = saturate (s.counter .localErrors))
          ∧ (s.lc.state ≠ .up →
            let dropped := rest.takeWhile (fun e' => !s.fits e')
            let left := rest.dropWhile (fun e' => !s.fits e')
            t.au.queue = left ∧ t.au.appliedThrough = dropped.foldl (fun _ e' => e'.seq) e.seq
              ∧ t.au.lastApplied = t.au.appliedThrough ∧ t.au.unreported = s.au.unreported
              ∧ (t.au.state = if left = [] then .idle else .writing)
              ∧ (t.au.drained = if left = [] then true else s.au.drained)
              ∧ t.lanes.frame = s.lanes.frame ∧ t.lanes.goodbye = s.lanes.goodbye
              ∧ (s.lc.state = .hello → left = [] → .hello ∉ s.lanes.owed → t.lanes.owed = .hello :: s.lanes.owed)
              ∧ (s.lc.state ≠ .hello ∨ left ≠ [] → t.lanes.owed = s.lanes.owed)
              ∧ (r = .ok → dropped = [] → t.al = s.al ∧ t.counters = s.counters)
              ∧ (dropped ≠ [] → t.al.detail.has .rejectSent = true)
              ∧ ∀ e' more, left = e' :: more →
                t.da.ap = some (s.writeOf e') ∨ t.da.port = some ⟨.ap, s.writeOf e'⟩)

/-- A copy read's completion: with OK a COPY record is appended and the segment advances, entering DRAINING after its last
line; with ERR the window is HALTED and the segment abandoned; the result of a read whose segment was abandoned is dropped
(R130, R131, R136). The port is then granted again, with the request of the next line presented (R128, R173).
The mark of a dropped result is the model's (log 16). -/
def Obligations.CopyReadCompleteResult : Prop :=
  ∀ (r : Result) (bytes : LineData) (x : Txn) (s : State), s.da.port = some ⟨.cp, x⟩ →
    let n := s.segBytes / 64
    (s.re.current = none ∨ s.re.readDropped = true →
        ∃ t, exec (.copyReadComplete r bytes) s = .next t ∧ Only [.re, .da, .out, .cu] s t ∧ CopyReadEnds s t
          ∧ t.re.readDropped = false ∧ ∀ w : WinId, t.out[w].state = s.out[w].state)
      ∧ ∀ g, s.re.current = some g → s.re.readDropped = false → s.out[g.window].state = .resync →
        (r = .ok → s.re.state = .copying →
            ∃ t rec, exec (.copyReadComplete r bytes) s = .next t ∧ Only [.rq, .re, .da, .cu] s t ∧ CopyReadEnds s t
              ∧ t.rq.records = closedTail s.rq.records ++ [rec] ∧ t.rq.nextSeq = s.rq.nextSeq + 1
              ∧ t.rq.sendPtr = s.rq.sendPtr ∧ t.rq.mergeTimer = none
              ∧ rec = { seq := s.rq.nextSeq, kind := .copy, window := g.window
                        line := BitVec.ofNat 22 (g.index * n + g.nextLine), mask := BitVec.allOnes 64, data := bytes
                        state := .ready, waiter := false, segmentEnd := decide (g.nextLine + 1 = n) }
              ∧ t.re.current = some
                { g with
                  nextLine := g.nextLine + 1
                  lastSeq := if g.nextLine + 1 = n then some s.rq.nextSeq else g.lastSeq }
              ∧ t.re.state = (if g.nextLine + 1 = n then .draining else .copying))
          ∧ (r = .err →
            ∃ t, exec (.copyReadComplete r bytes) s = .next t ∧ Only [.re, .da, .out, .cu, .fu, .al, .counters] s t
              ∧ CopyReadEnds s t
              ∧ t.out[g.window].state = .halted ∧ t.out[g.window].haltCause = some .copyReadError
              ∧ t.al.detail.has .localMemoryError = true ∧ t.al.detail.has (.haltedEntered g.window) = true
              ∧ t.counter .localErrors = saturate (s.counter .localErrors)
              ∧ (∀ g', t.re.current = some g' → g'.window ≠ g.window) ∧ ∀ f ∈ t.fu.fences, f.degraded = true)

/-- In SELECT the engine takes the first window in RESYNC after last-served and its first marked segment from the cursor on,
moves cursor and last-served, and enters COPYING, or IDLE when no window is in RESYNC (R127). It starts the read of the
next line while fewer than 16 COPY records are queued and a slot is free, taking a reservation (R128). A WIN_RESYNC that
moves a window with marks to RESYNC makes an IDLE engine do both at once (R126). -/
def Obligations.SelectionResult : Prop :=
  (∀ s : State,
      (s.re.state ≠ .select → selectSegment s = s)
        ∧ (s.re.state = .select → (∀ w : WinId, s.out[w].state ≠ .resync) →
          selectSegment s = { s with re := { s.re with state := .idle } })
        ∧ ∀ (i : WinId) (w : WinId) (j k : Nat),
          s.re.state = .select → w = s.re.lastServed + 1 + i → s.out[w].state = .resync →
          (∀ i' : WinId, i' < i → s.out[s.re.lastServed + 1 + i'].state ≠ .resync) →
          j < s.out[w].length → k = (s.out[w].cursor + j) % s.out[w].length →
          s.dm.getLsbD (s.out[w].mapOffset + k) = true →
          (∀ j', j' < j → s.dm.getLsbD (s.out[w].mapOffset + (s.out[w].cursor + j') % s.out[w].length) = false) →
            selectSegment s =
              { s with
                out := s.out.set w { s.out[w] with cursor := if k + 1 = s.out[w].length then 0 else k + 1 }
                re :=
                  { s.re with
                    state := .copying, lastServed := w
                    current := some { window := w, index := k, nextLine := 0, lastSeq := none, redirtied := false } } })
    ∧ (∀ s : State,
      let room := (s.rq.records.filter (fun r => decide (r.kind = .copy))).length < 16
        ∧ s.rq.records.length + (if s.cu.any (·.reservation) then 1 else 0) + (if s.re.reservation then 1 else 0) < 64
      (s.re.current = none → startRead s = s)
        ∧ ∀ g, s.re.current = some g →
          let ready := s.re.state = .copying ∧ s.re.read = .absent ∧ g.nextLine < s.segLines ∧ room
          let read : Txn :=
            { access := .read, length := 64
              addr := s.out[g.window].base + BitVec.ofNat 32 ((g.index * s.segLines + g.nextLine) * 64) }
          (¬ready → startRead s = s)
            ∧ (ready → startRead s = grant
              { s with re := { s.re with read := .requested, reservation := true }, da := { s.da with cp := some read } }))
    ∧ ∀ (b : Byte) (w : WinId) (j k : Nat) (s : State),
      s.holds (.winResync b) → b.toNat = w.val → s.out[w].state = .degraded → s.lc.state = .up →
      s.out[w].dirtyCount ≠ 0 → (∀ v : WinId, s.out[v].state ≠ .resync) → s.cu = none →
      s.re.state = .idle → s.re.read = .absent → s.re.reservation = false →
      s.rq.records.length < 64 → (s.rq.records.filter (fun r => decide (r.kind = .copy))).length < 16 → 64 ≤ s.segBytes →
      j < s.out[w].length → k = (s.out[w].cursor + j) % s.out[w].length →
      s.dm.getLsbD (s.out[w].mapOffset + k) = true →
      (∀ j', j' < j → s.dm.getLsbD (s.out[w].mapOffset + (s.out[w].cursor + j') % s.out[w].length) = false) →
        ∃ t, exec (.winResync b (Request.crc (.winResync b))) s = .next t
          ∧ t.re.state = .copying ∧ t.re.lastServed = w ∧ t.re.reservation = true
          ∧ t.re.current = some { window := w, index := k, nextLine := 0, lastSeq := none, redirtied := false }
          ∧ t.out[w].cursor = (if k + 1 = s.out[w].length then 0 else k + 1)
          ∧ (s.da.port.isSome = true → t.re.read = .requested
            ∧ t.da.cp = some
              { access := .read, length := 64
                addr := s.out[w].base + BitVec.ofNat 32 (k * s.segLines * 64) })
          ∧ (s.da.port = none → s.da.fg = none → s.da.ap = none → t.re.read = .granted)

/-- A write that waits for a slot rechecks when a slot frees or its window moves: it goes on as a pass-through for an OFF
window, without a record in DEGRADED and HALTED, and in ACTIVE and RESYNC with a reservation, as a merge into the tail, or
not yet, its stall timer running on; when it goes on, its write is presented downstream and the stall timer stops (R42,
R43). An ACK that frees a slot and a WIN_HALT of its window are two such events. -/
def Obligations.SlotWaitResult : Prop :=
  (∀ s : State, (s.cu = none ∨ ∃ c, s.cu = some c ∧ c.phase ≠ .slotWait) → recheckSlot s = s)
    ∧ (∀ (c : Capture) (u : UpTxn) (s : State), s.cu = some c → c.phase = .slotWait → s.mp.txn = some u →
      let onward (path : CapturePath) (reservation : Bool) : State :=
        grant
          { s with
            cu := some
              { c with
                phase := .localWrite, path := some path, reservation := c.reservation || reservation
                stallTimer := none }
            da := { s.da with fg := some u.txn } }
      let held := s.rq.records.length + (if c.reservation then 1 else 0) + if s.re.reservation then 1 else 0
      let mergeable := ∃ r, s.rq.records.getLast? = some r ∧ r.state = .opened ∧ r.kind = .write
        ∧ r.window = c.window ∧ r.line = c.line
      let mirrored := u.released = false ∧ (s.out[c.window].state = .active ∨ s.out[c.window].state = .resync)
      (u.released = true ∨ s.out[c.window].state = .off →
          recheckSlot s = grant { s with cu := none, da := { s.da with fg := some u.txn } })
        ∧ (u.released = false → s.out[c.window].state = .degraded ∨ s.out[c.window].state = .halted →
          recheckSlot s = onward .noRecord false)
        ∧ (mirrored → held < 64 → recheckSlot s = onward .record true)
        ∧ (mirrored → 64 ≤ held → mergeable → recheckSlot s = onward .mergeOnly false)
        ∧ (mirrored → 64 ≤ held → ¬mergeable → c.stallTimer.isSome = true → recheckSlot s = s))
    ∧ (∀ (a limit q : Seq) (c : Capture) (u : UpTxn) (s : State),
      s.lc.state = .up → later a s.ts.sentHigh = false → later a s.ts.ackedThrough = true →
      s.cu = some c → c.phase = .slotWait → c.reservation = false → s.mp.txn = some u → u.released = false →
      s.out[c.window].state = .active ∨ s.out[c.window].state = .resync →
      (s.rq.records.filter (fun r => later r.seq a)).length + (if s.re.reservation then 1 else 0) < 64 →
        ∃ t, exec (.ackReceived s.lc.epoch a limit 0 q) s = .next t
          ∧ t.cu = some { c with phase := .localWrite, path := some .record, reservation := true, stallTimer := none }
          ∧ ForegroundAsked u.txn s t)
    ∧ ∀ (b : Byte) (c : Capture) (u : UpTxn) (s : State),
      s.holds (.winHalt b) → b.toNat = c.window.val → s.cu = some c → c.phase = .slotWait → s.mp.txn = some u →
      u.released = false → s.out[c.window].state = .active ∨ s.out[c.window].state = .resync →
        ∃ t, exec (.winHalt b (Request.crc (.winHalt b))) s = .next t
          ∧ t.cu = some { c with phase := .localWrite, path := some .noRecord, stallTimer := none }
          ∧ ForegroundAsked u.txn s t
end

