-- ==== Sys2Proof/Laws/State.lean ====
section
/-! SUPPORT. One lemma per field per setter of `State`, true by rfl, so that no proof unfolds a record update. -/

set_option Elab.async false

namespace Sys2Proof.Machine.State

variable (s : State)

section Pending
variable (x : List Instr)
@[simp] theorem setPending_pending : (s.setPending x).pending = x := rfl
@[simp] theorem setPending_drawn : (s.setPending x).drawn = s.drawn := rfl
@[simp] theorem setPending_pins : (s.setPending x).pins = s.pins := rfl
@[simp] theorem setPending_port : (s.setPending x).port = s.port := rfl
@[simp] theorem setPending_params : (s.setPending x).params = s.params := rfl
@[simp] theorem setPending_out : (s.setPending x).out = s.out := rfl
@[simp] theorem setPending_inb : (s.setPending x).inb = s.inb := rfl
@[simp] theorem setPending_rq : (s.setPending x).rq = s.rq := rfl
@[simp] theorem setPending_cu : (s.setPending x).cu = s.cu := rfl
@[simp] theorem setPending_mp : (s.setPending x).mp = s.mp := rfl
@[simp] theorem setPending_da : (s.setPending x).da = s.da := rfl
@[simp] theorem setPending_lc : (s.setPending x).lc = s.lc := rfl
@[simp] theorem setPending_lanes : (s.setPending x).lanes = s.lanes := rfl
@[simp] theorem setPending_ts : (s.setPending x).ts = s.ts := rfl
@[simp] theorem setPending_rc : (s.setPending x).rc = s.rc := rfl
@[simp] theorem setPending_au : (s.setPending x).au = s.au := rfl
@[simp] theorem setPending_dm : (s.setPending x).dm = s.dm := rfl
@[simp] theorem setPending_re : (s.setPending x).re = s.re := rfl
@[simp] theorem setPending_fu : (s.setPending x).fu = s.fu := rfl
@[simp] theorem setPending_al : (s.setPending x).al = s.al := rfl
@[simp] theorem setPending_counters : (s.setPending x).counters = s.counters := rfl
@[simp] theorem setPending_setPending (y : List Instr) : (s.setPending y).setPending x = s.setPending x := rfl
end Pending

section Drawn
variable (x : Nat)
@[simp] theorem setDrawn_pending : (s.setDrawn x).pending = s.pending := rfl
@[simp] theorem setDrawn_drawn : (s.setDrawn x).drawn = x := rfl
@[simp] theorem setDrawn_pins : (s.setDrawn x).pins = s.pins := rfl
@[simp] theorem setDrawn_port : (s.setDrawn x).port = s.port := rfl
@[simp] theorem setDrawn_params : (s.setDrawn x).params = s.params := rfl
@[simp] theorem setDrawn_out : (s.setDrawn x).out = s.out := rfl
@[simp] theorem setDrawn_inb : (s.setDrawn x).inb = s.inb := rfl
@[simp] theorem setDrawn_rq : (s.setDrawn x).rq = s.rq := rfl
@[simp] theorem setDrawn_cu : (s.setDrawn x).cu = s.cu := rfl
@[simp] theorem setDrawn_mp : (s.setDrawn x).mp = s.mp := rfl
@[simp] theorem setDrawn_da : (s.setDrawn x).da = s.da := rfl
@[simp] theorem setDrawn_lc : (s.setDrawn x).lc = s.lc := rfl
@[simp] theorem setDrawn_lanes : (s.setDrawn x).lanes = s.lanes := rfl
@[simp] theorem setDrawn_ts : (s.setDrawn x).ts = s.ts := rfl
@[simp] theorem setDrawn_rc : (s.setDrawn x).rc = s.rc := rfl
@[simp] theorem setDrawn_au : (s.setDrawn x).au = s.au := rfl
@[simp] theorem setDrawn_dm : (s.setDrawn x).dm = s.dm := rfl
@[simp] theorem setDrawn_re : (s.setDrawn x).re = s.re := rfl
@[simp] theorem setDrawn_fu : (s.setDrawn x).fu = s.fu := rfl
@[simp] theorem setDrawn_al : (s.setDrawn x).al = s.al := rfl
@[simp] theorem setDrawn_counters : (s.setDrawn x).counters = s.counters := rfl
@[simp] theorem setDrawn_setDrawn (y : Nat) : (s.setDrawn y).setDrawn x = s.setDrawn x := rfl
end Drawn

section Pins
variable (x : Pins)
@[simp] theorem setPins_pending : (s.setPins x).pending = s.pending := rfl
@[simp] theorem setPins_drawn : (s.setPins x).drawn = s.drawn := rfl
@[simp] theorem setPins_pins : (s.setPins x).pins = x := rfl
@[simp] theorem setPins_port : (s.setPins x).port = s.port := rfl
@[simp] theorem setPins_params : (s.setPins x).params = s.params := rfl
@[simp] theorem setPins_out : (s.setPins x).out = s.out := rfl
@[simp] theorem setPins_inb : (s.setPins x).inb = s.inb := rfl
@[simp] theorem setPins_rq : (s.setPins x).rq = s.rq := rfl
@[simp] theorem setPins_cu : (s.setPins x).cu = s.cu := rfl
@[simp] theorem setPins_mp : (s.setPins x).mp = s.mp := rfl
@[simp] theorem setPins_da : (s.setPins x).da = s.da := rfl
@[simp] theorem setPins_lc : (s.setPins x).lc = s.lc := rfl
@[simp] theorem setPins_lanes : (s.setPins x).lanes = s.lanes := rfl
@[simp] theorem setPins_ts : (s.setPins x).ts = s.ts := rfl
@[simp] theorem setPins_rc : (s.setPins x).rc = s.rc := rfl
@[simp] theorem setPins_au : (s.setPins x).au = s.au := rfl
@[simp] theorem setPins_dm : (s.setPins x).dm = s.dm := rfl
@[simp] theorem setPins_re : (s.setPins x).re = s.re := rfl
@[simp] theorem setPins_fu : (s.setPins x).fu = s.fu := rfl
@[simp] theorem setPins_al : (s.setPins x).al = s.al := rfl
@[simp] theorem setPins_counters : (s.setPins x).counters = s.counters := rfl
@[simp] theorem setPins_setPins (y : Pins) : (s.setPins y).setPins x = s.setPins x := rfl
end Pins

section Port
variable (x : Port)
@[simp] theorem setPort_pending : (s.setPort x).pending = s.pending := rfl
@[simp] theorem setPort_drawn : (s.setPort x).drawn = s.drawn := rfl
@[simp] theorem setPort_pins : (s.setPort x).pins = s.pins := rfl
@[simp] theorem setPort_port : (s.setPort x).port = x := rfl
@[simp] theorem setPort_params : (s.setPort x).params = s.params := rfl
@[simp] theorem setPort_out : (s.setPort x).out = s.out := rfl
@[simp] theorem setPort_inb : (s.setPort x).inb = s.inb := rfl
@[simp] theorem setPort_rq : (s.setPort x).rq = s.rq := rfl
@[simp] theorem setPort_cu : (s.setPort x).cu = s.cu := rfl
@[simp] theorem setPort_mp : (s.setPort x).mp = s.mp := rfl
@[simp] theorem setPort_da : (s.setPort x).da = s.da := rfl
@[simp] theorem setPort_lc : (s.setPort x).lc = s.lc := rfl
@[simp] theorem setPort_lanes : (s.setPort x).lanes = s.lanes := rfl
@[simp] theorem setPort_ts : (s.setPort x).ts = s.ts := rfl
@[simp] theorem setPort_rc : (s.setPort x).rc = s.rc := rfl
@[simp] theorem setPort_au : (s.setPort x).au = s.au := rfl
@[simp] theorem setPort_dm : (s.setPort x).dm = s.dm := rfl
@[simp] theorem setPort_re : (s.setPort x).re = s.re := rfl
@[simp] theorem setPort_fu : (s.setPort x).fu = s.fu := rfl
@[simp] theorem setPort_al : (s.setPort x).al = s.al := rfl
@[simp] theorem setPort_counters : (s.setPort x).counters = s.counters := rfl
@[simp] theorem setPort_setPort (y : Port) : (s.setPort y).setPort x = s.setPort x := rfl
end Port

section Params
variable (x : Params)
@[simp] theorem setParams_pending : (s.setParams x).pending = s.pending := rfl
@[simp] theorem setParams_drawn : (s.setParams x).drawn = s.drawn := rfl
@[simp] theorem setParams_pins : (s.setParams x).pins = s.pins := rfl
@[simp] theorem setParams_port : (s.setParams x).port = s.port := rfl
@[simp] theorem setParams_params : (s.setParams x).params = x := rfl
@[simp] theorem setParams_out : (s.setParams x).out = s.out := rfl
@[simp] theorem setParams_inb : (s.setParams x).inb = s.inb := rfl
@[simp] theorem setParams_rq : (s.setParams x).rq = s.rq := rfl
@[simp] theorem setParams_cu : (s.setParams x).cu = s.cu := rfl
@[simp] theorem setParams_mp : (s.setParams x).mp = s.mp := rfl
@[simp] theorem setParams_da : (s.setParams x).da = s.da := rfl
@[simp] theorem setParams_lc : (s.setParams x).lc = s.lc := rfl
@[simp] theorem setParams_lanes : (s.setParams x).lanes = s.lanes := rfl
@[simp] theorem setParams_ts : (s.setParams x).ts = s.ts := rfl
@[simp] theorem setParams_rc : (s.setParams x).rc = s.rc := rfl
@[simp] theorem setParams_au : (s.setParams x).au = s.au := rfl
@[simp] theorem setParams_dm : (s.setParams x).dm = s.dm := rfl
@[simp] theorem setParams_re : (s.setParams x).re = s.re := rfl
@[simp] theorem setParams_fu : (s.setParams x).fu = s.fu := rfl
@[simp] theorem setParams_al : (s.setParams x).al = s.al := rfl
@[simp] theorem setParams_counters : (s.setParams x).counters = s.counters := rfl
@[simp] theorem setParams_setParams (y : Params) : (s.setParams y).setParams x = s.setParams x := rfl
end Params

section Out
variable (x : Vector OutWindow 8)
@[simp] theorem setOut_pending : (s.setOut x).pending = s.pending := rfl
@[simp] theorem setOut_drawn : (s.setOut x).drawn = s.drawn := rfl
@[simp] theorem setOut_pins : (s.setOut x).pins = s.pins := rfl
@[simp] theorem setOut_port : (s.setOut x).port = s.port := rfl
@[simp] theorem setOut_params : (s.setOut x).params = s.params := rfl
@[simp] theorem setOut_out : (s.setOut x).out = x := rfl
@[simp] theorem setOut_inb : (s.setOut x).inb = s.inb := rfl
@[simp] theorem setOut_rq : (s.setOut x).rq = s.rq := rfl
@[simp] theorem setOut_cu : (s.setOut x).cu = s.cu := rfl
@[simp] theorem setOut_mp : (s.setOut x).mp = s.mp := rfl
@[simp] theorem setOut_da : (s.setOut x).da = s.da := rfl
@[simp] theorem setOut_lc : (s.setOut x).lc = s.lc := rfl
@[simp] theorem setOut_lanes : (s.setOut x).lanes = s.lanes := rfl
@[simp] theorem setOut_ts : (s.setOut x).ts = s.ts := rfl
@[simp] theorem setOut_rc : (s.setOut x).rc = s.rc := rfl
@[simp] theorem setOut_au : (s.setOut x).au = s.au := rfl
@[simp] theorem setOut_dm : (s.setOut x).dm = s.dm := rfl
@[simp] theorem setOut_re : (s.setOut x).re = s.re := rfl
@[simp] theorem setOut_fu : (s.setOut x).fu = s.fu := rfl
@[simp] theorem setOut_al : (s.setOut x).al = s.al := rfl
@[simp] theorem setOut_counters : (s.setOut x).counters = s.counters := rfl
@[simp] theorem setOut_setOut (y : Vector OutWindow 8) : (s.setOut y).setOut x = s.setOut x := rfl
end Out

section Inb
variable (x : Vector InWindow 8)
@[simp] theorem setInb_pending : (s.setInb x).pending = s.pending := rfl
@[simp] theorem setInb_drawn : (s.setInb x).drawn = s.drawn := rfl
@[simp] theorem setInb_pins : (s.setInb x).pins = s.pins := rfl
@[simp] theorem setInb_port : (s.setInb x).port = s.port := rfl
@[simp] theorem setInb_params : (s.setInb x).params = s.params := rfl
@[simp] theorem setInb_out : (s.setInb x).out = s.out := rfl
@[simp] theorem setInb_inb : (s.setInb x).inb = x := rfl
@[simp] theorem setInb_rq : (s.setInb x).rq = s.rq := rfl
@[simp] theorem setInb_cu : (s.setInb x).cu = s.cu := rfl
@[simp] theorem setInb_mp : (s.setInb x).mp = s.mp := rfl
@[simp] theorem setInb_da : (s.setInb x).da = s.da := rfl
@[simp] theorem setInb_lc : (s.setInb x).lc = s.lc := rfl
@[simp] theorem setInb_lanes : (s.setInb x).lanes = s.lanes := rfl
@[simp] theorem setInb_ts : (s.setInb x).ts = s.ts := rfl
@[simp] theorem setInb_rc : (s.setInb x).rc = s.rc := rfl
@[simp] theorem setInb_au : (s.setInb x).au = s.au := rfl
@[simp] theorem setInb_dm : (s.setInb x).dm = s.dm := rfl
@[simp] theorem setInb_re : (s.setInb x).re = s.re := rfl
@[simp] theorem setInb_fu : (s.setInb x).fu = s.fu := rfl
@[simp] theorem setInb_al : (s.setInb x).al = s.al := rfl
@[simp] theorem setInb_counters : (s.setInb x).counters = s.counters := rfl
@[simp] theorem setInb_setInb (y : Vector InWindow 8) : (s.setInb y).setInb x = s.setInb x := rfl
end Inb

section Rq
variable (x : ReplayQueue)
@[simp] theorem setRq_pending : (s.setRq x).pending = s.pending := rfl
@[simp] theorem setRq_drawn : (s.setRq x).drawn = s.drawn := rfl
@[simp] theorem setRq_pins : (s.setRq x).pins = s.pins := rfl
@[simp] theorem setRq_port : (s.setRq x).port = s.port := rfl
@[simp] theorem setRq_params : (s.setRq x).params = s.params := rfl
@[simp] theorem setRq_out : (s.setRq x).out = s.out := rfl
@[simp] theorem setRq_inb : (s.setRq x).inb = s.inb := rfl
@[simp] theorem setRq_rq : (s.setRq x).rq = x := rfl
@[simp] theorem setRq_cu : (s.setRq x).cu = s.cu := rfl
@[simp] theorem setRq_mp : (s.setRq x).mp = s.mp := rfl
@[simp] theorem setRq_da : (s.setRq x).da = s.da := rfl
@[simp] theorem setRq_lc : (s.setRq x).lc = s.lc := rfl
@[simp] theorem setRq_lanes : (s.setRq x).lanes = s.lanes := rfl
@[simp] theorem setRq_ts : (s.setRq x).ts = s.ts := rfl
@[simp] theorem setRq_rc : (s.setRq x).rc = s.rc := rfl
@[simp] theorem setRq_au : (s.setRq x).au = s.au := rfl
@[simp] theorem setRq_dm : (s.setRq x).dm = s.dm := rfl
@[simp] theorem setRq_re : (s.setRq x).re = s.re := rfl
@[simp] theorem setRq_fu : (s.setRq x).fu = s.fu := rfl
@[simp] theorem setRq_al : (s.setRq x).al = s.al := rfl
@[simp] theorem setRq_counters : (s.setRq x).counters = s.counters := rfl
@[simp] theorem setRq_setRq (y : ReplayQueue) : (s.setRq y).setRq x = s.setRq x := rfl
end Rq

section Cu
variable (x : Option Capture)
@[simp] theorem setCu_pending : (s.setCu x).pending = s.pending := rfl
@[simp] theorem setCu_drawn : (s.setCu x).drawn = s.drawn := rfl
@[simp] theorem setCu_pins : (s.setCu x).pins = s.pins := rfl
@[simp] theorem setCu_port : (s.setCu x).port = s.port := rfl
@[simp] theorem setCu_params : (s.setCu x).params = s.params := rfl
@[simp] theorem setCu_out : (s.setCu x).out = s.out := rfl
@[simp] theorem setCu_inb : (s.setCu x).inb = s.inb := rfl
@[simp] theorem setCu_rq : (s.setCu x).rq = s.rq := rfl
@[simp] theorem setCu_cu : (s.setCu x).cu = x := rfl
@[simp] theorem setCu_mp : (s.setCu x).mp = s.mp := rfl
@[simp] theorem setCu_da : (s.setCu x).da = s.da := rfl
@[simp] theorem setCu_lc : (s.setCu x).lc = s.lc := rfl
@[simp] theorem setCu_lanes : (s.setCu x).lanes = s.lanes := rfl
@[simp] theorem setCu_ts : (s.setCu x).ts = s.ts := rfl
@[simp] theorem setCu_rc : (s.setCu x).rc = s.rc := rfl
@[simp] theorem setCu_au : (s.setCu x).au = s.au := rfl
@[simp] theorem setCu_dm : (s.setCu x).dm = s.dm := rfl
@[simp] theorem setCu_re : (s.setCu x).re = s.re := rfl
@[simp] theorem setCu_fu : (s.setCu x).fu = s.fu := rfl
@[simp] theorem setCu_al : (s.setCu x).al = s.al := rfl
@[simp] theorem setCu_counters : (s.setCu x).counters = s.counters := rfl
@[simp] theorem setCu_setCu (y : Option Capture) : (s.setCu y).setCu x = s.setCu x := rfl
end Cu

section Mp
variable (x : MemoryPath)
@[simp] theorem setMp_pending : (s.setMp x).pending = s.pending := rfl
@[simp] theorem setMp_drawn : (s.setMp x).drawn = s.drawn := rfl
@[simp] theorem setMp_pins : (s.setMp x).pins = s.pins := rfl
@[simp] theorem setMp_port : (s.setMp x).port = s.port := rfl
@[simp] theorem setMp_params : (s.setMp x).params = s.params := rfl
@[simp] theorem setMp_out : (s.setMp x).out = s.out := rfl
@[simp] theorem setMp_inb : (s.setMp x).inb = s.inb := rfl
@[simp] theorem setMp_rq : (s.setMp x).rq = s.rq := rfl
@[simp] theorem setMp_cu : (s.setMp x).cu = s.cu := rfl
@[simp] theorem setMp_mp : (s.setMp x).mp = x := rfl
@[simp] theorem setMp_da : (s.setMp x).da = s.da := rfl
@[simp] theorem setMp_lc : (s.setMp x).lc = s.lc := rfl
@[simp] theorem setMp_lanes : (s.setMp x).lanes = s.lanes := rfl
@[simp] theorem setMp_ts : (s.setMp x).ts = s.ts := rfl
@[simp] theorem setMp_rc : (s.setMp x).rc = s.rc := rfl
@[simp] theorem setMp_au : (s.setMp x).au = s.au := rfl
@[simp] theorem setMp_dm : (s.setMp x).dm = s.dm := rfl
@[simp] theorem setMp_re : (s.setMp x).re = s.re := rfl
@[simp] theorem setMp_fu : (s.setMp x).fu = s.fu := rfl
@[simp] theorem setMp_al : (s.setMp x).al = s.al := rfl
@[simp] theorem setMp_counters : (s.setMp x).counters = s.counters := rfl
@[simp] theorem setMp_setMp (y : MemoryPath) : (s.setMp y).setMp x = s.setMp x := rfl
end Mp

section Da
variable (x : Arbiter)
@[simp] theorem setDa_pending : (s.setDa x).pending = s.pending := rfl
@[simp] theorem setDa_drawn : (s.setDa x).drawn = s.drawn := rfl
@[simp] theorem setDa_pins : (s.setDa x).pins = s.pins := rfl
@[simp] theorem setDa_port : (s.setDa x).port = s.port := rfl
@[simp] theorem setDa_params : (s.setDa x).params = s.params := rfl
@[simp] theorem setDa_out : (s.setDa x).out = s.out := rfl
@[simp] theorem setDa_inb : (s.setDa x).inb = s.inb := rfl
@[simp] theorem setDa_rq : (s.setDa x).rq = s.rq := rfl
@[simp] theorem setDa_cu : (s.setDa x).cu = s.cu := rfl
@[simp] theorem setDa_mp : (s.setDa x).mp = s.mp := rfl
@[simp] theorem setDa_da : (s.setDa x).da = x := rfl
@[simp] theorem setDa_lc : (s.setDa x).lc = s.lc := rfl
@[simp] theorem setDa_lanes : (s.setDa x).lanes = s.lanes := rfl
@[simp] theorem setDa_ts : (s.setDa x).ts = s.ts := rfl
@[simp] theorem setDa_rc : (s.setDa x).rc = s.rc := rfl
@[simp] theorem setDa_au : (s.setDa x).au = s.au := rfl
@[simp] theorem setDa_dm : (s.setDa x).dm = s.dm := rfl
@[simp] theorem setDa_re : (s.setDa x).re = s.re := rfl
@[simp] theorem setDa_fu : (s.setDa x).fu = s.fu := rfl
@[simp] theorem setDa_al : (s.setDa x).al = s.al := rfl
@[simp] theorem setDa_counters : (s.setDa x).counters = s.counters := rfl
@[simp] theorem setDa_setDa (y : Arbiter) : (s.setDa y).setDa x = s.setDa x := rfl
end Da

section Lc
variable (x : LinkController)
@[simp] theorem setLc_pending : (s.setLc x).pending = s.pending := rfl
@[simp] theorem setLc_drawn : (s.setLc x).drawn = s.drawn := rfl
@[simp] theorem setLc_pins : (s.setLc x).pins = s.pins := rfl
@[simp] theorem setLc_port : (s.setLc x).port = s.port := rfl
@[simp] theorem setLc_params : (s.setLc x).params = s.params := rfl
@[simp] theorem setLc_out : (s.setLc x).out = s.out := rfl
@[simp] theorem setLc_inb : (s.setLc x).inb = s.inb := rfl
@[simp] theorem setLc_rq : (s.setLc x).rq = s.rq := rfl
@[simp] theorem setLc_cu : (s.setLc x).cu = s.cu := rfl
@[simp] theorem setLc_mp : (s.setLc x).mp = s.mp := rfl
@[simp] theorem setLc_da : (s.setLc x).da = s.da := rfl
@[simp] theorem setLc_lc : (s.setLc x).lc = x := rfl
@[simp] theorem setLc_lanes : (s.setLc x).lanes = s.lanes := rfl
@[simp] theorem setLc_ts : (s.setLc x).ts = s.ts := rfl
@[simp] theorem setLc_rc : (s.setLc x).rc = s.rc := rfl
@[simp] theorem setLc_au : (s.setLc x).au = s.au := rfl
@[simp] theorem setLc_dm : (s.setLc x).dm = s.dm := rfl
@[simp] theorem setLc_re : (s.setLc x).re = s.re := rfl
@[simp] theorem setLc_fu : (s.setLc x).fu = s.fu := rfl
@[simp] theorem setLc_al : (s.setLc x).al = s.al := rfl
@[simp] theorem setLc_counters : (s.setLc x).counters = s.counters := rfl
@[simp] theorem setLc_setLc (y : LinkController) : (s.setLc y).setLc x = s.setLc x := rfl
end Lc

section Lanes
variable (x : Lanes)
@[simp] theorem setLanes_pending : (s.setLanes x).pending = s.pending := rfl
@[simp] theorem setLanes_drawn : (s.setLanes x).drawn = s.drawn := rfl
@[simp] theorem setLanes_pins : (s.setLanes x).pins = s.pins := rfl
@[simp] theorem setLanes_port : (s.setLanes x).port = s.port := rfl
@[simp] theorem setLanes_params : (s.setLanes x).params = s.params := rfl
@[simp] theorem setLanes_out : (s.setLanes x).out = s.out := rfl
@[simp] theorem setLanes_inb : (s.setLanes x).inb = s.inb := rfl
@[simp] theorem setLanes_rq : (s.setLanes x).rq = s.rq := rfl
@[simp] theorem setLanes_cu : (s.setLanes x).cu = s.cu := rfl
@[simp] theorem setLanes_mp : (s.setLanes x).mp = s.mp := rfl
@[simp] theorem setLanes_da : (s.setLanes x).da = s.da := rfl
@[simp] theorem setLanes_lc : (s.setLanes x).lc = s.lc := rfl
@[simp] theorem setLanes_lanes : (s.setLanes x).lanes = x := rfl
@[simp] theorem setLanes_ts : (s.setLanes x).ts = s.ts := rfl
@[simp] theorem setLanes_rc : (s.setLanes x).rc = s.rc := rfl
@[simp] theorem setLanes_au : (s.setLanes x).au = s.au := rfl
@[simp] theorem setLanes_dm : (s.setLanes x).dm = s.dm := rfl
@[simp] theorem setLanes_re : (s.setLanes x).re = s.re := rfl
@[simp] theorem setLanes_fu : (s.setLanes x).fu = s.fu := rfl
@[simp] theorem setLanes_al : (s.setLanes x).al = s.al := rfl
@[simp] theorem setLanes_counters : (s.setLanes x).counters = s.counters := rfl
@[simp] theorem setLanes_setLanes (y : Lanes) : (s.setLanes y).setLanes x = s.setLanes x := rfl
end Lanes

section Ts
variable (x : Scheduler)
@[simp] theorem setTs_pending : (s.setTs x).pending = s.pending := rfl
@[simp] theorem setTs_drawn : (s.setTs x).drawn = s.drawn := rfl
@[simp] theorem setTs_pins : (s.setTs x).pins = s.pins := rfl
@[simp] theorem setTs_port : (s.setTs x).port = s.port := rfl
@[simp] theorem setTs_params : (s.setTs x).params = s.params := rfl
@[simp] theorem setTs_out : (s.setTs x).out = s.out := rfl
@[simp] theorem setTs_inb : (s.setTs x).inb = s.inb := rfl
@[simp] theorem setTs_rq : (s.setTs x).rq = s.rq := rfl
@[simp] theorem setTs_cu : (s.setTs x).cu = s.cu := rfl
@[simp] theorem setTs_mp : (s.setTs x).mp = s.mp := rfl
@[simp] theorem setTs_da : (s.setTs x).da = s.da := rfl
@[simp] theorem setTs_lc : (s.setTs x).lc = s.lc := rfl
@[simp] theorem setTs_lanes : (s.setTs x).lanes = s.lanes := rfl
@[simp] theorem setTs_ts : (s.setTs x).ts = x := rfl
@[simp] theorem setTs_rc : (s.setTs x).rc = s.rc := rfl
@[simp] theorem setTs_au : (s.setTs x).au = s.au := rfl
@[simp] theorem setTs_dm : (s.setTs x).dm = s.dm := rfl
@[simp] theorem setTs_re : (s.setTs x).re = s.re := rfl
@[simp] theorem setTs_fu : (s.setTs x).fu = s.fu := rfl
@[simp] theorem setTs_al : (s.setTs x).al = s.al := rfl
@[simp] theorem setTs_counters : (s.setTs x).counters = s.counters := rfl
@[simp] theorem setTs_setTs (y : Scheduler) : (s.setTs y).setTs x = s.setTs x := rfl
end Ts

section Rc
variable (x : Checker)
@[simp] theorem setRc_pending : (s.setRc x).pending = s.pending := rfl
@[simp] theorem setRc_drawn : (s.setRc x).drawn = s.drawn := rfl
@[simp] theorem setRc_pins : (s.setRc x).pins = s.pins := rfl
@[simp] theorem setRc_port : (s.setRc x).port = s.port := rfl
@[simp] theorem setRc_params : (s.setRc x).params = s.params := rfl
@[simp] theorem setRc_out : (s.setRc x).out = s.out := rfl
@[simp] theorem setRc_inb : (s.setRc x).inb = s.inb := rfl
@[simp] theorem setRc_rq : (s.setRc x).rq = s.rq := rfl
@[simp] theorem setRc_cu : (s.setRc x).cu = s.cu := rfl
@[simp] theorem setRc_mp : (s.setRc x).mp = s.mp := rfl
@[simp] theorem setRc_da : (s.setRc x).da = s.da := rfl
@[simp] theorem setRc_lc : (s.setRc x).lc = s.lc := rfl
@[simp] theorem setRc_lanes : (s.setRc x).lanes = s.lanes := rfl
@[simp] theorem setRc_ts : (s.setRc x).ts = s.ts := rfl
@[simp] theorem setRc_rc : (s.setRc x).rc = x := rfl
@[simp] theorem setRc_au : (s.setRc x).au = s.au := rfl
@[simp] theorem setRc_dm : (s.setRc x).dm = s.dm := rfl
@[simp] theorem setRc_re : (s.setRc x).re = s.re := rfl
@[simp] theorem setRc_fu : (s.setRc x).fu = s.fu := rfl
@[simp] theorem setRc_al : (s.setRc x).al = s.al := rfl
@[simp] theorem setRc_counters : (s.setRc x).counters = s.counters := rfl
@[simp] theorem setRc_setRc (y : Checker) : (s.setRc y).setRc x = s.setRc x := rfl
end Rc

section Au
variable (x : ApplyUnit)
@[simp] theorem setAu_pending : (s.setAu x).pending = s.pending := rfl
@[simp] theorem setAu_drawn : (s.setAu x).drawn = s.drawn := rfl
@[simp] theorem setAu_pins : (s.setAu x).pins = s.pins := rfl
@[simp] theorem setAu_port : (s.setAu x).port = s.port := rfl
@[simp] theorem setAu_params : (s.setAu x).params = s.params := rfl
@[simp] theorem setAu_out : (s.setAu x).out = s.out := rfl
@[simp] theorem setAu_inb : (s.setAu x).inb = s.inb := rfl
@[simp] theorem setAu_rq : (s.setAu x).rq = s.rq := rfl
@[simp] theorem setAu_cu : (s.setAu x).cu = s.cu := rfl
@[simp] theorem setAu_mp : (s.setAu x).mp = s.mp := rfl
@[simp] theorem setAu_da : (s.setAu x).da = s.da := rfl
@[simp] theorem setAu_lc : (s.setAu x).lc = s.lc := rfl
@[simp] theorem setAu_lanes : (s.setAu x).lanes = s.lanes := rfl
@[simp] theorem setAu_ts : (s.setAu x).ts = s.ts := rfl
@[simp] theorem setAu_rc : (s.setAu x).rc = s.rc := rfl
@[simp] theorem setAu_au : (s.setAu x).au = x := rfl
@[simp] theorem setAu_dm : (s.setAu x).dm = s.dm := rfl
@[simp] theorem setAu_re : (s.setAu x).re = s.re := rfl
@[simp] theorem setAu_fu : (s.setAu x).fu = s.fu := rfl
@[simp] theorem setAu_al : (s.setAu x).al = s.al := rfl
@[simp] theorem setAu_counters : (s.setAu x).counters = s.counters := rfl
@[simp] theorem setAu_setAu (y : ApplyUnit) : (s.setAu y).setAu x = s.setAu x := rfl
end Au

section Dm
variable (x : BitVec 4096)
@[simp] theorem setDm_pending : (s.setDm x).pending = s.pending := rfl
@[simp] theorem setDm_drawn : (s.setDm x).drawn = s.drawn := rfl
@[simp] theorem setDm_pins : (s.setDm x).pins = s.pins := rfl
@[simp] theorem setDm_port : (s.setDm x).port = s.port := rfl
@[simp] theorem setDm_params : (s.setDm x).params = s.params := rfl
@[simp] theorem setDm_out : (s.setDm x).out = s.out := rfl
@[simp] theorem setDm_inb : (s.setDm x).inb = s.inb := rfl
@[simp] theorem setDm_rq : (s.setDm x).rq = s.rq := rfl
@[simp] theorem setDm_cu : (s.setDm x).cu = s.cu := rfl
@[simp] theorem setDm_mp : (s.setDm x).mp = s.mp := rfl
@[simp] theorem setDm_da : (s.setDm x).da = s.da := rfl
@[simp] theorem setDm_lc : (s.setDm x).lc = s.lc := rfl
@[simp] theorem setDm_lanes : (s.setDm x).lanes = s.lanes := rfl
@[simp] theorem setDm_ts : (s.setDm x).ts = s.ts := rfl
@[simp] theorem setDm_rc : (s.setDm x).rc = s.rc := rfl
@[simp] theorem setDm_au : (s.setDm x).au = s.au := rfl
@[simp] theorem setDm_dm : (s.setDm x).dm = x := rfl
@[simp] theorem setDm_re : (s.setDm x).re = s.re := rfl
@[simp] theorem setDm_fu : (s.setDm x).fu = s.fu := rfl
@[simp] theorem setDm_al : (s.setDm x).al = s.al := rfl
@[simp] theorem setDm_counters : (s.setDm x).counters = s.counters := rfl
@[simp] theorem setDm_setDm (y : BitVec 4096) : (s.setDm y).setDm x = s.setDm x := rfl
end Dm

section Re
variable (x : ResyncEngine)
@[simp] theorem setRe_pending : (s.setRe x).pending = s.pending := rfl
@[simp] theorem setRe_drawn : (s.setRe x).drawn = s.drawn := rfl
@[simp] theorem setRe_pins : (s.setRe x).pins = s.pins := rfl
@[simp] theorem setRe_port : (s.setRe x).port = s.port := rfl
@[simp] theorem setRe_params : (s.setRe x).params = s.params := rfl
@[simp] theorem setRe_out : (s.setRe x).out = s.out := rfl
@[simp] theorem setRe_inb : (s.setRe x).inb = s.inb := rfl
@[simp] theorem setRe_rq : (s.setRe x).rq = s.rq := rfl
@[simp] theorem setRe_cu : (s.setRe x).cu = s.cu := rfl
@[simp] theorem setRe_mp : (s.setRe x).mp = s.mp := rfl
@[simp] theorem setRe_da : (s.setRe x).da = s.da := rfl
@[simp] theorem setRe_lc : (s.setRe x).lc = s.lc := rfl
@[simp] theorem setRe_lanes : (s.setRe x).lanes = s.lanes := rfl
@[simp] theorem setRe_ts : (s.setRe x).ts = s.ts := rfl
@[simp] theorem setRe_rc : (s.setRe x).rc = s.rc := rfl
@[simp] theorem setRe_au : (s.setRe x).au = s.au := rfl
@[simp] theorem setRe_dm : (s.setRe x).dm = s.dm := rfl
@[simp] theorem setRe_re : (s.setRe x).re = x := rfl
@[simp] theorem setRe_fu : (s.setRe x).fu = s.fu := rfl
@[simp] theorem setRe_al : (s.setRe x).al = s.al := rfl
@[simp] theorem setRe_counters : (s.setRe x).counters = s.counters := rfl
@[simp] theorem setRe_setRe (y : ResyncEngine) : (s.setRe y).setRe x = s.setRe x := rfl
end Re

section Fu
variable (x : FenceUnit)
@[simp] theorem setFu_pending : (s.setFu x).pending = s.pending := rfl
@[simp] theorem setFu_drawn : (s.setFu x).drawn = s.drawn := rfl
@[simp] theorem setFu_pins : (s.setFu x).pins = s.pins := rfl
@[simp] theorem setFu_port : (s.setFu x).port = s.port := rfl
@[simp] theorem setFu_params : (s.setFu x).params = s.params := rfl
@[simp] theorem setFu_out : (s.setFu x).out = s.out := rfl
@[simp] theorem setFu_inb : (s.setFu x).inb = s.inb := rfl
@[simp] theorem setFu_rq : (s.setFu x).rq = s.rq := rfl
@[simp] theorem setFu_cu : (s.setFu x).cu = s.cu := rfl
@[simp] theorem setFu_mp : (s.setFu x).mp = s.mp := rfl
@[simp] theorem setFu_da : (s.setFu x).da = s.da := rfl
@[simp] theorem setFu_lc : (s.setFu x).lc = s.lc := rfl
@[simp] theorem setFu_lanes : (s.setFu x).lanes = s.lanes := rfl
@[simp] theorem setFu_ts : (s.setFu x).ts = s.ts := rfl
@[simp] theorem setFu_rc : (s.setFu x).rc = s.rc := rfl
@[simp] theorem setFu_au : (s.setFu x).au = s.au := rfl
@[simp] theorem setFu_dm : (s.setFu x).dm = s.dm := rfl
@[simp] theorem setFu_re : (s.setFu x).re = s.re := rfl
@[simp] theorem setFu_fu : (s.setFu x).fu = x := rfl
@[simp] theorem setFu_al : (s.setFu x).al = s.al := rfl
@[simp] theorem setFu_counters : (s.setFu x).counters = s.counters := rfl
@[simp] theorem setFu_setFu (y : FenceUnit) : (s.setFu y).setFu x = s.setFu x := rfl
end Fu

section Al
variable (x : AlertUnit)
@[simp] theorem setAl_pending : (s.setAl x).pending = s.pending := rfl
@[simp] theorem setAl_drawn : (s.setAl x).drawn = s.drawn := rfl
@[simp] theorem setAl_pins : (s.setAl x).pins = s.pins := rfl
@[simp] theorem setAl_port : (s.setAl x).port = s.port := rfl
@[simp] theorem setAl_params : (s.setAl x).params = s.params := rfl
@[simp] theorem setAl_out : (s.setAl x).out = s.out := rfl
@[simp] theorem setAl_inb : (s.setAl x).inb = s.inb := rfl
@[simp] theorem setAl_rq : (s.setAl x).rq = s.rq := rfl
@[simp] theorem setAl_cu : (s.setAl x).cu = s.cu := rfl
@[simp] theorem setAl_mp : (s.setAl x).mp = s.mp := rfl
@[simp] theorem setAl_da : (s.setAl x).da = s.da := rfl
@[simp] theorem setAl_lc : (s.setAl x).lc = s.lc := rfl
@[simp] theorem setAl_lanes : (s.setAl x).lanes = s.lanes := rfl
@[simp] theorem setAl_ts : (s.setAl x).ts = s.ts := rfl
@[simp] theorem setAl_rc : (s.setAl x).rc = s.rc := rfl
@[simp] theorem setAl_au : (s.setAl x).au = s.au := rfl
@[simp] theorem setAl_dm : (s.setAl x).dm = s.dm := rfl
@[simp] theorem setAl_re : (s.setAl x).re = s.re := rfl
@[simp] theorem setAl_fu : (s.setAl x).fu = s.fu := rfl
@[simp] theorem setAl_al : (s.setAl x).al = x := rfl
@[simp] theorem setAl_counters : (s.setAl x).counters = s.counters := rfl
@[simp] theorem setAl_setAl (y : AlertUnit) : (s.setAl y).setAl x = s.setAl x := rfl
end Al

section Counters
variable (x : Vector (BitVec 16) 14)
@[simp] theorem setCounters_pending : (s.setCounters x).pending = s.pending := rfl
@[simp] theorem setCounters_drawn : (s.setCounters x).drawn = s.drawn := rfl
@[simp] theorem setCounters_pins : (s.setCounters x).pins = s.pins := rfl
@[simp] theorem setCounters_port : (s.setCounters x).port = s.port := rfl
@[simp] theorem setCounters_params : (s.setCounters x).params = s.params := rfl
@[simp] theorem setCounters_out : (s.setCounters x).out = s.out := rfl
@[simp] theorem setCounters_inb : (s.setCounters x).inb = s.inb := rfl
@[simp] theorem setCounters_rq : (s.setCounters x).rq = s.rq := rfl
@[simp] theorem setCounters_cu : (s.setCounters x).cu = s.cu := rfl
@[simp] theorem setCounters_mp : (s.setCounters x).mp = s.mp := rfl
@[simp] theorem setCounters_da : (s.setCounters x).da = s.da := rfl
@[simp] theorem setCounters_lc : (s.setCounters x).lc = s.lc := rfl
@[simp] theorem setCounters_lanes : (s.setCounters x).lanes = s.lanes := rfl
@[simp] theorem setCounters_ts : (s.setCounters x).ts = s.ts := rfl
@[simp] theorem setCounters_rc : (s.setCounters x).rc = s.rc := rfl
@[simp] theorem setCounters_au : (s.setCounters x).au = s.au := rfl
@[simp] theorem setCounters_dm : (s.setCounters x).dm = s.dm := rfl
@[simp] theorem setCounters_re : (s.setCounters x).re = s.re := rfl
@[simp] theorem setCounters_fu : (s.setCounters x).fu = s.fu := rfl
@[simp] theorem setCounters_al : (s.setCounters x).al = s.al := rfl
@[simp] theorem setCounters_counters : (s.setCounters x).counters = x := rfl
@[simp] theorem setCounters_setCounters (y : Vector (BitVec 16) 14) : (s.setCounters y).setCounters x = s.setCounters x := rfl
end Counters

/-- Two states that agree in every field are equal. -/
theorem ext_fields {s t : State} (h0 : s.pending = t.pending) (h1 : s.drawn = t.drawn) (h2 : s.pins = t.pins) (h3 : s.port = t.port) (h4 : s.params = t.params) (h5 : s.out = t.out) (h6 : s.inb = t.inb)
    (h7 : s.rq = t.rq) (h8 : s.cu = t.cu) (h9 : s.mp = t.mp) (h10 : s.da = t.da) (h11 : s.lc = t.lc) (h12 : s.lanes = t.lanes) (h13 : s.ts = t.ts)
    (h14 : s.rc = t.rc) (h15 : s.au = t.au) (h16 : s.dm = t.dm) (h17 : s.re = t.re) (h18 : s.fu = t.fu) (h19 : s.al = t.al) (h20 : s.counters = t.counters) : s = t := by
  cases s; cases t; simp_all

end Sys2Proof.Machine.State
end

