-- ==== Sys2Proof/Laws/Only.lean ====
section
/-! SUPPORT. Which blocks each shared operation can change. For an operation `op`, `only_op` says that the state after
it agrees with the state before it in every field but the listed ones, so a frame is read off by `simp`. -/

set_option Elab.async false

namespace Sys2Proof.Machine

open StateField

variable {T : List StateField} {s s' : State}

theorem Only.refl (T : List StateField) (s : State) : Only T s s := by
  intro f _; cases f <;> rfl

theorem Only.trans {u : State} (h : Only T s s') (h' : Only T s' u) : Only T s u := by
  intro f outside
  have first := h f outside
  have second := h' f outside
  cases f <;> exact second.trans first

theorem Only.mono {T' : List StateField} (h : Only T s s') (hT : T ⊆ T') : Only T' s s' :=
  fun f hf => h f (fun hm => hf (hT hm))

@[simp] theorem only_setPending {x} (h : pending ∈ T) : Only T s (s'.setPending x) ↔ Only T s s' :=
  forall_congr' fun f => forall_congr' fun hf => by cases f <;> first | rfl | exact absurd h hf
@[simp] theorem only_setDrawn {x} (h : drawn ∈ T) : Only T s (s'.setDrawn x) ↔ Only T s s' :=
  forall_congr' fun f => forall_congr' fun hf => by cases f <;> first | rfl | exact absurd h hf
@[simp] theorem only_setPins {x} (h : pins ∈ T) : Only T s (s'.setPins x) ↔ Only T s s' :=
  forall_congr' fun f => forall_congr' fun hf => by cases f <;> first | rfl | exact absurd h hf
@[simp] theorem only_setPort {x} (h : port ∈ T) : Only T s (s'.setPort x) ↔ Only T s s' :=
  forall_congr' fun f => forall_congr' fun hf => by cases f <;> first | rfl | exact absurd h hf
@[simp] theorem only_setParams {x} (h : params ∈ T) : Only T s (s'.setParams x) ↔ Only T s s' :=
  forall_congr' fun f => forall_congr' fun hf => by cases f <;> first | rfl | exact absurd h hf
@[simp] theorem only_setOut {x} (h : out ∈ T) : Only T s (s'.setOut x) ↔ Only T s s' :=
  forall_congr' fun f => forall_congr' fun hf => by cases f <;> first | rfl | exact absurd h hf
@[simp] theorem only_setInb {x} (h : inb ∈ T) : Only T s (s'.setInb x) ↔ Only T s s' :=
  forall_congr' fun f => forall_congr' fun hf => by cases f <;> first | rfl | exact absurd h hf
@[simp] theorem only_setRq {x} (h : rq ∈ T) : Only T s (s'.setRq x) ↔ Only T s s' :=
  forall_congr' fun f => forall_congr' fun hf => by cases f <;> first | rfl | exact absurd h hf
@[simp] theorem only_setCu {x} (h : cu ∈ T) : Only T s (s'.setCu x) ↔ Only T s s' :=
  forall_congr' fun f => forall_congr' fun hf => by cases f <;> first | rfl | exact absurd h hf
@[simp] theorem only_setMp {x} (h : mp ∈ T) : Only T s (s'.setMp x) ↔ Only T s s' :=
  forall_congr' fun f => forall_congr' fun hf => by cases f <;> first | rfl | exact absurd h hf
@[simp] theorem only_setDa {x} (h : da ∈ T) : Only T s (s'.setDa x) ↔ Only T s s' :=
  forall_congr' fun f => forall_congr' fun hf => by cases f <;> first | rfl | exact absurd h hf
@[simp] theorem only_setLc {x} (h : lc ∈ T) : Only T s (s'.setLc x) ↔ Only T s s' :=
  forall_congr' fun f => forall_congr' fun hf => by cases f <;> first | rfl | exact absurd h hf
@[simp] theorem only_setLanes {x} (h : lanes ∈ T) : Only T s (s'.setLanes x) ↔ Only T s s' :=
  forall_congr' fun f => forall_congr' fun hf => by cases f <;> first | rfl | exact absurd h hf
@[simp] theorem only_setTs {x} (h : ts ∈ T) : Only T s (s'.setTs x) ↔ Only T s s' :=
  forall_congr' fun f => forall_congr' fun hf => by cases f <;> first | rfl | exact absurd h hf
@[simp] theorem only_setRc {x} (h : rc ∈ T) : Only T s (s'.setRc x) ↔ Only T s s' :=
  forall_congr' fun f => forall_congr' fun hf => by cases f <;> first | rfl | exact absurd h hf
@[simp] theorem only_setAu {x} (h : au ∈ T) : Only T s (s'.setAu x) ↔ Only T s s' :=
  forall_congr' fun f => forall_congr' fun hf => by cases f <;> first | rfl | exact absurd h hf
@[simp] theorem only_setDm {x} (h : dm ∈ T) : Only T s (s'.setDm x) ↔ Only T s s' :=
  forall_congr' fun f => forall_congr' fun hf => by cases f <;> first | rfl | exact absurd h hf
@[simp] theorem only_setRe {x} (h : re ∈ T) : Only T s (s'.setRe x) ↔ Only T s s' :=
  forall_congr' fun f => forall_congr' fun hf => by cases f <;> first | rfl | exact absurd h hf
@[simp] theorem only_setFu {x} (h : fu ∈ T) : Only T s (s'.setFu x) ↔ Only T s s' :=
  forall_congr' fun f => forall_congr' fun hf => by cases f <;> first | rfl | exact absurd h hf
@[simp] theorem only_setAl {x} (h : al ∈ T) : Only T s (s'.setAl x) ↔ Only T s s' :=
  forall_congr' fun f => forall_congr' fun hf => by cases f <;> first | rfl | exact absurd h hf
@[simp] theorem only_setCounters {x} (h : counters ∈ T) : Only T s (s'.setCounters x) ↔ Only T s s' :=
  forall_congr' fun f => forall_congr' fun hf => by cases f <;> first | rfl | exact absurd h hf

@[simp] theorem only_ite {c : Prop} [Decidable c] {a b : State} :
    Only T s (if c then a else b) ↔ if c then Only T s a else Only T s b := by split <;> rfl

theorem only_foldl {α : Type} {f : State → α → State} (hf : ∀ t a, Only T s (f t a) ↔ Only T s t) (l : List α) :
    Only T s (l.foldl f s') ↔ Only T s s' :=
  List.foldlRecOn l f (motive := fun t => Only T s t ↔ Only T s s') Iff.rfl fun t same a _ => (hf t a).trans same

@[simp] theorem only_setWin {w x} (h : out ∈ T) : Only T s (s'.setWin w x) ↔ Only T s s' := only_setOut h

@[simp] theorem only_setEntry {i x} (h : inb ∈ T) : Only T s (s'.setEntry i x) ↔ Only T s s' := only_setInb h

@[simp] theorem only_raise {c} (h1 : al ∈ T) :
    Only T s (raise c s') ↔ Only T s s' := by
  unfold raise
  simp [*]

@[simp] theorem only_bump {c} (h1 : counters ∈ T) :
    Only T s (bump c s') ↔ Only T s s' := by
  unfold bump
  simp [*]

@[simp] theorem only_readGranted {c} (h1 : re ∈ T) :
    Only T s (readGranted c s') ↔ Only T s s' := by
  unfold readGranted
  split <;> simp [*]

@[simp] theorem only_grant (h1 : da ∈ T) (h2 : re ∈ T) :
    Only T s (grant s') ↔ Only T s s' := by
  unfold grant
  repeat' split
  all_goals simp [*]

@[simp] theorem only_presentFg {t} (h1 : da ∈ T) (h2 : re ∈ T) :
    Only T s (presentFg t s') ↔ Only T s s' := by
  unfold presentFg
  simp [*]

@[simp] theorem only_presentAp {t} (h1 : da ∈ T) (h2 : re ∈ T) :
    Only T s (presentAp t s') ↔ Only T s s' := by
  unfold presentAp
  simp [*]

@[simp] theorem only_presentCp {t} (h1 : da ∈ T) (h2 : re ∈ T) :
    Only T s (presentCp t s') ↔ Only T s s' := by
  unfold presentCp
  simp [*]

@[simp] theorem only_withdrawCp (h1 : da ∈ T) :
    Only T s (withdrawCp s') ↔ Only T s s' := by
  unfold withdrawCp
  simp [*]

@[simp] theorem only_withdrawAp (h1 : da ∈ T) :
    Only T s (withdrawAp s') ↔ Only T s s' := by
  unfold withdrawAp
  simp [*]

@[simp] theorem only_releasePort (h1 : da ∈ T) (h2 : re ∈ T) :
    Only T s (releasePort s') ↔ Only T s s' := by
  unfold releasePort
  simp [*]

@[simp] theorem only_owe {o} (h1 : lanes ∈ T) :
    Only T s (owe o s') ↔ Only T s s' := by
  unfold owe
  simp [*]

@[simp] theorem only_oweAck (h1 : lanes ∈ T) (h2 : au ∈ T) :
    Only T s (oweAck s') ↔ Only T s s' := by
  unfold oweAck
  simp [*]

@[simp] theorem only_oweNak (h1 : lanes ∈ T) (h2 : rc ∈ T) :
    Only T s (oweNak s') ↔ Only T s s' := by
  unfold oweNak
  simp [*]

@[simp] theorem only_oweHello (h1 : lanes ∈ T) :
    Only T s (oweHello s') ↔ Only T s s' := by
  unfold oweHello
  simp [*]

@[simp] theorem only_applyQueueEmptied (h1 : lanes ∈ T) :
    Only T s (applyQueueEmptied s') ↔ Only T s s' := by
  unfold applyQueueEmptied
  simp [*]

@[simp] theorem only_closeTail (h1 : rq ∈ T) :
    Only T s (closeTail s') ↔ Only T s s' := by
  unfold closeTail
  simp [*]

@[simp] theorem only_append {r} (h1 : rq ∈ T) :
    Only T s (append r s') ↔ Only T s s' := by
  unfold append
  simp [*]

@[simp] theorem only_merge {mask data} (h1 : rq ∈ T) :
    Only T s (merge mask data s') ↔ Only T s s' := by
  unfold merge
  split <;> simp [*]

@[simp] theorem only_removeHead {a} (h1 : rq ∈ T) :
    Only T s (removeHead a s') ↔ Only T s s' := by
  unfold removeHead
  simp [*]

@[simp] theorem only_discardRecords (h1 : rq ∈ T) :
    Only T s (discardRecords s') ↔ Only T s s' := by
  unfold discardRecords
  simp [*]

@[simp] theorem only_degradeFences (h1 : fu ∈ T) :
    Only T s (degradeFences s') ↔ Only T s s' := by
  unfold degradeFences
  simp [*]

@[simp] theorem only_deliver {source ticket done degraded} (h1 : fu ∈ T) (h2 : al ∈ T) :
    Only T s (deliver source ticket done degraded s') ↔ Only T s s' := by
  unfold deliver
  split <;> simp [*]

@[simp] theorem only_issueFence {source} (h1 : rq ∈ T) (h2 : fu ∈ T) (h3 : al ∈ T) :
    Only T s (issueFence source s') ↔ Only T s s' := by
  unfold issueFence
  repeat' split
  all_goals first | with_reducible rfl | (simp [*]; done) | (simp [*]; split <;> simp [*])

@[simp] theorem only_issueWaiting (h1 : rq ∈ T) (h2 : fu ∈ T) (h3 : al ∈ T) :
    Only T s (issueWaiting s') ↔ Only T s s' := by
  unfold issueWaiting
  split <;> simp [*]

@[simp] theorem only_completeFront {f} (h1 : rq ∈ T) (h2 : fu ∈ T) (h3 : al ∈ T) :
    Only T s (completeFront f s') ↔ Only T s s' := by
  unfold completeFront
  simp [*]

@[simp] theorem only_completeRun {a l} (h1 : rq ∈ T) (h2 : fu ∈ T) (h3 : al ∈ T) :
    Only T s (completeRun a l s') ↔ Only T s s' := by
  induction l generalizing s' with
  | nil => rfl
  | cons f l ih => simp [completeRun, ih, h1, h2, h3]

@[simp] theorem only_completeFences {a} (h1 : rq ∈ T) (h2 : fu ∈ T) (h3 : al ∈ T) :
    Only T s (completeFences a s') ↔ Only T s s' := by
  unfold completeFences
  simp [*]

@[simp] theorem only_failAll {list} (h1 : fu ∈ T) (h2 : al ∈ T) :
    Only T s (failAll list s') ↔ Only T s s' := by
  unfold failAll
  simp [*, only_foldl]

@[simp] theorem only_failFences {before} (h1 : drawn ∈ T) (h2 : fu ∈ T) (h3 : al ∈ T) :
    Only T s (failFences before s') ↔ Only T s s' := by
  unfold failFences
  simp [*]

@[simp] theorem only_redirty {w k} (h1 : re ∈ T) :
    Only T s (redirty w k s') ↔ Only T s s' := by
  unfold redirty
  split <;> simp [*]

@[simp] theorem only_markSegment {w k} (h1 : out ∈ T) (h2 : dm ∈ T) (h3 : re ∈ T) :
    Only T s (markSegment w k s') ↔ Only T s s' := by
  unfold markSegment
  simp [*]

@[simp] theorem only_markLine {w line} (h1 : out ∈ T) (h2 : dm ∈ T) (h3 : re ∈ T) :
    Only T s (markLine w line s') ↔ Only T s s' := by
  unfold markLine
  simp [*]

@[simp] theorem only_clearSegment {w k} (h1 : out ∈ T) (h2 : dm ∈ T) :
    Only T s (clearSegment w k s') ↔ Only T s s' := by
  unfold clearSegment
  simp [*]

@[simp] theorem only_abandon (h1 : da ∈ T) (h2 : re ∈ T) :
    Only T s (abandon s') ↔ Only T s s' := by
  unfold abandon
  split <;> simp [*]

@[simp] theorem only_takeSegment {w k} (h1 : out ∈ T) (h2 : re ∈ T) :
    Only T s (takeSegment w k s') ↔ Only T s s' := by
  unfold takeSegment
  simp [*]

@[simp] theorem only_selectSegment (h1 : out ∈ T) (h2 : re ∈ T) :
    Only T s (selectSegment s') ↔ Only T s s' := by
  unfold selectSegment
  repeat' split
  all_goals simp [*]

@[simp] theorem only_startRead (h1 : da ∈ T) (h2 : re ∈ T) :
    Only T s (startRead s') ↔ Only T s s' := by
  unfold startRead
  split <;> simp [*]

@[simp] theorem only_advanceEngine (h1 : out ∈ T) (h2 : da ∈ T) (h3 : re ∈ T) :
    Only T s (advanceEngine s') ↔ Only T s s' := by
  unfold advanceEngine
  simp [*]

@[simp] theorem only_raiseEntry {w old new} (h1 : al ∈ T) :
    Only T s (raiseEntry w old new s') ↔ Only T s s' := by
  unfold raiseEntry
  split <;> simp [*]

@[simp] theorem only_tellEngine {w old new} (h1 : da ∈ T) (h2 : re ∈ T) :
    Only T s (tellEngine w old new s') ↔ Only T s s' := by
  unfold tellEngine
  simp [*]

@[simp] theorem only_enterWindow {w new halt} (h1 : out ∈ T) (h2 : da ∈ T) (h3 : re ∈ T) (h4 : fu ∈ T) (h5 : al
    ∈ T) :
    Only T s (enterWindow w new halt s') ↔ Only T s s' := by
  unfold enterWindow
  simp [*]

@[simp] theorem only_toResync {w} (h1 : out ∈ T) (h2 : da ∈ T) (h3 : re ∈ T) (h4 : fu ∈ T) (h5 : al ∈ T) :
    Only T s (toResync w s') ↔ Only T s s' := by
  unfold toResync
  simp [*]

@[simp] theorem only_captureFailure {w} (h1 : out ∈ T) (h2 : da ∈ T) (h3 : re ∈ T) (h4 : fu ∈ T) (h5 : al ∈ T) :
    Only T s (captureFailure w s') ↔ Only T s s' := by
  unfold captureFailure
  simp [*]

@[simp] theorem only_discardFailure {w} (h1 : out ∈ T) (h2 : da ∈ T) (h3 : re ∈ T) (h4 : fu ∈ T) (h5 : al ∈ T) :
    Only T s (discardFailure w s') ↔ Only T s s' := by
  unfold discardFailure
  simp [*]

@[simp] theorem only_rejectWindow {w reason} (h1 : out ∈ T) (h2 : da ∈ T) (h3 : re ∈ T) (h4 : fu ∈ T) (h5 : al ∈
    T) :
    Only T s (rejectWindow w reason s') ↔ Only T s s' := by
  unfold rejectWindow
  split <;> simp [*]

@[simp] theorem only_endWindow {w} (h1 : out ∈ T) (h2 : da ∈ T) (h3 : re ∈ T) (h4 : fu ∈ T) (h5 : al ∈ T) :
    Only T s (endWindow w s') ↔ Only T s s' := by
  unfold endWindow
  simp [*]

@[simp] theorem only_endWindows (h1 : out ∈ T) (h2 : da ∈ T) (h3 : re ∈ T) (h4 : fu ∈ T) (h5 : al ∈ T) :
    Only T s (endWindows s') ↔ Only T s s' := by
  unfold endWindows
  simp [*, only_foldl]

@[simp] theorem only_discardAll (h1 : out ∈ T) (h2 : rq ∈ T) (h3 : da ∈ T) (h4 : dm ∈ T) (h5 : re ∈ T) (h6 : fu
    ∈ T) (h7 : al ∈ T) :
    Only T s (discardAll s') ↔ Only T s s' := by
  unfold discardAll
  simp [*, only_foldl]

@[simp] theorem only_completeUpstream {r bytes} (h1 : cu ∈ T) (h2 : mp ∈ T) :
    Only T s (completeUpstream r bytes s') ↔ Only T s s' := by
  unfold completeUpstream
  simp [*]

@[simp] theorem only_forward (h1 : da ∈ T) (h2 : re ∈ T) :
    Only T s (forward s') ↔ Only T s s' := by
  unfold forward
  split <;> simp [*]

@[simp] theorem only_slotCheckMirrored {c} (h1 : cu ∈ T) (h2 : da ∈ T) (h3 : re ∈ T) :
    Only T s (slotCheckMirrored c s') ↔ Only T s s' := by
  unfold slotCheckMirrored
  simp [*]

@[simp] theorem only_captureUnrecorded {c} (h1 : cu ∈ T) (h2 : da ∈ T) (h3 : re ∈ T) :
    Only T s (captureUnrecorded c s') ↔ Only T s s' := by
  unfold captureUnrecorded
  simp [*]

@[simp] theorem only_slotCheck {c} (h1 : cu ∈ T) (h2 : da ∈ T) (h3 : re ∈ T) :
    Only T s (slotCheck c s') ↔ Only T s s' := by
  unfold slotCheck
  split <;> simp [*]

@[simp] theorem only_recheckSlot (h1 : cu ∈ T) (h2 : da ∈ T) (h3 : re ∈ T) :
    Only T s (recheckSlot s') ↔ Only T s s' := by
  unfold recheckSlot
  split <;> simp [*]

@[simp] theorem only_settle (h1 : out ∈ T) (h2 : cu ∈ T) (h3 : da ∈ T) (h4 : re ∈ T) :
    Only T s (settle s') ↔ Only T s s' := by
  unfold settle
  simp [*]

@[simp] theorem only_completeMalformed {t} (h1 : drawn ∈ T) (h2 : cu ∈ T) (h3 : mp ∈ T) :
    Only T s (completeMalformed t s') ↔ Only T s s' := by
  unfold completeMalformed
  split <;> simp [*]

@[simp] theorem only_acceptTxn {t} (h1 : drawn ∈ T) (h2 : cu ∈ T) (h3 : mp ∈ T) (h4 : da ∈ T) (h5 : re ∈ T) (h6
    : al ∈ T) (h7 : counters ∈ T) :
    Only T s (acceptTxn t s') ↔ Only T s s' := by
  unfold acceptTxn
  repeat' split
  all_goals simp [*]

@[simp] theorem only_acceptOffer (h1 : drawn ∈ T) (h2 : cu ∈ T) (h3 : mp ∈ T) (h4 : da ∈ T) (h5 : re ∈ T) (h6 :
    al ∈ T) (h7 : counters ∈ T) :
    Only T s (acceptOffer s') ↔ Only T s s' := by
  unfold acceptOffer
  split <;> simp [*]

@[simp] theorem only_reportFinish (h1 : lanes ∈ T) (h2 : au ∈ T) :
    Only T s (reportFinish s') ↔ Only T s s' := by
  unfold reportFinish
  simp [*]

@[simp] theorem only_reportReject {reason} (h1 : lanes ∈ T) (h2 : au ∈ T) (h3 : al ∈ T) (h4 : counters ∈ T) :
    Only T s (reportReject reason s') ↔ Only T s s' := by
  unfold reportReject
  simp [*]

@[simp] theorem only_finishEntry {e} (h1 : lanes ∈ T) (h2 : au ∈ T) (h3 : al ∈ T) (h4 : counters ∈ T) :
    Only T s (finishEntry e s') ↔ Only T s s' := by
  unfold finishEntry
  repeat' split
  all_goals simp [*]

@[simp] theorem only_takeEntries {n} (h1 : da ∈ T) (h2 : lanes ∈ T) (h3 : au ∈ T) (h4 : re ∈ T) (h5 : al ∈ T)
    (h6 : counters ∈ T) : Only T s (takeEntries n s') ↔ Only T s s' := by
  induction n generalizing s' with
  | zero => rfl
  | succ n ih =>
      unfold takeEntries
      repeat' split
      all_goals first | with_reducible rfl | simp [*]

@[simp] theorem only_takeHead (h1 : da ∈ T) (h2 : lanes ∈ T) (h3 : au ∈ T) (h4 : re ∈ T) (h5 : al ∈ T) (h6 :
    counters ∈ T) :
    Only T s (takeHead s') ↔ Only T s s' := by
  unfold takeHead
  simp [*]

@[simp] theorem only_enterTraining (h1 : lc ∈ T) (h2 : lanes ∈ T) :
    Only T s (enterTraining s') ↔ Only T s s' := by
  unfold enterTraining
  simp [*]

@[simp] theorem only_dropHandshake (h1 : lanes ∈ T) :
    Only T s (dropHandshake s') ↔ Only T s s' := by
  unfold dropHandshake
  simp [*]

@[simp] theorem only_enterDown (h1 : lc ∈ T) (h2 : lanes ∈ T) :
    Only T s (enterDown s') ↔ Only T s s' := by
  unfold enterDown
  simp [*]

@[simp] theorem only_enterFault (h1 : lc ∈ T) (h2 : lanes ∈ T) (h3 : al ∈ T) :
    Only T s (enterFault s') ↔ Only T s s' := by
  unfold enterFault
  simp [*]

@[simp] theorem only_enterHello (h1 : lc ∈ T) (h2 : lanes ∈ T) :
    Only T s (enterHello s') ↔ Only T s s' := by
  unfold enterHello
  simp [*]

@[simp] theorem only_leaveUp {cause peerReason} (h1 : lc ∈ T) (h2 : lanes ∈ T) (h3 : al ∈ T) :
    Only T s (leaveUp cause peerReason s') ↔ Only T s s' := by
  unfold leaveUp
  simp [*]

@[simp] theorem only_endScheduler (h1 : ts ∈ T) :
    Only T s (endScheduler s') ↔ Only T s s' := by
  unfold endScheduler
  simp [*]

@[simp] theorem only_endCapture (h1 : cu ∈ T) (h2 : mp ∈ T) :
    Only T s (endCapture s') ↔ Only T s s' := by
  unfold endCapture
  repeat' split
  all_goals simp [*]

@[simp] theorem only_endApply (h1 : da ∈ T) (h2 : lanes ∈ T) (h3 : au ∈ T) (h4 : re ∈ T) (h5 : al ∈ T) (h6 :
    counters ∈ T) :
    Only T s (endApply s') ↔ Only T s s' := by
  unfold endApply
  simp [*]

@[simp] theorem only_announceEnd (h1 : drawn ∈ T) (h2 : out ∈ T) (h3 : rq ∈ T) (h4 : cu ∈ T) (h5 : mp ∈ T) (h6 :
    da ∈ T) (h7 : lanes ∈ T) (h8 : ts ∈ T) (h9 : au ∈ T) (h10 : dm ∈ T) (h11 : re ∈ T) (h12 : fu ∈ T) (h13 : al
    ∈ T) (h14 : counters ∈ T) :
    Only T s (announceEnd s') ↔ Only T s s' := by
  unfold announceEnd
  simp [*]

@[simp] theorem only_sessionEnd {cause peerReason} (h1 : drawn ∈ T) (h2 : out ∈ T) (h3 : rq ∈ T) (h4 : cu ∈ T)
    (h5 : mp ∈ T) (h6 : da ∈ T) (h7 : lc ∈ T) (h8 : lanes ∈ T) (h9 : ts ∈ T) (h10 : au ∈ T) (h11 : dm ∈ T) (h12
    : re ∈ T) (h13 : fu ∈ T) (h14 : al ∈ T) (h15 : counters ∈ T) :
    Only T s (sessionEnd cause peerReason s') ↔ Only T s s' := by
  unfold sessionEnd
  simp [*]

@[simp] theorem only_enableMarks {full w} (h1 : out ∈ T) (h2 : dm ∈ T) :
    Only T s (enableMarks full w s') ↔ Only T s s' := by
  unfold enableMarks
  simp [*]

@[simp] theorem only_enableState {w} (h1 : out ∈ T) (h2 : da ∈ T) (h3 : re ∈ T) (h4 : fu ∈ T) (h5 : al ∈ T) :
    Only T s (enableState w s') ↔ Only T s s' := by
  unfold enableState
  simp [*]

@[simp] theorem only_turnOff {w} (h1 : out ∈ T) (h2 : da ∈ T) (h3 : dm ∈ T) (h4 : re ∈ T) :
    Only T s (turnOff w s') ↔ Only T s s' := by
  unfold turnOff
  simp [*]

@[simp] theorem only_releaseCapture {w} (h1 : mp ∈ T) :
    Only T s (releaseCapture w s') ↔ Only T s s' := by
  unfold releaseCapture
  repeat' split
  all_goals simp [*]

@[simp] theorem only_markRun {w first count} (h1 : out ∈ T) (h2 : dm ∈ T) (h3 : re ∈ T) :
    Only T s (markRun w first count s') ↔ Only T s s' := by
  unfold markRun
  simp [*, only_foldl]

@[simp] theorem only_linkOff (h1 : lc ∈ T) (h2 : lanes ∈ T) :
    Only T s (linkOff s') ↔ Only T s s' := by
  unfold linkOff
  simp [*]

@[simp] theorem only_releaseAny (h1 : mp ∈ T) :
    Only T s (releaseAny s') ↔ Only T s s' := by
  unfold releaseAny
  repeat' split
  all_goals simp [*]

@[simp] theorem only_clearWindows (h1 : out ∈ T) (h2 : dm ∈ T) :
    Only T s (clearWindows s') ↔ Only T s s' := by
  unfold clearWindows
  simp [*]

@[simp] theorem only_resetEngine (h1 : da ∈ T) (h2 : re ∈ T) :
    Only T s (resetEngine s') ↔ Only T s s' := by
  unfold resetEngine
  simp [*]

@[simp] theorem only_resetApply (h1 : da ∈ T) (h2 : lanes ∈ T) (h3 : au ∈ T) :
    Only T s (resetApply s') ↔ Only T s s' := by
  unfold resetApply
  simp [*]

@[simp] theorem only_resetBlocks (h1 : out ∈ T) (h2 : rq ∈ T) (h3 : cu ∈ T) (h4 : mp ∈ T) (h5 : da ∈ T) (h6 :
    lanes ∈ T) (h7 : au ∈ T) (h8 : dm ∈ T) (h9 : re ∈ T) (h10 : fu ∈ T) (h11 : al ∈ T) :
    Only T s (resetBlocks s') ↔ Only T s s' := by
  unfold resetBlocks
  simp [*]

@[simp] theorem only_shiftOut {b} (h1 : pins ∈ T) :
    Only T s (shiftOut b s') ↔ Only T s s' := by
  unfold shiftOut
  simp [*]

@[simp] theorem only_respondByte {response shifted} (h1 : pins ∈ T) (h2 : port ∈ T) :
    Only T s (respondByte response shifted s') ↔ Only T s s' := by
  unfold respondByte
  simp [*]

@[simp] theorem only_refuseCommand {code} (h1 : pins ∈ T) (h2 : port ∈ T) :
    Only T s (refuseCommand code s') ↔ Only T s s' := by
  unfold refuseCommand
  split <;> simp [*]

@[simp] theorem only_chipSelect (h1 : pins ∈ T) (h2 : port ∈ T) :
    Only T s (chipSelect s') ↔ Only T s s' := by
  unfold chipSelect
  repeat' split
  all_goals simp [*]

@[simp] theorem only_chipRelease (h1 : pins ∈ T) (h2 : port ∈ T) :
    Only T s (chipRelease s') ↔ Only T s s' := by
  unfold chipRelease
  simp [*]

@[simp] theorem only_offerUpstream {t} (h1 : drawn ∈ T) (h2 : cu ∈ T) (h3 : mp ∈ T) (h4 : da ∈ T) (h5 : re ∈ T)
    (h6 : al ∈ T) (h7 : counters ∈ T) :
    Only T s (offerUpstream t s') ↔ Only T s s' := by
  unfold offerUpstream
  split <;> simp [*]

@[simp] theorem only_passThroughDone {r bytes} (h1 : drawn ∈ T) (h2 : cu ∈ T) (h3 : mp ∈ T) (h4 : da ∈ T) (h5 :
    re ∈ T) (h6 : al ∈ T) (h7 : counters ∈ T) :
    Only T s (passThroughDone r bytes s') ↔ Only T s s' := by
  unfold passThroughDone
  simp [*]

@[simp] theorem only_recordWrite {c} (h1 : drawn ∈ T) (h2 : rq ∈ T) (h3 : cu ∈ T) (h4 : mp ∈ T) :
    Only T s (recordWrite c s') ↔ Only T s s' := by
  unfold recordWrite
  split <;> simp [*]

@[simp] theorem only_markCapture {c r} (h1 : out ∈ T) (h2 : cu ∈ T) (h3 : mp ∈ T) (h4 : da ∈ T) (h5 : dm ∈ T)
    (h6 : re ∈ T) (h7 : fu ∈ T) (h8 : al ∈ T) :
    Only T s (markCapture c r s') ↔ Only T s s' := by
  unfold markCapture
  simp [*]

@[simp] theorem only_mirrorWrite {c} (h1 : drawn ∈ T) (h2 : out ∈ T) (h3 : rq ∈ T) (h4 : cu ∈ T) (h5 : mp ∈ T)
    (h6 : da ∈ T) (h7 : dm ∈ T) (h8 : re ∈ T) (h9 : fu ∈ T) (h10 : al ∈ T) (h11 : counters ∈ T) :
    Only T s (mirrorWrite c s') ↔ Only T s s' := by
  unfold mirrorWrite
  simp [*]

@[simp] theorem only_localWriteOk {c} (h1 : drawn ∈ T) (h2 : out ∈ T) (h3 : rq ∈ T) (h4 : cu ∈ T) (h5 : mp ∈ T)
    (h6 : da ∈ T) (h7 : dm ∈ T) (h8 : re ∈ T) (h9 : fu ∈ T) (h10 : al ∈ T) (h11 : counters ∈ T) :
    Only T s (localWriteOk c s') ↔ Only T s s' := by
  unfold localWriteOk
  split <;> simp [*]

@[simp] theorem only_localWriteErr {c} (h1 : out ∈ T) (h2 : cu ∈ T) (h3 : mp ∈ T) (h4 : da ∈ T) (h5 : dm ∈ T)
    (h6 : re ∈ T) (h7 : fu ∈ T) (h8 : al ∈ T) (h9 : counters ∈ T) :
    Only T s (localWriteErr c s') ↔ Only T s s' := by
  unfold localWriteErr
  split <;> simp [*]

@[simp] theorem only_localWriteDone {c r} (h1 : drawn ∈ T) (h2 : out ∈ T) (h3 : rq ∈ T) (h4 : cu ∈ T) (h5 : mp ∈
    T) (h6 : da ∈ T) (h7 : dm ∈ T) (h8 : re ∈ T) (h9 : fu ∈ T) (h10 : al ∈ T) (h11 : counters ∈ T) :
    Only T s (localWriteDone c r s') ↔ Only T s s' := by
  unfold localWriteDone
  split <;> simp [*]

@[simp] theorem only_dropWaiter (h1 : rq ∈ T) :
    Only T s (dropWaiter s') ↔ Only T s s' := by
  unfold dropWaiter
  simp [*]

@[simp] theorem only_confirmExpired {c} (h1 : out ∈ T) (h2 : rq ∈ T) (h3 : cu ∈ T) (h4 : mp ∈ T) (h5 : da ∈ T)
    (h6 : dm ∈ T) (h7 : re ∈ T) (h8 : fu ∈ T) (h9 : al ∈ T) :
    Only T s (confirmExpired c s') ↔ Only T s s' := by
  unfold confirmExpired
  all_goals first | with_reducible rfl | (simp [*]; done) | (simp [*]; split <;> simp [*])

@[simp] theorem only_lanesLost (h1 : drawn ∈ T) (h2 : out ∈ T) (h3 : rq ∈ T) (h4 : cu ∈ T) (h5 : mp ∈ T) (h6 :
    da ∈ T) (h7 : lc ∈ T) (h8 : lanes ∈ T) (h9 : ts ∈ T) (h10 : au ∈ T) (h11 : dm ∈ T) (h12 : re ∈ T) (h13 : fu
    ∈ T) (h14 : al ∈ T) (h15 : counters ∈ T) :
    Only T s (lanesLost s') ↔ Only T s s' := by
  unfold lanesLost
  split <;> simp [*]

@[simp] theorem only_retryHello (h1 : lc ∈ T) (h2 : lanes ∈ T) :
    Only T s (retryHello s') ↔ Only T s s' := by
  unfold retryHello
  simp [*]

@[simp] theorem only_helloInHello {proposal nodeId limit} (h1 : lc ∈ T) (h2 : lanes ∈ T) (h3 : al ∈ T) :
    Only T s (helloInHello proposal nodeId limit s') ↔ Only T s s' := by
  unfold helloInHello
  simp [*]

@[simp] theorem only_helloInUp {nodeId} (h1 : lanes ∈ T) :
    Only T s (helloInUp nodeId s') ↔ Only T s s' := by
  unfold helloInUp
  split <;> simp [*]

@[simp] theorem only_helloArrives {proposal nodeId limit} (h1 : lc ∈ T) (h2 : lanes ∈ T) (h3 : al ∈ T) :
    Only T s (helloArrives proposal nodeId limit s') ↔ Only T s s' := by
  unfold helloArrives
  split <;> simp [*]

@[simp] theorem only_linkUp {agreed} (h1 : lc ∈ T) (h2 : lanes ∈ T) (h3 : al ∈ T) (h4 : counters ∈ T) :
    Only T s (linkUp agreed s') ↔ Only T s s' := by
  unfold linkUp
  simp [*]

@[simp] theorem only_startSession {limit} (h1 : rq ∈ T) (h2 : ts ∈ T) (h3 : rc ∈ T) (h4 : au ∈ T) :
    Only T s (startSession limit s') ↔ Only T s s' := by
  unfold startSession
  simp [*]

@[simp] theorem only_resumeWindow {w} (h1 : out ∈ T) (h2 : da ∈ T) (h3 : re ∈ T) (h4 : fu ∈ T) (h5 : al ∈ T) :
    Only T s (resumeWindow w s') ↔ Only T s s' := by
  unfold resumeWindow
  simp [*]

@[simp] theorem only_resumeWindows (h1 : out ∈ T) (h2 : da ∈ T) (h3 : re ∈ T) (h4 : fu ∈ T) (h5 : al ∈ T) :
    Only T s (resumeWindows s') ↔ Only T s s' := by
  unfold resumeWindows
  simp [*, only_foldl]

@[simp] theorem only_reachUp {agreed limit} (h1 : out ∈ T) (h2 : rq ∈ T) (h3 : cu ∈ T) (h4 : da ∈ T) (h5 : lc ∈
    T) (h6 : lanes ∈ T) (h7 : ts ∈ T) (h8 : rc ∈ T) (h9 : au ∈ T) (h10 : re ∈ T) (h11 : fu ∈ T) (h12 : al ∈ T)
    (h13 : counters ∈ T) :
    Only T s (reachUp agreed limit s') ↔ Only T s s' := by
  unfold reachUp
  simp [*]

@[simp] theorem only_restartExchange (h1 : lc ∈ T) (h2 : lanes ∈ T) :
    Only T s (restartExchange s') ↔ Only T s s' := by
  unfold restartExchange
  simp [*]

@[simp] theorem only_helloAckInHello {agreed nodeId} (h1 : out ∈ T) (h2 : rq ∈ T) (h3 : cu ∈ T) (h4 : da ∈ T)
    (h5 : lc ∈ T) (h6 : lanes ∈ T) (h7 : ts ∈ T) (h8 : rc ∈ T) (h9 : au ∈ T) (h10 : re ∈ T) (h11 : fu ∈ T) (h12
    : al ∈ T) (h13 : counters ∈ T) :
    Only T s (helloAckInHello agreed nodeId s') ↔ Only T s s' := by
  unfold helloAckInHello
  repeat' split
  all_goals simp [*]

@[simp] theorem only_staleFrame (h1 : counters ∈ T) :
    Only T s (staleFrame s') ↔ Only T s s' := by
  unfold staleFrame
  simp [*]

@[simp] theorem only_restartLiveness (h1 : lc ∈ T) :
    Only T s (restartLiveness s') ↔ Only T s s' := by
  unfold restartLiveness
  simp [*]

@[simp] theorem only_countBadCrc (h1 : al ∈ T) (h2 : counters ∈ T) :
    Only T s (countBadCrc s') ↔ Only T s s' := by
  unfold countBadCrc
  simp [*]

@[simp] theorem only_badCrcArrives (h1 : lanes ∈ T) (h2 : rc ∈ T) (h3 : al ∈ T) (h4 : counters ∈ T) :
    Only T s (badCrcArrives s') ↔ Only T s s' := by
  unfold badCrcArrives
  split <;> simp [*]

@[simp] theorem only_limitViolated (h1 : al ∈ T) (h2 : counters ∈ T) :
    Only T s (limitViolated s') ↔ Only T s s' := by
  unfold limitViolated
  simp [*]

@[simp] theorem only_joinQueue {e} (h1 : rc ∈ T) (h2 : au ∈ T) :
    Only T s (joinQueue e s') ↔ Only T s s' := by
  unfold joinQueue
  simp [*]

@[simp] theorem only_judgeData {e} (h1 : da ∈ T) (h2 : lanes ∈ T) (h3 : rc ∈ T) (h4 : au ∈ T) (h5 : re ∈ T) (h6
    : al ∈ T) (h7 : counters ∈ T) :
    Only T s (judgeData e s') ↔ Only T s s' := by
  unfold judgeData
  simp [*]

@[simp] theorem only_dataArrives {seq kind window line mask data} (h1 : drawn ∈ T) (h2 : out ∈ T) (h3 : rq ∈ T)
    (h4 : cu ∈ T) (h5 : mp ∈ T) (h6 : da ∈ T) (h7 : lc ∈ T) (h8 : lanes ∈ T) (h9 : ts ∈ T) (h10 : rc ∈ T) (h11 :
    au ∈ T) (h12 : dm ∈ T) (h13 : re ∈ T) (h14 : fu ∈ T) (h15 : al ∈ T) (h16 : counters ∈ T) :
    Only T s (dataArrives seq kind window line mask data s') ↔ Only T s s' := by
  unfold dataArrives
  split <;> simp [*]

@[simp] theorem only_ackProgress {a} (h1 : rq ∈ T) (h2 : ts ∈ T) :
    Only T s (ackProgress a s') ↔ Only T s s' := by
  unfold ackProgress
  simp [*]

@[simp] theorem only_ackLimit {limit} (h1 : ts ∈ T) :
    Only T s (ackLimit limit s') ↔ Only T s s' := by
  unfold ackLimit
  simp [*]

@[simp] theorem only_ackReject {reason window} (h1 : out ∈ T) (h2 : da ∈ T) (h3 : re ∈ T) (h4 : fu ∈ T) (h5 : al
    ∈ T) (h6 : counters ∈ T) :
    Only T s (ackReject reason window s') ↔ Only T s s' := by
  unfold ackReject
  repeat' split
  all_goals simp [*]

@[simp] theorem only_confirmDone (h1 : cu ∈ T) (h2 : mp ∈ T) :
    Only T s (confirmDone s') ↔ Only T s s' := by
  unfold confirmDone
  split <;> simp [*]

@[simp] theorem only_segmentDone {g} (h1 : out ∈ T) (h2 : da ∈ T) (h3 : dm ∈ T) (h4 : re ∈ T) (h5 : fu ∈ T) (h6
    : al ∈ T) :
    Only T s (segmentDone g s') ↔ Only T s s' := by
  unfold segmentDone
  simp [*]

@[simp] theorem only_compareSegment {a} (h1 : out ∈ T) (h2 : da ∈ T) (h3 : dm ∈ T) (h4 : re ∈ T) (h5 : fu ∈ T)
    (h6 : al ∈ T) :
    Only T s (compareSegment a s') ↔ Only T s s' := by
  unfold compareSegment
  split <;> simp [*]

@[simp] theorem only_handOn {a waiter} (h1 : drawn ∈ T) (h2 : out ∈ T) (h3 : rq ∈ T) (h4 : cu ∈ T) (h5 : mp ∈ T)
    (h6 : da ∈ T) (h7 : dm ∈ T) (h8 : re ∈ T) (h9 : fu ∈ T) (h10 : al ∈ T) (h11 : counters ∈ T) :
    Only T s (handOn a waiter s') ↔ Only T s s' := by
  unfold handOn
  simp [*]

@[simp] theorem only_applyAck {a limit reason} (h1 : drawn ∈ T) (h2 : out ∈ T) (h3 : rq ∈ T) (h4 : cu ∈ T) (h5 :
    mp ∈ T) (h6 : da ∈ T) (h7 : ts ∈ T) (h8 : dm ∈ T) (h9 : re ∈ T) (h10 : fu ∈ T) (h11 : al ∈ T) (h12 :
    counters ∈ T) :
    Only T s (applyAck a limit reason s') ↔ Only T s s' := by
  unfold applyAck
  simp [*]

@[simp] theorem only_ackArrives {a limit reason rejectSeq} (h1 : drawn ∈ T) (h2 : out ∈ T) (h3 : rq ∈ T) (h4 :
    cu ∈ T) (h5 : mp ∈ T) (h6 : da ∈ T) (h7 : lc ∈ T) (h8 : lanes ∈ T) (h9 : ts ∈ T) (h10 : au ∈ T) (h11 : dm ∈
    T) (h12 : re ∈ T) (h13 : fu ∈ T) (h14 : al ∈ T) (h15 : counters ∈ T) :
    Only T s (ackArrives a limit reason rejectSeq s') ↔ Only T s s' := by
  unfold ackArrives
  simp [*]

@[simp] theorem only_startRound {e} (h1 : drawn ∈ T) (h2 : out ∈ T) (h3 : rq ∈ T) (h4 : cu ∈ T) (h5 : mp ∈ T)
    (h6 : da ∈ T) (h7 : lc ∈ T) (h8 : lanes ∈ T) (h9 : ts ∈ T) (h10 : au ∈ T) (h11 : dm ∈ T) (h12 : re ∈ T) (h13
    : fu ∈ T) (h14 : al ∈ T) (h15 : counters ∈ T) :
    Only T s (startRound e s') ↔ Only T s s' := by
  unfold startRound
  simp [*]

@[simp] theorem only_cutRound (h1 : rq ∈ T) :
    Only T s (cutRound s') ↔ Only T s s' := by
  unfold cutRound
  simp [*]

@[simp] theorem only_nakArrives {e} (h1 : drawn ∈ T) (h2 : out ∈ T) (h3 : rq ∈ T) (h4 : cu ∈ T) (h5 : mp ∈ T)
    (h6 : da ∈ T) (h7 : lc ∈ T) (h8 : lanes ∈ T) (h9 : ts ∈ T) (h10 : au ∈ T) (h11 : dm ∈ T) (h12 : re ∈ T) (h13
    : fu ∈ T) (h14 : al ∈ T) (h15 : counters ∈ T) :
    Only T s (nakArrives e s') ↔ Only T s s' := by
  unfold nakArrives
  simp [*]

@[simp] theorem only_beginFrame {f} (h1 : lc ∈ T) (h2 : lanes ∈ T) :
    Only T s (beginFrame f s') ↔ Only T s s' := by
  unfold beginFrame
  simp [*]

@[simp] theorem only_beginRecord {r} (h1 : rq ∈ T) (h2 : lc ∈ T) (h3 : lanes ∈ T) (h4 : ts ∈ T) :
    Only T s (beginRecord r s') ↔ Only T s s' := by
  unfold beginRecord
  simp [*]

@[simp] theorem only_beginData (h1 : rq ∈ T) (h2 : lc ∈ T) (h3 : lanes ∈ T) (h4 : ts ∈ T) :
    Only T s (beginData s') ↔ Only T s s' := by
  unfold beginData
  split <;> simp [*]

@[simp] theorem only_popOwed (h1 : lanes ∈ T) :
    Only T s (popOwed s') ↔ Only T s s' := by
  unfold popOwed
  simp [*]

@[simp] theorem only_advertise {limit} (h1 : au ∈ T) :
    Only T s (advertise limit s') ↔ Only T s s' := by
  unfold advertise
  simp [*]

@[simp] theorem only_unblock {reject} (h1 : da ∈ T) (h2 : lanes ∈ T) (h3 : au ∈ T) (h4 : re ∈ T) (h5 : al ∈ T)
    (h6 : counters ∈ T) :
    Only T s (unblock reject s') ↔ Only T s s' := by
  unfold unblock
  simp [*]

@[simp] theorem only_beginAck {through limit reject} (h1 : da ∈ T) (h2 : lc ∈ T) (h3 : lanes ∈ T) (h4 : au ∈ T)
    (h5 : re ∈ T) (h6 : al ∈ T) (h7 : counters ∈ T) :
    Only T s (beginAck through limit reject s') ↔ Only T s s' := by
  unfold beginAck
  simp [*]

@[simp] theorem only_beginNak {expected} (h1 : lc ∈ T) (h2 : lanes ∈ T) (h3 : counters ∈ T) :
    Only T s (beginNak expected s') ↔ Only T s s' := by
  unfold beginNak
  simp [*]

@[simp] theorem only_beginHello (h1 : lc ∈ T) (h2 : lanes ∈ T) :
    Only T s (beginHello s') ↔ Only T s s' := by
  unfold beginHello
  simp [*]

@[simp] theorem only_beginHelloAck {agreed} (h1 : lc ∈ T) (h2 : lanes ∈ T) :
    Only T s (beginHelloAck agreed s') ↔ Only T s s' := by
  unfold beginHelloAck
  simp [*]

@[simp] theorem only_beginGoodbye (h1 : lc ∈ T) (h2 : lanes ∈ T) :
    Only T s (beginGoodbye s') ↔ Only T s s' := by
  unfold beginGoodbye
  split <;> simp [*]

@[simp] theorem only_beginOwed (h1 : da ∈ T) (h2 : lc ∈ T) (h3 : lanes ∈ T) (h4 : au ∈ T) (h5 : re ∈ T) (h6 : al
    ∈ T) (h7 : counters ∈ T) :
    Only T s (beginOwed s') ↔ Only T s s' := by
  unfold beginOwed
  split <;> simp [*]

@[simp] theorem only_beginType {f} (h1 : rq ∈ T) (h2 : da ∈ T) (h3 : lc ∈ T) (h4 : lanes ∈ T) (h5 : ts ∈ T) (h6
    : au ∈ T) (h7 : re ∈ T) (h8 : al ∈ T) (h9 : counters ∈ T) :
    Only T s (beginType f s') ↔ Only T s s' := by
  unfold beginType
  split <;> simp [*]

@[simp] theorem only_transmit {f} (h1 : rq ∈ T) (h2 : da ∈ T) (h3 : lc ∈ T) (h4 : lanes ∈ T) (h5 : ts ∈ T) (h6 :
    au ∈ T) (h7 : re ∈ T) (h8 : al ∈ T) (h9 : counters ∈ T) :
    Only T s (transmit f s') ↔ Only T s s' := by
  unfold transmit
  simp [*]

@[simp] theorem only_takeNext (h1 : rq ∈ T) (h2 : da ∈ T) (h3 : lc ∈ T) (h4 : lanes ∈ T) (h5 : ts ∈ T) (h6 : au
    ∈ T) (h7 : re ∈ T) (h8 : al ∈ T) (h9 : counters ∈ T) :
    Only T s (takeNext s') ↔ Only T s s' := by
  unfold takeNext
  split <;> simp [*]

@[simp] theorem only_applyError (h1 : al ∈ T) (h2 : counters ∈ T) :
    Only T s (applyError s') ↔ Only T s s' := by
  unfold applyError
  simp [*]

@[simp] theorem only_finishWrite {r} (h1 : da ∈ T) (h2 : lanes ∈ T) (h3 : au ∈ T) (h4 : re ∈ T) (h5 : al ∈ T)
    (h6 : counters ∈ T) :
    Only T s (finishWrite r s') ↔ Only T s s' := by
  unfold finishWrite
  repeat' split
  all_goals simp [*]

@[simp] theorem only_applyWriteDone {r} (h1 : da ∈ T) (h2 : lanes ∈ T) (h3 : au ∈ T) (h4 : re ∈ T) (h5 : al ∈ T)
    (h6 : counters ∈ T) :
    Only T s (applyWriteDone r s') ↔ Only T s s' := by
  unfold applyWriteDone
  simp [*]

@[simp] theorem only_endRead (h1 : re ∈ T) :
    Only T s (endRead s') ↔ Only T s s' := by
  unfold endRead
  simp [*]

@[simp] theorem only_copyOk {g bytes} (h1 : rq ∈ T) (h2 : re ∈ T) :
    Only T s (copyOk g bytes s') ↔ Only T s s' := by
  unfold copyOk
  simp [*]

@[simp] theorem only_copyErr {g} (h1 : out ∈ T) (h2 : da ∈ T) (h3 : re ∈ T) (h4 : fu ∈ T) (h5 : al ∈ T) (h6 :
    counters ∈ T) :
    Only T s (copyErr g s') ↔ Only T s s' := by
  unfold copyErr
  simp [*]

@[simp] theorem only_copyReadDone {r bytes} (h1 : out ∈ T) (h2 : rq ∈ T) (h3 : da ∈ T) (h4 : re ∈ T) (h5 : fu ∈
    T) (h6 : al ∈ T) (h7 : counters ∈ T) :
    Only T s (copyReadDone r bytes s') ↔ Only T s s' := by
  unfold copyReadDone
  repeat' split
  all_goals simp [*]

@[simp] theorem only_requestLine (h1 : rq ∈ T) (h2 : fu ∈ T) (h3 : al ∈ T) :
    Only T s (requestLine s') ↔ Only T s s' := by
  unfold requestLine
  split <;> simp [*]

@[simp] theorem only_releaseLine (h1 : fu ∈ T) :
    Only T s (releaseLine s') ↔ Only T s s' := by
  unfold releaseLine
  split <;> simp [*]

end Sys2Proof.Machine
end

