-- ==== Sys2Proof/Laws/Fields.lean ====
section
/-! SUPPORT. The fields each shared operation leaves alone, one lemma a field, read off its frame in Laws/Only.lean. -/

set_option Elab.async false

namespace Sys2Proof.Machine

variable {s : State}

theorem raise_only {c} : Only [.al] s (raise c s) := by
  simp [Only.refl]
@[simp] theorem raise_pending {c} : (raise c s).pending = s.pending := raise_only .pending (by decide)
@[simp] theorem raise_drawn {c} : (raise c s).drawn = s.drawn := raise_only .drawn (by decide)
@[simp] theorem raise_pins {c} : (raise c s).pins = s.pins := raise_only .pins (by decide)
@[simp] theorem raise_port {c} : (raise c s).port = s.port := raise_only .port (by decide)
@[simp] theorem raise_params {c} : (raise c s).params = s.params := raise_only .params (by decide)
@[simp] theorem raise_out {c} : (raise c s).out = s.out := raise_only .out (by decide)
@[simp] theorem raise_inb {c} : (raise c s).inb = s.inb := raise_only .inb (by decide)
@[simp] theorem raise_rq {c} : (raise c s).rq = s.rq := raise_only .rq (by decide)
@[simp] theorem raise_cu {c} : (raise c s).cu = s.cu := raise_only .cu (by decide)
@[simp] theorem raise_mp {c} : (raise c s).mp = s.mp := raise_only .mp (by decide)
@[simp] theorem raise_da {c} : (raise c s).da = s.da := raise_only .da (by decide)
@[simp] theorem raise_lc {c} : (raise c s).lc = s.lc := raise_only .lc (by decide)
@[simp] theorem raise_lanes {c} : (raise c s).lanes = s.lanes := raise_only .lanes (by decide)
@[simp] theorem raise_ts {c} : (raise c s).ts = s.ts := raise_only .ts (by decide)
@[simp] theorem raise_rc {c} : (raise c s).rc = s.rc := raise_only .rc (by decide)
@[simp] theorem raise_au {c} : (raise c s).au = s.au := raise_only .au (by decide)
@[simp] theorem raise_dm {c} : (raise c s).dm = s.dm := raise_only .dm (by decide)
@[simp] theorem raise_re {c} : (raise c s).re = s.re := raise_only .re (by decide)
@[simp] theorem raise_fu {c} : (raise c s).fu = s.fu := raise_only .fu (by decide)
@[simp] theorem raise_counters {c} : (raise c s).counters = s.counters := raise_only .counters (by decide)

theorem bump_only {c} : Only [.counters] s (bump c s) := by
  simp [Only.refl]
@[simp] theorem bump_pending {c} : (bump c s).pending = s.pending := bump_only .pending (by decide)
@[simp] theorem bump_drawn {c} : (bump c s).drawn = s.drawn := bump_only .drawn (by decide)
@[simp] theorem bump_pins {c} : (bump c s).pins = s.pins := bump_only .pins (by decide)
@[simp] theorem bump_port {c} : (bump c s).port = s.port := bump_only .port (by decide)
@[simp] theorem bump_params {c} : (bump c s).params = s.params := bump_only .params (by decide)
@[simp] theorem bump_out {c} : (bump c s).out = s.out := bump_only .out (by decide)
@[simp] theorem bump_inb {c} : (bump c s).inb = s.inb := bump_only .inb (by decide)
@[simp] theorem bump_rq {c} : (bump c s).rq = s.rq := bump_only .rq (by decide)
@[simp] theorem bump_cu {c} : (bump c s).cu = s.cu := bump_only .cu (by decide)
@[simp] theorem bump_mp {c} : (bump c s).mp = s.mp := bump_only .mp (by decide)
@[simp] theorem bump_da {c} : (bump c s).da = s.da := bump_only .da (by decide)
@[simp] theorem bump_lc {c} : (bump c s).lc = s.lc := bump_only .lc (by decide)
@[simp] theorem bump_lanes {c} : (bump c s).lanes = s.lanes := bump_only .lanes (by decide)
@[simp] theorem bump_ts {c} : (bump c s).ts = s.ts := bump_only .ts (by decide)
@[simp] theorem bump_rc {c} : (bump c s).rc = s.rc := bump_only .rc (by decide)
@[simp] theorem bump_au {c} : (bump c s).au = s.au := bump_only .au (by decide)
@[simp] theorem bump_dm {c} : (bump c s).dm = s.dm := bump_only .dm (by decide)
@[simp] theorem bump_re {c} : (bump c s).re = s.re := bump_only .re (by decide)
@[simp] theorem bump_fu {c} : (bump c s).fu = s.fu := bump_only .fu (by decide)
@[simp] theorem bump_al {c} : (bump c s).al = s.al := bump_only .al (by decide)

theorem grant_only : Only [.da, .re] s (grant s) := by
  simp [Only.refl]
@[simp] theorem grant_pending : (grant s).pending = s.pending := grant_only .pending (by decide)
@[simp] theorem grant_drawn : (grant s).drawn = s.drawn := grant_only .drawn (by decide)
@[simp] theorem grant_pins : (grant s).pins = s.pins := grant_only .pins (by decide)
@[simp] theorem grant_port : (grant s).port = s.port := grant_only .port (by decide)
@[simp] theorem grant_params : (grant s).params = s.params := grant_only .params (by decide)
@[simp] theorem grant_out : (grant s).out = s.out := grant_only .out (by decide)
@[simp] theorem grant_inb : (grant s).inb = s.inb := grant_only .inb (by decide)
@[simp] theorem grant_rq : (grant s).rq = s.rq := grant_only .rq (by decide)
@[simp] theorem grant_cu : (grant s).cu = s.cu := grant_only .cu (by decide)
@[simp] theorem grant_mp : (grant s).mp = s.mp := grant_only .mp (by decide)
@[simp] theorem grant_lc : (grant s).lc = s.lc := grant_only .lc (by decide)
@[simp] theorem grant_lanes : (grant s).lanes = s.lanes := grant_only .lanes (by decide)
@[simp] theorem grant_ts : (grant s).ts = s.ts := grant_only .ts (by decide)
@[simp] theorem grant_rc : (grant s).rc = s.rc := grant_only .rc (by decide)
@[simp] theorem grant_au : (grant s).au = s.au := grant_only .au (by decide)
@[simp] theorem grant_dm : (grant s).dm = s.dm := grant_only .dm (by decide)
@[simp] theorem grant_fu : (grant s).fu = s.fu := grant_only .fu (by decide)
@[simp] theorem grant_al : (grant s).al = s.al := grant_only .al (by decide)
@[simp] theorem grant_counters : (grant s).counters = s.counters := grant_only .counters (by decide)

theorem presentFg_only {t} : Only [.da, .re] s (presentFg t s) := by
  simp [Only.refl]
@[simp] theorem presentFg_pending {t} : (presentFg t s).pending = s.pending := presentFg_only .pending (by decide)
@[simp] theorem presentFg_drawn {t} : (presentFg t s).drawn = s.drawn := presentFg_only .drawn (by decide)
@[simp] theorem presentFg_pins {t} : (presentFg t s).pins = s.pins := presentFg_only .pins (by decide)
@[simp] theorem presentFg_port {t} : (presentFg t s).port = s.port := presentFg_only .port (by decide)
@[simp] theorem presentFg_params {t} : (presentFg t s).params = s.params := presentFg_only .params (by decide)
@[simp] theorem presentFg_out {t} : (presentFg t s).out = s.out := presentFg_only .out (by decide)
@[simp] theorem presentFg_inb {t} : (presentFg t s).inb = s.inb := presentFg_only .inb (by decide)
@[simp] theorem presentFg_rq {t} : (presentFg t s).rq = s.rq := presentFg_only .rq (by decide)
@[simp] theorem presentFg_cu {t} : (presentFg t s).cu = s.cu := presentFg_only .cu (by decide)
@[simp] theorem presentFg_mp {t} : (presentFg t s).mp = s.mp := presentFg_only .mp (by decide)
@[simp] theorem presentFg_lc {t} : (presentFg t s).lc = s.lc := presentFg_only .lc (by decide)
@[simp] theorem presentFg_lanes {t} : (presentFg t s).lanes = s.lanes := presentFg_only .lanes (by decide)
@[simp] theorem presentFg_ts {t} : (presentFg t s).ts = s.ts := presentFg_only .ts (by decide)
@[simp] theorem presentFg_rc {t} : (presentFg t s).rc = s.rc := presentFg_only .rc (by decide)
@[simp] theorem presentFg_au {t} : (presentFg t s).au = s.au := presentFg_only .au (by decide)
@[simp] theorem presentFg_dm {t} : (presentFg t s).dm = s.dm := presentFg_only .dm (by decide)
@[simp] theorem presentFg_fu {t} : (presentFg t s).fu = s.fu := presentFg_only .fu (by decide)
@[simp] theorem presentFg_al {t} : (presentFg t s).al = s.al := presentFg_only .al (by decide)
@[simp] theorem presentFg_counters {t} : (presentFg t s).counters = s.counters := presentFg_only .counters (by decide)

theorem presentAp_only {t} : Only [.da, .re] s (presentAp t s) := by
  simp [Only.refl]
@[simp] theorem presentAp_pending {t} : (presentAp t s).pending = s.pending := presentAp_only .pending (by decide)
@[simp] theorem presentAp_drawn {t} : (presentAp t s).drawn = s.drawn := presentAp_only .drawn (by decide)
@[simp] theorem presentAp_pins {t} : (presentAp t s).pins = s.pins := presentAp_only .pins (by decide)
@[simp] theorem presentAp_port {t} : (presentAp t s).port = s.port := presentAp_only .port (by decide)
@[simp] theorem presentAp_params {t} : (presentAp t s).params = s.params := presentAp_only .params (by decide)
@[simp] theorem presentAp_out {t} : (presentAp t s).out = s.out := presentAp_only .out (by decide)
@[simp] theorem presentAp_inb {t} : (presentAp t s).inb = s.inb := presentAp_only .inb (by decide)
@[simp] theorem presentAp_rq {t} : (presentAp t s).rq = s.rq := presentAp_only .rq (by decide)
@[simp] theorem presentAp_cu {t} : (presentAp t s).cu = s.cu := presentAp_only .cu (by decide)
@[simp] theorem presentAp_mp {t} : (presentAp t s).mp = s.mp := presentAp_only .mp (by decide)
@[simp] theorem presentAp_lc {t} : (presentAp t s).lc = s.lc := presentAp_only .lc (by decide)
@[simp] theorem presentAp_lanes {t} : (presentAp t s).lanes = s.lanes := presentAp_only .lanes (by decide)
@[simp] theorem presentAp_ts {t} : (presentAp t s).ts = s.ts := presentAp_only .ts (by decide)
@[simp] theorem presentAp_rc {t} : (presentAp t s).rc = s.rc := presentAp_only .rc (by decide)
@[simp] theorem presentAp_au {t} : (presentAp t s).au = s.au := presentAp_only .au (by decide)
@[simp] theorem presentAp_dm {t} : (presentAp t s).dm = s.dm := presentAp_only .dm (by decide)
@[simp] theorem presentAp_fu {t} : (presentAp t s).fu = s.fu := presentAp_only .fu (by decide)
@[simp] theorem presentAp_al {t} : (presentAp t s).al = s.al := presentAp_only .al (by decide)
@[simp] theorem presentAp_counters {t} : (presentAp t s).counters = s.counters := presentAp_only .counters (by decide)

theorem presentCp_only {t} : Only [.da, .re] s (presentCp t s) := by
  simp [Only.refl]
@[simp] theorem presentCp_pending {t} : (presentCp t s).pending = s.pending := presentCp_only .pending (by decide)
@[simp] theorem presentCp_drawn {t} : (presentCp t s).drawn = s.drawn := presentCp_only .drawn (by decide)
@[simp] theorem presentCp_pins {t} : (presentCp t s).pins = s.pins := presentCp_only .pins (by decide)
@[simp] theorem presentCp_port {t} : (presentCp t s).port = s.port := presentCp_only .port (by decide)
@[simp] theorem presentCp_params {t} : (presentCp t s).params = s.params := presentCp_only .params (by decide)
@[simp] theorem presentCp_out {t} : (presentCp t s).out = s.out := presentCp_only .out (by decide)
@[simp] theorem presentCp_inb {t} : (presentCp t s).inb = s.inb := presentCp_only .inb (by decide)
@[simp] theorem presentCp_rq {t} : (presentCp t s).rq = s.rq := presentCp_only .rq (by decide)
@[simp] theorem presentCp_cu {t} : (presentCp t s).cu = s.cu := presentCp_only .cu (by decide)
@[simp] theorem presentCp_mp {t} : (presentCp t s).mp = s.mp := presentCp_only .mp (by decide)
@[simp] theorem presentCp_lc {t} : (presentCp t s).lc = s.lc := presentCp_only .lc (by decide)
@[simp] theorem presentCp_lanes {t} : (presentCp t s).lanes = s.lanes := presentCp_only .lanes (by decide)
@[simp] theorem presentCp_ts {t} : (presentCp t s).ts = s.ts := presentCp_only .ts (by decide)
@[simp] theorem presentCp_rc {t} : (presentCp t s).rc = s.rc := presentCp_only .rc (by decide)
@[simp] theorem presentCp_au {t} : (presentCp t s).au = s.au := presentCp_only .au (by decide)
@[simp] theorem presentCp_dm {t} : (presentCp t s).dm = s.dm := presentCp_only .dm (by decide)
@[simp] theorem presentCp_fu {t} : (presentCp t s).fu = s.fu := presentCp_only .fu (by decide)
@[simp] theorem presentCp_al {t} : (presentCp t s).al = s.al := presentCp_only .al (by decide)
@[simp] theorem presentCp_counters {t} : (presentCp t s).counters = s.counters := presentCp_only .counters (by decide)

theorem releasePort_only : Only [.da, .re] s (releasePort s) := by
  simp [Only.refl]
@[simp] theorem releasePort_pending : (releasePort s).pending = s.pending := releasePort_only .pending (by decide)
@[simp] theorem releasePort_drawn : (releasePort s).drawn = s.drawn := releasePort_only .drawn (by decide)
@[simp] theorem releasePort_pins : (releasePort s).pins = s.pins := releasePort_only .pins (by decide)
@[simp] theorem releasePort_port : (releasePort s).port = s.port := releasePort_only .port (by decide)
@[simp] theorem releasePort_params : (releasePort s).params = s.params := releasePort_only .params (by decide)
@[simp] theorem releasePort_out : (releasePort s).out = s.out := releasePort_only .out (by decide)
@[simp] theorem releasePort_inb : (releasePort s).inb = s.inb := releasePort_only .inb (by decide)
@[simp] theorem releasePort_rq : (releasePort s).rq = s.rq := releasePort_only .rq (by decide)
@[simp] theorem releasePort_cu : (releasePort s).cu = s.cu := releasePort_only .cu (by decide)
@[simp] theorem releasePort_mp : (releasePort s).mp = s.mp := releasePort_only .mp (by decide)
@[simp] theorem releasePort_lc : (releasePort s).lc = s.lc := releasePort_only .lc (by decide)
@[simp] theorem releasePort_lanes : (releasePort s).lanes = s.lanes := releasePort_only .lanes (by decide)
@[simp] theorem releasePort_ts : (releasePort s).ts = s.ts := releasePort_only .ts (by decide)
@[simp] theorem releasePort_rc : (releasePort s).rc = s.rc := releasePort_only .rc (by decide)
@[simp] theorem releasePort_au : (releasePort s).au = s.au := releasePort_only .au (by decide)
@[simp] theorem releasePort_dm : (releasePort s).dm = s.dm := releasePort_only .dm (by decide)
@[simp] theorem releasePort_fu : (releasePort s).fu = s.fu := releasePort_only .fu (by decide)
@[simp] theorem releasePort_al : (releasePort s).al = s.al := releasePort_only .al (by decide)
@[simp] theorem releasePort_counters : (releasePort s).counters = s.counters := releasePort_only .counters (by decide)

theorem withdrawCp_only : Only [.da] s (withdrawCp s) := by
  simp [Only.refl]
@[simp] theorem withdrawCp_pending : (withdrawCp s).pending = s.pending := withdrawCp_only .pending (by decide)
@[simp] theorem withdrawCp_drawn : (withdrawCp s).drawn = s.drawn := withdrawCp_only .drawn (by decide)
@[simp] theorem withdrawCp_pins : (withdrawCp s).pins = s.pins := withdrawCp_only .pins (by decide)
@[simp] theorem withdrawCp_port : (withdrawCp s).port = s.port := withdrawCp_only .port (by decide)
@[simp] theorem withdrawCp_params : (withdrawCp s).params = s.params := withdrawCp_only .params (by decide)
@[simp] theorem withdrawCp_out : (withdrawCp s).out = s.out := withdrawCp_only .out (by decide)
@[simp] theorem withdrawCp_inb : (withdrawCp s).inb = s.inb := withdrawCp_only .inb (by decide)
@[simp] theorem withdrawCp_rq : (withdrawCp s).rq = s.rq := withdrawCp_only .rq (by decide)
@[simp] theorem withdrawCp_cu : (withdrawCp s).cu = s.cu := withdrawCp_only .cu (by decide)
@[simp] theorem withdrawCp_mp : (withdrawCp s).mp = s.mp := withdrawCp_only .mp (by decide)
@[simp] theorem withdrawCp_lc : (withdrawCp s).lc = s.lc := withdrawCp_only .lc (by decide)
@[simp] theorem withdrawCp_lanes : (withdrawCp s).lanes = s.lanes := withdrawCp_only .lanes (by decide)
@[simp] theorem withdrawCp_ts : (withdrawCp s).ts = s.ts := withdrawCp_only .ts (by decide)
@[simp] theorem withdrawCp_rc : (withdrawCp s).rc = s.rc := withdrawCp_only .rc (by decide)
@[simp] theorem withdrawCp_au : (withdrawCp s).au = s.au := withdrawCp_only .au (by decide)
@[simp] theorem withdrawCp_dm : (withdrawCp s).dm = s.dm := withdrawCp_only .dm (by decide)
@[simp] theorem withdrawCp_re : (withdrawCp s).re = s.re := withdrawCp_only .re (by decide)
@[simp] theorem withdrawCp_fu : (withdrawCp s).fu = s.fu := withdrawCp_only .fu (by decide)
@[simp] theorem withdrawCp_al : (withdrawCp s).al = s.al := withdrawCp_only .al (by decide)
@[simp] theorem withdrawCp_counters : (withdrawCp s).counters = s.counters := withdrawCp_only .counters (by decide)

theorem owe_only {o} : Only [.lanes] s (owe o s) := by
  simp [Only.refl]
@[simp] theorem owe_pending {o} : (owe o s).pending = s.pending := owe_only .pending (by decide)
@[simp] theorem owe_drawn {o} : (owe o s).drawn = s.drawn := owe_only .drawn (by decide)
@[simp] theorem owe_pins {o} : (owe o s).pins = s.pins := owe_only .pins (by decide)
@[simp] theorem owe_port {o} : (owe o s).port = s.port := owe_only .port (by decide)
@[simp] theorem owe_params {o} : (owe o s).params = s.params := owe_only .params (by decide)
@[simp] theorem owe_out {o} : (owe o s).out = s.out := owe_only .out (by decide)
@[simp] theorem owe_inb {o} : (owe o s).inb = s.inb := owe_only .inb (by decide)
@[simp] theorem owe_rq {o} : (owe o s).rq = s.rq := owe_only .rq (by decide)
@[simp] theorem owe_cu {o} : (owe o s).cu = s.cu := owe_only .cu (by decide)
@[simp] theorem owe_mp {o} : (owe o s).mp = s.mp := owe_only .mp (by decide)
@[simp] theorem owe_da {o} : (owe o s).da = s.da := owe_only .da (by decide)
@[simp] theorem owe_lc {o} : (owe o s).lc = s.lc := owe_only .lc (by decide)
@[simp] theorem owe_ts {o} : (owe o s).ts = s.ts := owe_only .ts (by decide)
@[simp] theorem owe_rc {o} : (owe o s).rc = s.rc := owe_only .rc (by decide)
@[simp] theorem owe_au {o} : (owe o s).au = s.au := owe_only .au (by decide)
@[simp] theorem owe_dm {o} : (owe o s).dm = s.dm := owe_only .dm (by decide)
@[simp] theorem owe_re {o} : (owe o s).re = s.re := owe_only .re (by decide)
@[simp] theorem owe_fu {o} : (owe o s).fu = s.fu := owe_only .fu (by decide)
@[simp] theorem owe_al {o} : (owe o s).al = s.al := owe_only .al (by decide)
@[simp] theorem owe_counters {o} : (owe o s).counters = s.counters := owe_only .counters (by decide)

theorem oweAck_only : Only [.lanes, .au] s (oweAck s) := by
  simp [Only.refl]
@[simp] theorem oweAck_pending : (oweAck s).pending = s.pending := oweAck_only .pending (by decide)
@[simp] theorem oweAck_drawn : (oweAck s).drawn = s.drawn := oweAck_only .drawn (by decide)
@[simp] theorem oweAck_pins : (oweAck s).pins = s.pins := oweAck_only .pins (by decide)
@[simp] theorem oweAck_port : (oweAck s).port = s.port := oweAck_only .port (by decide)
@[simp] theorem oweAck_params : (oweAck s).params = s.params := oweAck_only .params (by decide)
@[simp] theorem oweAck_out : (oweAck s).out = s.out := oweAck_only .out (by decide)
@[simp] theorem oweAck_inb : (oweAck s).inb = s.inb := oweAck_only .inb (by decide)
@[simp] theorem oweAck_rq : (oweAck s).rq = s.rq := oweAck_only .rq (by decide)
@[simp] theorem oweAck_cu : (oweAck s).cu = s.cu := oweAck_only .cu (by decide)
@[simp] theorem oweAck_mp : (oweAck s).mp = s.mp := oweAck_only .mp (by decide)
@[simp] theorem oweAck_da : (oweAck s).da = s.da := oweAck_only .da (by decide)
@[simp] theorem oweAck_lc : (oweAck s).lc = s.lc := oweAck_only .lc (by decide)
@[simp] theorem oweAck_ts : (oweAck s).ts = s.ts := oweAck_only .ts (by decide)
@[simp] theorem oweAck_rc : (oweAck s).rc = s.rc := oweAck_only .rc (by decide)
@[simp] theorem oweAck_dm : (oweAck s).dm = s.dm := oweAck_only .dm (by decide)
@[simp] theorem oweAck_re : (oweAck s).re = s.re := oweAck_only .re (by decide)
@[simp] theorem oweAck_fu : (oweAck s).fu = s.fu := oweAck_only .fu (by decide)
@[simp] theorem oweAck_al : (oweAck s).al = s.al := oweAck_only .al (by decide)
@[simp] theorem oweAck_counters : (oweAck s).counters = s.counters := oweAck_only .counters (by decide)

theorem oweNak_only : Only [.lanes, .rc] s (oweNak s) := by
  simp [Only.refl]
@[simp] theorem oweNak_pending : (oweNak s).pending = s.pending := oweNak_only .pending (by decide)
@[simp] theorem oweNak_drawn : (oweNak s).drawn = s.drawn := oweNak_only .drawn (by decide)
@[simp] theorem oweNak_pins : (oweNak s).pins = s.pins := oweNak_only .pins (by decide)
@[simp] theorem oweNak_port : (oweNak s).port = s.port := oweNak_only .port (by decide)
@[simp] theorem oweNak_params : (oweNak s).params = s.params := oweNak_only .params (by decide)
@[simp] theorem oweNak_out : (oweNak s).out = s.out := oweNak_only .out (by decide)
@[simp] theorem oweNak_inb : (oweNak s).inb = s.inb := oweNak_only .inb (by decide)
@[simp] theorem oweNak_rq : (oweNak s).rq = s.rq := oweNak_only .rq (by decide)
@[simp] theorem oweNak_cu : (oweNak s).cu = s.cu := oweNak_only .cu (by decide)
@[simp] theorem oweNak_mp : (oweNak s).mp = s.mp := oweNak_only .mp (by decide)
@[simp] theorem oweNak_da : (oweNak s).da = s.da := oweNak_only .da (by decide)
@[simp] theorem oweNak_lc : (oweNak s).lc = s.lc := oweNak_only .lc (by decide)
@[simp] theorem oweNak_ts : (oweNak s).ts = s.ts := oweNak_only .ts (by decide)
@[simp] theorem oweNak_au : (oweNak s).au = s.au := oweNak_only .au (by decide)
@[simp] theorem oweNak_dm : (oweNak s).dm = s.dm := oweNak_only .dm (by decide)
@[simp] theorem oweNak_re : (oweNak s).re = s.re := oweNak_only .re (by decide)
@[simp] theorem oweNak_fu : (oweNak s).fu = s.fu := oweNak_only .fu (by decide)
@[simp] theorem oweNak_al : (oweNak s).al = s.al := oweNak_only .al (by decide)
@[simp] theorem oweNak_counters : (oweNak s).counters = s.counters := oweNak_only .counters (by decide)

theorem oweHello_only : Only [.lanes] s (oweHello s) := by
  simp [Only.refl]
@[simp] theorem oweHello_pending : (oweHello s).pending = s.pending := oweHello_only .pending (by decide)
@[simp] theorem oweHello_drawn : (oweHello s).drawn = s.drawn := oweHello_only .drawn (by decide)
@[simp] theorem oweHello_pins : (oweHello s).pins = s.pins := oweHello_only .pins (by decide)
@[simp] theorem oweHello_port : (oweHello s).port = s.port := oweHello_only .port (by decide)
@[simp] theorem oweHello_params : (oweHello s).params = s.params := oweHello_only .params (by decide)
@[simp] theorem oweHello_out : (oweHello s).out = s.out := oweHello_only .out (by decide)
@[simp] theorem oweHello_inb : (oweHello s).inb = s.inb := oweHello_only .inb (by decide)
@[simp] theorem oweHello_rq : (oweHello s).rq = s.rq := oweHello_only .rq (by decide)
@[simp] theorem oweHello_cu : (oweHello s).cu = s.cu := oweHello_only .cu (by decide)
@[simp] theorem oweHello_mp : (oweHello s).mp = s.mp := oweHello_only .mp (by decide)
@[simp] theorem oweHello_da : (oweHello s).da = s.da := oweHello_only .da (by decide)
@[simp] theorem oweHello_lc : (oweHello s).lc = s.lc := oweHello_only .lc (by decide)
@[simp] theorem oweHello_ts : (oweHello s).ts = s.ts := oweHello_only .ts (by decide)
@[simp] theorem oweHello_rc : (oweHello s).rc = s.rc := oweHello_only .rc (by decide)
@[simp] theorem oweHello_au : (oweHello s).au = s.au := oweHello_only .au (by decide)
@[simp] theorem oweHello_dm : (oweHello s).dm = s.dm := oweHello_only .dm (by decide)
@[simp] theorem oweHello_re : (oweHello s).re = s.re := oweHello_only .re (by decide)
@[simp] theorem oweHello_fu : (oweHello s).fu = s.fu := oweHello_only .fu (by decide)
@[simp] theorem oweHello_al : (oweHello s).al = s.al := oweHello_only .al (by decide)
@[simp] theorem oweHello_counters : (oweHello s).counters = s.counters := oweHello_only .counters (by decide)

theorem applyQueueEmptied_only : Only [.lanes] s (applyQueueEmptied s) := by
  simp [Only.refl]
@[simp] theorem applyQueueEmptied_pending : (applyQueueEmptied s).pending = s.pending :=
  applyQueueEmptied_only .pending (by decide)
@[simp] theorem applyQueueEmptied_drawn : (applyQueueEmptied s).drawn = s.drawn :=
  applyQueueEmptied_only .drawn (by decide)
@[simp] theorem applyQueueEmptied_pins : (applyQueueEmptied s).pins = s.pins :=
  applyQueueEmptied_only .pins (by decide)
@[simp] theorem applyQueueEmptied_port : (applyQueueEmptied s).port = s.port :=
  applyQueueEmptied_only .port (by decide)
@[simp] theorem applyQueueEmptied_params : (applyQueueEmptied s).params = s.params :=
  applyQueueEmptied_only .params (by decide)
@[simp] theorem applyQueueEmptied_out : (applyQueueEmptied s).out = s.out := applyQueueEmptied_only .out (by decide)
@[simp] theorem applyQueueEmptied_inb : (applyQueueEmptied s).inb = s.inb := applyQueueEmptied_only .inb (by decide)
@[simp] theorem applyQueueEmptied_rq : (applyQueueEmptied s).rq = s.rq := applyQueueEmptied_only .rq (by decide)
@[simp] theorem applyQueueEmptied_cu : (applyQueueEmptied s).cu = s.cu := applyQueueEmptied_only .cu (by decide)
@[simp] theorem applyQueueEmptied_mp : (applyQueueEmptied s).mp = s.mp := applyQueueEmptied_only .mp (by decide)
@[simp] theorem applyQueueEmptied_da : (applyQueueEmptied s).da = s.da := applyQueueEmptied_only .da (by decide)
@[simp] theorem applyQueueEmptied_lc : (applyQueueEmptied s).lc = s.lc := applyQueueEmptied_only .lc (by decide)
@[simp] theorem applyQueueEmptied_ts : (applyQueueEmptied s).ts = s.ts := applyQueueEmptied_only .ts (by decide)
@[simp] theorem applyQueueEmptied_rc : (applyQueueEmptied s).rc = s.rc := applyQueueEmptied_only .rc (by decide)
@[simp] theorem applyQueueEmptied_au : (applyQueueEmptied s).au = s.au := applyQueueEmptied_only .au (by decide)
@[simp] theorem applyQueueEmptied_dm : (applyQueueEmptied s).dm = s.dm := applyQueueEmptied_only .dm (by decide)
@[simp] theorem applyQueueEmptied_re : (applyQueueEmptied s).re = s.re := applyQueueEmptied_only .re (by decide)
@[simp] theorem applyQueueEmptied_fu : (applyQueueEmptied s).fu = s.fu := applyQueueEmptied_only .fu (by decide)
@[simp] theorem applyQueueEmptied_al : (applyQueueEmptied s).al = s.al := applyQueueEmptied_only .al (by decide)
@[simp] theorem applyQueueEmptied_counters : (applyQueueEmptied s).counters = s.counters :=
  applyQueueEmptied_only .counters (by decide)

theorem closeTail_only : Only [.rq] s (closeTail s) := by
  simp [Only.refl]
@[simp] theorem closeTail_pending : (closeTail s).pending = s.pending := closeTail_only .pending (by decide)
@[simp] theorem closeTail_drawn : (closeTail s).drawn = s.drawn := closeTail_only .drawn (by decide)
@[simp] theorem closeTail_pins : (closeTail s).pins = s.pins := closeTail_only .pins (by decide)
@[simp] theorem closeTail_port : (closeTail s).port = s.port := closeTail_only .port (by decide)
@[simp] theorem closeTail_params : (closeTail s).params = s.params := closeTail_only .params (by decide)
@[simp] theorem closeTail_out : (closeTail s).out = s.out := closeTail_only .out (by decide)
@[simp] theorem closeTail_inb : (closeTail s).inb = s.inb := closeTail_only .inb (by decide)
@[simp] theorem closeTail_cu : (closeTail s).cu = s.cu := closeTail_only .cu (by decide)
@[simp] theorem closeTail_mp : (closeTail s).mp = s.mp := closeTail_only .mp (by decide)
@[simp] theorem closeTail_da : (closeTail s).da = s.da := closeTail_only .da (by decide)
@[simp] theorem closeTail_lc : (closeTail s).lc = s.lc := closeTail_only .lc (by decide)
@[simp] theorem closeTail_lanes : (closeTail s).lanes = s.lanes := closeTail_only .lanes (by decide)
@[simp] theorem closeTail_ts : (closeTail s).ts = s.ts := closeTail_only .ts (by decide)
@[simp] theorem closeTail_rc : (closeTail s).rc = s.rc := closeTail_only .rc (by decide)
@[simp] theorem closeTail_au : (closeTail s).au = s.au := closeTail_only .au (by decide)
@[simp] theorem closeTail_dm : (closeTail s).dm = s.dm := closeTail_only .dm (by decide)
@[simp] theorem closeTail_re : (closeTail s).re = s.re := closeTail_only .re (by decide)
@[simp] theorem closeTail_fu : (closeTail s).fu = s.fu := closeTail_only .fu (by decide)
@[simp] theorem closeTail_al : (closeTail s).al = s.al := closeTail_only .al (by decide)
@[simp] theorem closeTail_counters : (closeTail s).counters = s.counters := closeTail_only .counters (by decide)

theorem append_only {r} : Only [.rq] s (append r s) := by
  simp [Only.refl]
@[simp] theorem append_pending {r} : (append r s).pending = s.pending := append_only .pending (by decide)
@[simp] theorem append_drawn {r} : (append r s).drawn = s.drawn := append_only .drawn (by decide)
@[simp] theorem append_pins {r} : (append r s).pins = s.pins := append_only .pins (by decide)
@[simp] theorem append_port {r} : (append r s).port = s.port := append_only .port (by decide)
@[simp] theorem append_params {r} : (append r s).params = s.params := append_only .params (by decide)
@[simp] theorem append_out {r} : (append r s).out = s.out := append_only .out (by decide)
@[simp] theorem append_inb {r} : (append r s).inb = s.inb := append_only .inb (by decide)
@[simp] theorem append_cu {r} : (append r s).cu = s.cu := append_only .cu (by decide)
@[simp] theorem append_mp {r} : (append r s).mp = s.mp := append_only .mp (by decide)
@[simp] theorem append_da {r} : (append r s).da = s.da := append_only .da (by decide)
@[simp] theorem append_lc {r} : (append r s).lc = s.lc := append_only .lc (by decide)
@[simp] theorem append_lanes {r} : (append r s).lanes = s.lanes := append_only .lanes (by decide)
@[simp] theorem append_ts {r} : (append r s).ts = s.ts := append_only .ts (by decide)
@[simp] theorem append_rc {r} : (append r s).rc = s.rc := append_only .rc (by decide)
@[simp] theorem append_au {r} : (append r s).au = s.au := append_only .au (by decide)
@[simp] theorem append_dm {r} : (append r s).dm = s.dm := append_only .dm (by decide)
@[simp] theorem append_re {r} : (append r s).re = s.re := append_only .re (by decide)
@[simp] theorem append_fu {r} : (append r s).fu = s.fu := append_only .fu (by decide)
@[simp] theorem append_al {r} : (append r s).al = s.al := append_only .al (by decide)
@[simp] theorem append_counters {r} : (append r s).counters = s.counters := append_only .counters (by decide)

theorem merge_only {mask data} : Only [.rq] s (merge mask data s) := by
  simp [Only.refl]
@[simp] theorem merge_pending {mask data} : (merge mask data s).pending = s.pending := merge_only .pending (by decide)
@[simp] theorem merge_drawn {mask data} : (merge mask data s).drawn = s.drawn := merge_only .drawn (by decide)
@[simp] theorem merge_pins {mask data} : (merge mask data s).pins = s.pins := merge_only .pins (by decide)
@[simp] theorem merge_port {mask data} : (merge mask data s).port = s.port := merge_only .port (by decide)
@[simp] theorem merge_params {mask data} : (merge mask data s).params = s.params := merge_only .params (by decide)
@[simp] theorem merge_out {mask data} : (merge mask data s).out = s.out := merge_only .out (by decide)
@[simp] theorem merge_inb {mask data} : (merge mask data s).inb = s.inb := merge_only .inb (by decide)
@[simp] theorem merge_cu {mask data} : (merge mask data s).cu = s.cu := merge_only .cu (by decide)
@[simp] theorem merge_mp {mask data} : (merge mask data s).mp = s.mp := merge_only .mp (by decide)
@[simp] theorem merge_da {mask data} : (merge mask data s).da = s.da := merge_only .da (by decide)
@[simp] theorem merge_lc {mask data} : (merge mask data s).lc = s.lc := merge_only .lc (by decide)
@[simp] theorem merge_lanes {mask data} : (merge mask data s).lanes = s.lanes := merge_only .lanes (by decide)
@[simp] theorem merge_ts {mask data} : (merge mask data s).ts = s.ts := merge_only .ts (by decide)
@[simp] theorem merge_rc {mask data} : (merge mask data s).rc = s.rc := merge_only .rc (by decide)
@[simp] theorem merge_au {mask data} : (merge mask data s).au = s.au := merge_only .au (by decide)
@[simp] theorem merge_dm {mask data} : (merge mask data s).dm = s.dm := merge_only .dm (by decide)
@[simp] theorem merge_re {mask data} : (merge mask data s).re = s.re := merge_only .re (by decide)
@[simp] theorem merge_fu {mask data} : (merge mask data s).fu = s.fu := merge_only .fu (by decide)
@[simp] theorem merge_al {mask data} : (merge mask data s).al = s.al := merge_only .al (by decide)
@[simp] theorem merge_counters {mask data} : (merge mask data s).counters = s.counters :=
  merge_only .counters (by decide)

theorem removeHead_only {a} : Only [.rq] s (removeHead a s) := by
  simp [Only.refl]
@[simp] theorem removeHead_pending {a} : (removeHead a s).pending = s.pending := removeHead_only .pending (by decide)
@[simp] theorem removeHead_drawn {a} : (removeHead a s).drawn = s.drawn := removeHead_only .drawn (by decide)
@[simp] theorem removeHead_pins {a} : (removeHead a s).pins = s.pins := removeHead_only .pins (by decide)
@[simp] theorem removeHead_port {a} : (removeHead a s).port = s.port := removeHead_only .port (by decide)
@[simp] theorem removeHead_params {a} : (removeHead a s).params = s.params := removeHead_only .params (by decide)
@[simp] theorem removeHead_out {a} : (removeHead a s).out = s.out := removeHead_only .out (by decide)
@[simp] theorem removeHead_inb {a} : (removeHead a s).inb = s.inb := removeHead_only .inb (by decide)
@[simp] theorem removeHead_cu {a} : (removeHead a s).cu = s.cu := removeHead_only .cu (by decide)
@[simp] theorem removeHead_mp {a} : (removeHead a s).mp = s.mp := removeHead_only .mp (by decide)
@[simp] theorem removeHead_da {a} : (removeHead a s).da = s.da := removeHead_only .da (by decide)
@[simp] theorem removeHead_lc {a} : (removeHead a s).lc = s.lc := removeHead_only .lc (by decide)
@[simp] theorem removeHead_lanes {a} : (removeHead a s).lanes = s.lanes := removeHead_only .lanes (by decide)
@[simp] theorem removeHead_ts {a} : (removeHead a s).ts = s.ts := removeHead_only .ts (by decide)
@[simp] theorem removeHead_rc {a} : (removeHead a s).rc = s.rc := removeHead_only .rc (by decide)
@[simp] theorem removeHead_au {a} : (removeHead a s).au = s.au := removeHead_only .au (by decide)
@[simp] theorem removeHead_dm {a} : (removeHead a s).dm = s.dm := removeHead_only .dm (by decide)
@[simp] theorem removeHead_re {a} : (removeHead a s).re = s.re := removeHead_only .re (by decide)
@[simp] theorem removeHead_fu {a} : (removeHead a s).fu = s.fu := removeHead_only .fu (by decide)
@[simp] theorem removeHead_al {a} : (removeHead a s).al = s.al := removeHead_only .al (by decide)
@[simp] theorem removeHead_counters {a} : (removeHead a s).counters = s.counters :=
  removeHead_only .counters (by decide)

theorem discardRecords_only : Only [.rq] s (discardRecords s) := by
  simp [Only.refl]
@[simp] theorem discardRecords_pending : (discardRecords s).pending = s.pending :=
  discardRecords_only .pending (by decide)
@[simp] theorem discardRecords_drawn : (discardRecords s).drawn = s.drawn := discardRecords_only .drawn (by decide)
@[simp] theorem discardRecords_pins : (discardRecords s).pins = s.pins := discardRecords_only .pins (by decide)
@[simp] theorem discardRecords_port : (discardRecords s).port = s.port := discardRecords_only .port (by decide)
@[simp] theorem discardRecords_params : (discardRecords s).params = s.params :=
  discardRecords_only .params (by decide)
@[simp] theorem discardRecords_out : (discardRecords s).out = s.out := discardRecords_only .out (by decide)
@[simp] theorem discardRecords_inb : (discardRecords s).inb = s.inb := discardRecords_only .inb (by decide)
@[simp] theorem discardRecords_cu : (discardRecords s).cu = s.cu := discardRecords_only .cu (by decide)
@[simp] theorem discardRecords_mp : (discardRecords s).mp = s.mp := discardRecords_only .mp (by decide)
@[simp] theorem discardRecords_da : (discardRecords s).da = s.da := discardRecords_only .da (by decide)
@[simp] theorem discardRecords_lc : (discardRecords s).lc = s.lc := discardRecords_only .lc (by decide)
@[simp] theorem discardRecords_lanes : (discardRecords s).lanes = s.lanes := discardRecords_only .lanes (by decide)
@[simp] theorem discardRecords_ts : (discardRecords s).ts = s.ts := discardRecords_only .ts (by decide)
@[simp] theorem discardRecords_rc : (discardRecords s).rc = s.rc := discardRecords_only .rc (by decide)
@[simp] theorem discardRecords_au : (discardRecords s).au = s.au := discardRecords_only .au (by decide)
@[simp] theorem discardRecords_dm : (discardRecords s).dm = s.dm := discardRecords_only .dm (by decide)
@[simp] theorem discardRecords_re : (discardRecords s).re = s.re := discardRecords_only .re (by decide)
@[simp] theorem discardRecords_fu : (discardRecords s).fu = s.fu := discardRecords_only .fu (by decide)
@[simp] theorem discardRecords_al : (discardRecords s).al = s.al := discardRecords_only .al (by decide)
@[simp] theorem discardRecords_counters : (discardRecords s).counters = s.counters :=
  discardRecords_only .counters (by decide)

theorem degradeFences_only : Only [.fu] s (degradeFences s) := by
  simp [Only.refl]
@[simp] theorem degradeFences_pending : (degradeFences s).pending = s.pending :=
  degradeFences_only .pending (by decide)
@[simp] theorem degradeFences_drawn : (degradeFences s).drawn = s.drawn := degradeFences_only .drawn (by decide)
@[simp] theorem degradeFences_pins : (degradeFences s).pins = s.pins := degradeFences_only .pins (by decide)
@[simp] theorem degradeFences_port : (degradeFences s).port = s.port := degradeFences_only .port (by decide)
@[simp] theorem degradeFences_params : (degradeFences s).params = s.params := degradeFences_only .params (by decide)
@[simp] theorem degradeFences_out : (degradeFences s).out = s.out := degradeFences_only .out (by decide)
@[simp] theorem degradeFences_inb : (degradeFences s).inb = s.inb := degradeFences_only .inb (by decide)
@[simp] theorem degradeFences_rq : (degradeFences s).rq = s.rq := degradeFences_only .rq (by decide)
@[simp] theorem degradeFences_cu : (degradeFences s).cu = s.cu := degradeFences_only .cu (by decide)
@[simp] theorem degradeFences_mp : (degradeFences s).mp = s.mp := degradeFences_only .mp (by decide)
@[simp] theorem degradeFences_da : (degradeFences s).da = s.da := degradeFences_only .da (by decide)
@[simp] theorem degradeFences_lc : (degradeFences s).lc = s.lc := degradeFences_only .lc (by decide)
@[simp] theorem degradeFences_lanes : (degradeFences s).lanes = s.lanes := degradeFences_only .lanes (by decide)
@[simp] theorem degradeFences_ts : (degradeFences s).ts = s.ts := degradeFences_only .ts (by decide)
@[simp] theorem degradeFences_rc : (degradeFences s).rc = s.rc := degradeFences_only .rc (by decide)
@[simp] theorem degradeFences_au : (degradeFences s).au = s.au := degradeFences_only .au (by decide)
@[simp] theorem degradeFences_dm : (degradeFences s).dm = s.dm := degradeFences_only .dm (by decide)
@[simp] theorem degradeFences_re : (degradeFences s).re = s.re := degradeFences_only .re (by decide)
@[simp] theorem degradeFences_al : (degradeFences s).al = s.al := degradeFences_only .al (by decide)
@[simp] theorem degradeFences_counters : (degradeFences s).counters = s.counters :=
  degradeFences_only .counters (by decide)

theorem deliver_only {source ticket done degraded} : Only [.fu, .al] s (deliver source ticket done degraded s) := by
  simp [Only.refl]
@[simp] theorem deliver_pending {source ticket done degraded} : (deliver source ticket done degraded s).pending = s.pending :=
  deliver_only .pending (by decide)
@[simp] theorem deliver_drawn {source ticket done degraded} : (deliver source ticket done degraded s).drawn = s.drawn :=
  deliver_only .drawn (by decide)
@[simp] theorem deliver_pins {source ticket done degraded} : (deliver source ticket done degraded s).pins = s.pins :=
  deliver_only .pins (by decide)
@[simp] theorem deliver_port {source ticket done degraded} : (deliver source ticket done degraded s).port = s.port :=
  deliver_only .port (by decide)
@[simp] theorem deliver_params {source ticket done degraded} : (deliver source ticket done degraded s).params = s.params :=
  deliver_only .params (by decide)
@[simp] theorem deliver_out {source ticket done degraded} : (deliver source ticket done degraded s).out = s.out :=
  deliver_only .out (by decide)
@[simp] theorem deliver_inb {source ticket done degraded} : (deliver source ticket done degraded s).inb = s.inb :=
  deliver_only .inb (by decide)
@[simp] theorem deliver_rq {source ticket done degraded} : (deliver source ticket done degraded s).rq = s.rq :=
  deliver_only .rq (by decide)
@[simp] theorem deliver_cu {source ticket done degraded} : (deliver source ticket done degraded s).cu = s.cu :=
  deliver_only .cu (by decide)
@[simp] theorem deliver_mp {source ticket done degraded} : (deliver source ticket done degraded s).mp = s.mp :=
  deliver_only .mp (by decide)
@[simp] theorem deliver_da {source ticket done degraded} : (deliver source ticket done degraded s).da = s.da :=
  deliver_only .da (by decide)
@[simp] theorem deliver_lc {source ticket done degraded} : (deliver source ticket done degraded s).lc = s.lc :=
  deliver_only .lc (by decide)
@[simp] theorem deliver_lanes {source ticket done degraded} : (deliver source ticket done degraded s).lanes = s.lanes :=
  deliver_only .lanes (by decide)
@[simp] theorem deliver_ts {source ticket done degraded} : (deliver source ticket done degraded s).ts = s.ts :=
  deliver_only .ts (by decide)
@[simp] theorem deliver_rc {source ticket done degraded} : (deliver source ticket done degraded s).rc = s.rc :=
  deliver_only .rc (by decide)
@[simp] theorem deliver_au {source ticket done degraded} : (deliver source ticket done degraded s).au = s.au :=
  deliver_only .au (by decide)
@[simp] theorem deliver_dm {source ticket done degraded} : (deliver source ticket done degraded s).dm = s.dm :=
  deliver_only .dm (by decide)
@[simp] theorem deliver_re {source ticket done degraded} : (deliver source ticket done degraded s).re = s.re :=
  deliver_only .re (by decide)
@[simp] theorem deliver_counters {source ticket done degraded} : (deliver source ticket done degraded s).counters = s.counters :=
  deliver_only .counters (by decide)

theorem failAll_only {list} : Only [.fu, .al] s (failAll list s) := by
  simp [Only.refl]
@[simp] theorem failAll_pending {list} : (failAll list s).pending = s.pending := failAll_only .pending (by decide)
@[simp] theorem failAll_drawn {list} : (failAll list s).drawn = s.drawn := failAll_only .drawn (by decide)
@[simp] theorem failAll_pins {list} : (failAll list s).pins = s.pins := failAll_only .pins (by decide)
@[simp] theorem failAll_port {list} : (failAll list s).port = s.port := failAll_only .port (by decide)
@[simp] theorem failAll_params {list} : (failAll list s).params = s.params := failAll_only .params (by decide)
@[simp] theorem failAll_out {list} : (failAll list s).out = s.out := failAll_only .out (by decide)
@[simp] theorem failAll_inb {list} : (failAll list s).inb = s.inb := failAll_only .inb (by decide)
@[simp] theorem failAll_rq {list} : (failAll list s).rq = s.rq := failAll_only .rq (by decide)
@[simp] theorem failAll_cu {list} : (failAll list s).cu = s.cu := failAll_only .cu (by decide)
@[simp] theorem failAll_mp {list} : (failAll list s).mp = s.mp := failAll_only .mp (by decide)
@[simp] theorem failAll_da {list} : (failAll list s).da = s.da := failAll_only .da (by decide)
@[simp] theorem failAll_lc {list} : (failAll list s).lc = s.lc := failAll_only .lc (by decide)
@[simp] theorem failAll_lanes {list} : (failAll list s).lanes = s.lanes := failAll_only .lanes (by decide)
@[simp] theorem failAll_ts {list} : (failAll list s).ts = s.ts := failAll_only .ts (by decide)
@[simp] theorem failAll_rc {list} : (failAll list s).rc = s.rc := failAll_only .rc (by decide)
@[simp] theorem failAll_au {list} : (failAll list s).au = s.au := failAll_only .au (by decide)
@[simp] theorem failAll_dm {list} : (failAll list s).dm = s.dm := failAll_only .dm (by decide)
@[simp] theorem failAll_re {list} : (failAll list s).re = s.re := failAll_only .re (by decide)
@[simp] theorem failAll_counters {list} : (failAll list s).counters = s.counters := failAll_only .counters (by decide)

theorem issueFence_only {source} : Only [.rq, .fu, .al] s (issueFence source s) := by
  simp [Only.refl]
@[simp] theorem issueFence_pending {source} : (issueFence source s).pending = s.pending :=
  issueFence_only .pending (by decide)
@[simp] theorem issueFence_drawn {source} : (issueFence source s).drawn = s.drawn :=
  issueFence_only .drawn (by decide)
@[simp] theorem issueFence_pins {source} : (issueFence source s).pins = s.pins := issueFence_only .pins (by decide)
@[simp] theorem issueFence_port {source} : (issueFence source s).port = s.port := issueFence_only .port (by decide)
@[simp] theorem issueFence_params {source} : (issueFence source s).params = s.params :=
  issueFence_only .params (by decide)
@[simp] theorem issueFence_out {source} : (issueFence source s).out = s.out := issueFence_only .out (by decide)
@[simp] theorem issueFence_inb {source} : (issueFence source s).inb = s.inb := issueFence_only .inb (by decide)
@[simp] theorem issueFence_cu {source} : (issueFence source s).cu = s.cu := issueFence_only .cu (by decide)
@[simp] theorem issueFence_mp {source} : (issueFence source s).mp = s.mp := issueFence_only .mp (by decide)
@[simp] theorem issueFence_da {source} : (issueFence source s).da = s.da := issueFence_only .da (by decide)
@[simp] theorem issueFence_lc {source} : (issueFence source s).lc = s.lc := issueFence_only .lc (by decide)
@[simp] theorem issueFence_lanes {source} : (issueFence source s).lanes = s.lanes :=
  issueFence_only .lanes (by decide)
@[simp] theorem issueFence_ts {source} : (issueFence source s).ts = s.ts := issueFence_only .ts (by decide)
@[simp] theorem issueFence_rc {source} : (issueFence source s).rc = s.rc := issueFence_only .rc (by decide)
@[simp] theorem issueFence_au {source} : (issueFence source s).au = s.au := issueFence_only .au (by decide)
@[simp] theorem issueFence_dm {source} : (issueFence source s).dm = s.dm := issueFence_only .dm (by decide)
@[simp] theorem issueFence_re {source} : (issueFence source s).re = s.re := issueFence_only .re (by decide)
@[simp] theorem issueFence_counters {source} : (issueFence source s).counters = s.counters :=
  issueFence_only .counters (by decide)

theorem completeFront_only {f} : Only [.rq, .fu, .al] s (completeFront f s) := by
  simp [Only.refl]
@[simp] theorem completeFront_pending {f} : (completeFront f s).pending = s.pending :=
  completeFront_only .pending (by decide)
@[simp] theorem completeFront_drawn {f} : (completeFront f s).drawn = s.drawn := completeFront_only .drawn (by decide)
@[simp] theorem completeFront_pins {f} : (completeFront f s).pins = s.pins := completeFront_only .pins (by decide)
@[simp] theorem completeFront_port {f} : (completeFront f s).port = s.port := completeFront_only .port (by decide)
@[simp] theorem completeFront_params {f} : (completeFront f s).params = s.params :=
  completeFront_only .params (by decide)
@[simp] theorem completeFront_out {f} : (completeFront f s).out = s.out := completeFront_only .out (by decide)
@[simp] theorem completeFront_inb {f} : (completeFront f s).inb = s.inb := completeFront_only .inb (by decide)
@[simp] theorem completeFront_cu {f} : (completeFront f s).cu = s.cu := completeFront_only .cu (by decide)
@[simp] theorem completeFront_mp {f} : (completeFront f s).mp = s.mp := completeFront_only .mp (by decide)
@[simp] theorem completeFront_da {f} : (completeFront f s).da = s.da := completeFront_only .da (by decide)
@[simp] theorem completeFront_lc {f} : (completeFront f s).lc = s.lc := completeFront_only .lc (by decide)
@[simp] theorem completeFront_lanes {f} : (completeFront f s).lanes = s.lanes := completeFront_only .lanes (by decide)
@[simp] theorem completeFront_ts {f} : (completeFront f s).ts = s.ts := completeFront_only .ts (by decide)
@[simp] theorem completeFront_rc {f} : (completeFront f s).rc = s.rc := completeFront_only .rc (by decide)
@[simp] theorem completeFront_au {f} : (completeFront f s).au = s.au := completeFront_only .au (by decide)
@[simp] theorem completeFront_dm {f} : (completeFront f s).dm = s.dm := completeFront_only .dm (by decide)
@[simp] theorem completeFront_re {f} : (completeFront f s).re = s.re := completeFront_only .re (by decide)
@[simp] theorem completeFront_counters {f} : (completeFront f s).counters = s.counters :=
  completeFront_only .counters (by decide)

theorem completeFences_only {a} : Only [.rq, .fu, .al] s (completeFences a s) := by
  simp [Only.refl]
@[simp] theorem completeFences_pending {a} : (completeFences a s).pending = s.pending :=
  completeFences_only .pending (by decide)
@[simp] theorem completeFences_drawn {a} : (completeFences a s).drawn = s.drawn :=
  completeFences_only .drawn (by decide)
@[simp] theorem completeFences_pins {a} : (completeFences a s).pins = s.pins := completeFences_only .pins (by decide)
@[simp] theorem completeFences_port {a} : (completeFences a s).port = s.port := completeFences_only .port (by decide)
@[simp] theorem completeFences_params {a} : (completeFences a s).params = s.params :=
  completeFences_only .params (by decide)
@[simp] theorem completeFences_out {a} : (completeFences a s).out = s.out := completeFences_only .out (by decide)
@[simp] theorem completeFences_inb {a} : (completeFences a s).inb = s.inb := completeFences_only .inb (by decide)
@[simp] theorem completeFences_cu {a} : (completeFences a s).cu = s.cu := completeFences_only .cu (by decide)
@[simp] theorem completeFences_mp {a} : (completeFences a s).mp = s.mp := completeFences_only .mp (by decide)
@[simp] theorem completeFences_da {a} : (completeFences a s).da = s.da := completeFences_only .da (by decide)
@[simp] theorem completeFences_lc {a} : (completeFences a s).lc = s.lc := completeFences_only .lc (by decide)
@[simp] theorem completeFences_lanes {a} : (completeFences a s).lanes = s.lanes :=
  completeFences_only .lanes (by decide)
@[simp] theorem completeFences_ts {a} : (completeFences a s).ts = s.ts := completeFences_only .ts (by decide)
@[simp] theorem completeFences_rc {a} : (completeFences a s).rc = s.rc := completeFences_only .rc (by decide)
@[simp] theorem completeFences_au {a} : (completeFences a s).au = s.au := completeFences_only .au (by decide)
@[simp] theorem completeFences_dm {a} : (completeFences a s).dm = s.dm := completeFences_only .dm (by decide)
@[simp] theorem completeFences_re {a} : (completeFences a s).re = s.re := completeFences_only .re (by decide)
@[simp] theorem completeFences_counters {a} : (completeFences a s).counters = s.counters :=
  completeFences_only .counters (by decide)

theorem failFences_only {before} : Only [.drawn, .fu, .al] s (failFences before s) := by
  simp [Only.refl]
@[simp] theorem failFences_pending {before} : (failFences before s).pending = s.pending :=
  failFences_only .pending (by decide)
@[simp] theorem failFences_pins {before} : (failFences before s).pins = s.pins := failFences_only .pins (by decide)
@[simp] theorem failFences_port {before} : (failFences before s).port = s.port := failFences_only .port (by decide)
@[simp] theorem failFences_params {before} : (failFences before s).params = s.params :=
  failFences_only .params (by decide)
@[simp] theorem failFences_out {before} : (failFences before s).out = s.out := failFences_only .out (by decide)
@[simp] theorem failFences_inb {before} : (failFences before s).inb = s.inb := failFences_only .inb (by decide)
@[simp] theorem failFences_rq {before} : (failFences before s).rq = s.rq := failFences_only .rq (by decide)
@[simp] theorem failFences_cu {before} : (failFences before s).cu = s.cu := failFences_only .cu (by decide)
@[simp] theorem failFences_mp {before} : (failFences before s).mp = s.mp := failFences_only .mp (by decide)
@[simp] theorem failFences_da {before} : (failFences before s).da = s.da := failFences_only .da (by decide)
@[simp] theorem failFences_lc {before} : (failFences before s).lc = s.lc := failFences_only .lc (by decide)
@[simp] theorem failFences_lanes {before} : (failFences before s).lanes = s.lanes :=
  failFences_only .lanes (by decide)
@[simp] theorem failFences_ts {before} : (failFences before s).ts = s.ts := failFences_only .ts (by decide)
@[simp] theorem failFences_rc {before} : (failFences before s).rc = s.rc := failFences_only .rc (by decide)
@[simp] theorem failFences_au {before} : (failFences before s).au = s.au := failFences_only .au (by decide)
@[simp] theorem failFences_dm {before} : (failFences before s).dm = s.dm := failFences_only .dm (by decide)
@[simp] theorem failFences_re {before} : (failFences before s).re = s.re := failFences_only .re (by decide)
@[simp] theorem failFences_counters {before} : (failFences before s).counters = s.counters :=
  failFences_only .counters (by decide)

theorem redirty_only {w k} : Only [.re] s (redirty w k s) := by
  simp [Only.refl]
@[simp] theorem redirty_pending {w k} : (redirty w k s).pending = s.pending := redirty_only .pending (by decide)
@[simp] theorem redirty_drawn {w k} : (redirty w k s).drawn = s.drawn := redirty_only .drawn (by decide)
@[simp] theorem redirty_pins {w k} : (redirty w k s).pins = s.pins := redirty_only .pins (by decide)
@[simp] theorem redirty_port {w k} : (redirty w k s).port = s.port := redirty_only .port (by decide)
@[simp] theorem redirty_params {w k} : (redirty w k s).params = s.params := redirty_only .params (by decide)
@[simp] theorem redirty_out {w k} : (redirty w k s).out = s.out := redirty_only .out (by decide)
@[simp] theorem redirty_inb {w k} : (redirty w k s).inb = s.inb := redirty_only .inb (by decide)
@[simp] theorem redirty_rq {w k} : (redirty w k s).rq = s.rq := redirty_only .rq (by decide)
@[simp] theorem redirty_cu {w k} : (redirty w k s).cu = s.cu := redirty_only .cu (by decide)
@[simp] theorem redirty_mp {w k} : (redirty w k s).mp = s.mp := redirty_only .mp (by decide)
@[simp] theorem redirty_da {w k} : (redirty w k s).da = s.da := redirty_only .da (by decide)
@[simp] theorem redirty_lc {w k} : (redirty w k s).lc = s.lc := redirty_only .lc (by decide)
@[simp] theorem redirty_lanes {w k} : (redirty w k s).lanes = s.lanes := redirty_only .lanes (by decide)
@[simp] theorem redirty_ts {w k} : (redirty w k s).ts = s.ts := redirty_only .ts (by decide)
@[simp] theorem redirty_rc {w k} : (redirty w k s).rc = s.rc := redirty_only .rc (by decide)
@[simp] theorem redirty_au {w k} : (redirty w k s).au = s.au := redirty_only .au (by decide)
@[simp] theorem redirty_dm {w k} : (redirty w k s).dm = s.dm := redirty_only .dm (by decide)
@[simp] theorem redirty_fu {w k} : (redirty w k s).fu = s.fu := redirty_only .fu (by decide)
@[simp] theorem redirty_al {w k} : (redirty w k s).al = s.al := redirty_only .al (by decide)
@[simp] theorem redirty_counters {w k} : (redirty w k s).counters = s.counters := redirty_only .counters (by decide)

theorem markSegment_only {w k} : Only [.out, .dm, .re] s (markSegment w k s) := by
  simp [Only.refl]
@[simp] theorem markSegment_pending {w k} : (markSegment w k s).pending = s.pending :=
  markSegment_only .pending (by decide)
@[simp] theorem markSegment_drawn {w k} : (markSegment w k s).drawn = s.drawn := markSegment_only .drawn (by decide)
@[simp] theorem markSegment_pins {w k} : (markSegment w k s).pins = s.pins := markSegment_only .pins (by decide)
@[simp] theorem markSegment_port {w k} : (markSegment w k s).port = s.port := markSegment_only .port (by decide)
@[simp] theorem markSegment_params {w k} : (markSegment w k s).params = s.params :=
  markSegment_only .params (by decide)
@[simp] theorem markSegment_inb {w k} : (markSegment w k s).inb = s.inb := markSegment_only .inb (by decide)
@[simp] theorem markSegment_rq {w k} : (markSegment w k s).rq = s.rq := markSegment_only .rq (by decide)
@[simp] theorem markSegment_cu {w k} : (markSegment w k s).cu = s.cu := markSegment_only .cu (by decide)
@[simp] theorem markSegment_mp {w k} : (markSegment w k s).mp = s.mp := markSegment_only .mp (by decide)
@[simp] theorem markSegment_da {w k} : (markSegment w k s).da = s.da := markSegment_only .da (by decide)
@[simp] theorem markSegment_lc {w k} : (markSegment w k s).lc = s.lc := markSegment_only .lc (by decide)
@[simp] theorem markSegment_lanes {w k} : (markSegment w k s).lanes = s.lanes := markSegment_only .lanes (by decide)
@[simp] theorem markSegment_ts {w k} : (markSegment w k s).ts = s.ts := markSegment_only .ts (by decide)
@[simp] theorem markSegment_rc {w k} : (markSegment w k s).rc = s.rc := markSegment_only .rc (by decide)
@[simp] theorem markSegment_au {w k} : (markSegment w k s).au = s.au := markSegment_only .au (by decide)
@[simp] theorem markSegment_fu {w k} : (markSegment w k s).fu = s.fu := markSegment_only .fu (by decide)
@[simp] theorem markSegment_al {w k} : (markSegment w k s).al = s.al := markSegment_only .al (by decide)
@[simp] theorem markSegment_counters {w k} : (markSegment w k s).counters = s.counters :=
  markSegment_only .counters (by decide)

theorem markLine_only {w line} : Only [.out, .dm, .re] s (markLine w line s) := by
  simp [Only.refl]
@[simp] theorem markLine_pending {w line} : (markLine w line s).pending = s.pending :=
  markLine_only .pending (by decide)
@[simp] theorem markLine_drawn {w line} : (markLine w line s).drawn = s.drawn := markLine_only .drawn (by decide)
@[simp] theorem markLine_pins {w line} : (markLine w line s).pins = s.pins := markLine_only .pins (by decide)
@[simp] theorem markLine_port {w line} : (markLine w line s).port = s.port := markLine_only .port (by decide)
@[simp] theorem markLine_params {w line} : (markLine w line s).params = s.params := markLine_only .params (by decide)
@[simp] theorem markLine_inb {w line} : (markLine w line s).inb = s.inb := markLine_only .inb (by decide)
@[simp] theorem markLine_rq {w line} : (markLine w line s).rq = s.rq := markLine_only .rq (by decide)
@[simp] theorem markLine_cu {w line} : (markLine w line s).cu = s.cu := markLine_only .cu (by decide)
@[simp] theorem markLine_mp {w line} : (markLine w line s).mp = s.mp := markLine_only .mp (by decide)
@[simp] theorem markLine_da {w line} : (markLine w line s).da = s.da := markLine_only .da (by decide)
@[simp] theorem markLine_lc {w line} : (markLine w line s).lc = s.lc := markLine_only .lc (by decide)
@[simp] theorem markLine_lanes {w line} : (markLine w line s).lanes = s.lanes := markLine_only .lanes (by decide)
@[simp] theorem markLine_ts {w line} : (markLine w line s).ts = s.ts := markLine_only .ts (by decide)
@[simp] theorem markLine_rc {w line} : (markLine w line s).rc = s.rc := markLine_only .rc (by decide)
@[simp] theorem markLine_au {w line} : (markLine w line s).au = s.au := markLine_only .au (by decide)
@[simp] theorem markLine_fu {w line} : (markLine w line s).fu = s.fu := markLine_only .fu (by decide)
@[simp] theorem markLine_al {w line} : (markLine w line s).al = s.al := markLine_only .al (by decide)
@[simp] theorem markLine_counters {w line} : (markLine w line s).counters = s.counters :=
  markLine_only .counters (by decide)

theorem clearSegment_only {w k} : Only [.out, .dm] s (clearSegment w k s) := by
  simp [Only.refl]
@[simp] theorem clearSegment_pending {w k} : (clearSegment w k s).pending = s.pending :=
  clearSegment_only .pending (by decide)
@[simp] theorem clearSegment_drawn {w k} : (clearSegment w k s).drawn = s.drawn :=
  clearSegment_only .drawn (by decide)
@[simp] theorem clearSegment_pins {w k} : (clearSegment w k s).pins = s.pins := clearSegment_only .pins (by decide)
@[simp] theorem clearSegment_port {w k} : (clearSegment w k s).port = s.port := clearSegment_only .port (by decide)
@[simp] theorem clearSegment_params {w k} : (clearSegment w k s).params = s.params :=
  clearSegment_only .params (by decide)
@[simp] theorem clearSegment_inb {w k} : (clearSegment w k s).inb = s.inb := clearSegment_only .inb (by decide)
@[simp] theorem clearSegment_rq {w k} : (clearSegment w k s).rq = s.rq := clearSegment_only .rq (by decide)
@[simp] theorem clearSegment_cu {w k} : (clearSegment w k s).cu = s.cu := clearSegment_only .cu (by decide)
@[simp] theorem clearSegment_mp {w k} : (clearSegment w k s).mp = s.mp := clearSegment_only .mp (by decide)
@[simp] theorem clearSegment_da {w k} : (clearSegment w k s).da = s.da := clearSegment_only .da (by decide)
@[simp] theorem clearSegment_lc {w k} : (clearSegment w k s).lc = s.lc := clearSegment_only .lc (by decide)
@[simp] theorem clearSegment_lanes {w k} : (clearSegment w k s).lanes = s.lanes :=
  clearSegment_only .lanes (by decide)
@[simp] theorem clearSegment_ts {w k} : (clearSegment w k s).ts = s.ts := clearSegment_only .ts (by decide)
@[simp] theorem clearSegment_rc {w k} : (clearSegment w k s).rc = s.rc := clearSegment_only .rc (by decide)
@[simp] theorem clearSegment_au {w k} : (clearSegment w k s).au = s.au := clearSegment_only .au (by decide)
@[simp] theorem clearSegment_re {w k} : (clearSegment w k s).re = s.re := clearSegment_only .re (by decide)
@[simp] theorem clearSegment_fu {w k} : (clearSegment w k s).fu = s.fu := clearSegment_only .fu (by decide)
@[simp] theorem clearSegment_al {w k} : (clearSegment w k s).al = s.al := clearSegment_only .al (by decide)
@[simp] theorem clearSegment_counters {w k} : (clearSegment w k s).counters = s.counters :=
  clearSegment_only .counters (by decide)

theorem abandon_only : Only [.da, .re] s (abandon s) := by
  simp [Only.refl]
@[simp] theorem abandon_pending : (abandon s).pending = s.pending := abandon_only .pending (by decide)
@[simp] theorem abandon_drawn : (abandon s).drawn = s.drawn := abandon_only .drawn (by decide)
@[simp] theorem abandon_pins : (abandon s).pins = s.pins := abandon_only .pins (by decide)
@[simp] theorem abandon_port : (abandon s).port = s.port := abandon_only .port (by decide)
@[simp] theorem abandon_params : (abandon s).params = s.params := abandon_only .params (by decide)
@[simp] theorem abandon_out : (abandon s).out = s.out := abandon_only .out (by decide)
@[simp] theorem abandon_inb : (abandon s).inb = s.inb := abandon_only .inb (by decide)
@[simp] theorem abandon_rq : (abandon s).rq = s.rq := abandon_only .rq (by decide)
@[simp] theorem abandon_cu : (abandon s).cu = s.cu := abandon_only .cu (by decide)
@[simp] theorem abandon_mp : (abandon s).mp = s.mp := abandon_only .mp (by decide)
@[simp] theorem abandon_lc : (abandon s).lc = s.lc := abandon_only .lc (by decide)
@[simp] theorem abandon_lanes : (abandon s).lanes = s.lanes := abandon_only .lanes (by decide)
@[simp] theorem abandon_ts : (abandon s).ts = s.ts := abandon_only .ts (by decide)
@[simp] theorem abandon_rc : (abandon s).rc = s.rc := abandon_only .rc (by decide)
@[simp] theorem abandon_au : (abandon s).au = s.au := abandon_only .au (by decide)
@[simp] theorem abandon_dm : (abandon s).dm = s.dm := abandon_only .dm (by decide)
@[simp] theorem abandon_fu : (abandon s).fu = s.fu := abandon_only .fu (by decide)
@[simp] theorem abandon_al : (abandon s).al = s.al := abandon_only .al (by decide)
@[simp] theorem abandon_counters : (abandon s).counters = s.counters := abandon_only .counters (by decide)

theorem selectSegment_only : Only [.out, .re] s (selectSegment s) := by
  simp [Only.refl]
@[simp] theorem selectSegment_pending : (selectSegment s).pending = s.pending :=
  selectSegment_only .pending (by decide)
@[simp] theorem selectSegment_drawn : (selectSegment s).drawn = s.drawn := selectSegment_only .drawn (by decide)
@[simp] theorem selectSegment_pins : (selectSegment s).pins = s.pins := selectSegment_only .pins (by decide)
@[simp] theorem selectSegment_port : (selectSegment s).port = s.port := selectSegment_only .port (by decide)
@[simp] theorem selectSegment_params : (selectSegment s).params = s.params := selectSegment_only .params (by decide)
@[simp] theorem selectSegment_inb : (selectSegment s).inb = s.inb := selectSegment_only .inb (by decide)
@[simp] theorem selectSegment_rq : (selectSegment s).rq = s.rq := selectSegment_only .rq (by decide)
@[simp] theorem selectSegment_cu : (selectSegment s).cu = s.cu := selectSegment_only .cu (by decide)
@[simp] theorem selectSegment_mp : (selectSegment s).mp = s.mp := selectSegment_only .mp (by decide)
@[simp] theorem selectSegment_da : (selectSegment s).da = s.da := selectSegment_only .da (by decide)
@[simp] theorem selectSegment_lc : (selectSegment s).lc = s.lc := selectSegment_only .lc (by decide)
@[simp] theorem selectSegment_lanes : (selectSegment s).lanes = s.lanes := selectSegment_only .lanes (by decide)
@[simp] theorem selectSegment_ts : (selectSegment s).ts = s.ts := selectSegment_only .ts (by decide)
@[simp] theorem selectSegment_rc : (selectSegment s).rc = s.rc := selectSegment_only .rc (by decide)
@[simp] theorem selectSegment_au : (selectSegment s).au = s.au := selectSegment_only .au (by decide)
@[simp] theorem selectSegment_dm : (selectSegment s).dm = s.dm := selectSegment_only .dm (by decide)
@[simp] theorem selectSegment_fu : (selectSegment s).fu = s.fu := selectSegment_only .fu (by decide)
@[simp] theorem selectSegment_al : (selectSegment s).al = s.al := selectSegment_only .al (by decide)
@[simp] theorem selectSegment_counters : (selectSegment s).counters = s.counters :=
  selectSegment_only .counters (by decide)

theorem startRead_only : Only [.da, .re] s (startRead s) := by
  simp [Only.refl]
@[simp] theorem startRead_pending : (startRead s).pending = s.pending := startRead_only .pending (by decide)
@[simp] theorem startRead_drawn : (startRead s).drawn = s.drawn := startRead_only .drawn (by decide)
@[simp] theorem startRead_pins : (startRead s).pins = s.pins := startRead_only .pins (by decide)
@[simp] theorem startRead_port : (startRead s).port = s.port := startRead_only .port (by decide)
@[simp] theorem startRead_params : (startRead s).params = s.params := startRead_only .params (by decide)
@[simp] theorem startRead_out : (startRead s).out = s.out := startRead_only .out (by decide)
@[simp] theorem startRead_inb : (startRead s).inb = s.inb := startRead_only .inb (by decide)
@[simp] theorem startRead_rq : (startRead s).rq = s.rq := startRead_only .rq (by decide)
@[simp] theorem startRead_cu : (startRead s).cu = s.cu := startRead_only .cu (by decide)
@[simp] theorem startRead_mp : (startRead s).mp = s.mp := startRead_only .mp (by decide)
@[simp] theorem startRead_lc : (startRead s).lc = s.lc := startRead_only .lc (by decide)
@[simp] theorem startRead_lanes : (startRead s).lanes = s.lanes := startRead_only .lanes (by decide)
@[simp] theorem startRead_ts : (startRead s).ts = s.ts := startRead_only .ts (by decide)
@[simp] theorem startRead_rc : (startRead s).rc = s.rc := startRead_only .rc (by decide)
@[simp] theorem startRead_au : (startRead s).au = s.au := startRead_only .au (by decide)
@[simp] theorem startRead_dm : (startRead s).dm = s.dm := startRead_only .dm (by decide)
@[simp] theorem startRead_fu : (startRead s).fu = s.fu := startRead_only .fu (by decide)
@[simp] theorem startRead_al : (startRead s).al = s.al := startRead_only .al (by decide)
@[simp] theorem startRead_counters : (startRead s).counters = s.counters := startRead_only .counters (by decide)

theorem advanceEngine_only : Only [.out, .da, .re] s (advanceEngine s) := by
  simp [Only.refl]
@[simp] theorem advanceEngine_pending : (advanceEngine s).pending = s.pending :=
  advanceEngine_only .pending (by decide)
@[simp] theorem advanceEngine_drawn : (advanceEngine s).drawn = s.drawn := advanceEngine_only .drawn (by decide)
@[simp] theorem advanceEngine_pins : (advanceEngine s).pins = s.pins := advanceEngine_only .pins (by decide)
@[simp] theorem advanceEngine_port : (advanceEngine s).port = s.port := advanceEngine_only .port (by decide)
@[simp] theorem advanceEngine_params : (advanceEngine s).params = s.params := advanceEngine_only .params (by decide)
@[simp] theorem advanceEngine_inb : (advanceEngine s).inb = s.inb := advanceEngine_only .inb (by decide)
@[simp] theorem advanceEngine_rq : (advanceEngine s).rq = s.rq := advanceEngine_only .rq (by decide)
@[simp] theorem advanceEngine_cu : (advanceEngine s).cu = s.cu := advanceEngine_only .cu (by decide)
@[simp] theorem advanceEngine_mp : (advanceEngine s).mp = s.mp := advanceEngine_only .mp (by decide)
@[simp] theorem advanceEngine_lc : (advanceEngine s).lc = s.lc := advanceEngine_only .lc (by decide)
@[simp] theorem advanceEngine_lanes : (advanceEngine s).lanes = s.lanes := advanceEngine_only .lanes (by decide)
@[simp] theorem advanceEngine_ts : (advanceEngine s).ts = s.ts := advanceEngine_only .ts (by decide)
@[simp] theorem advanceEngine_rc : (advanceEngine s).rc = s.rc := advanceEngine_only .rc (by decide)
@[simp] theorem advanceEngine_au : (advanceEngine s).au = s.au := advanceEngine_only .au (by decide)
@[simp] theorem advanceEngine_dm : (advanceEngine s).dm = s.dm := advanceEngine_only .dm (by decide)
@[simp] theorem advanceEngine_fu : (advanceEngine s).fu = s.fu := advanceEngine_only .fu (by decide)
@[simp] theorem advanceEngine_al : (advanceEngine s).al = s.al := advanceEngine_only .al (by decide)
@[simp] theorem advanceEngine_counters : (advanceEngine s).counters = s.counters :=
  advanceEngine_only .counters (by decide)

theorem raiseEntry_only {w old new} : Only [.al] s (raiseEntry w old new s) := by
  simp [Only.refl]
@[simp] theorem raiseEntry_pending {w old new} : (raiseEntry w old new s).pending = s.pending :=
  raiseEntry_only .pending (by decide)
@[simp] theorem raiseEntry_drawn {w old new} : (raiseEntry w old new s).drawn = s.drawn :=
  raiseEntry_only .drawn (by decide)
@[simp] theorem raiseEntry_pins {w old new} : (raiseEntry w old new s).pins = s.pins :=
  raiseEntry_only .pins (by decide)
@[simp] theorem raiseEntry_port {w old new} : (raiseEntry w old new s).port = s.port :=
  raiseEntry_only .port (by decide)
@[simp] theorem raiseEntry_params {w old new} : (raiseEntry w old new s).params = s.params :=
  raiseEntry_only .params (by decide)
@[simp] theorem raiseEntry_out {w old new} : (raiseEntry w old new s).out = s.out := raiseEntry_only .out (by decide)
@[simp] theorem raiseEntry_inb {w old new} : (raiseEntry w old new s).inb = s.inb := raiseEntry_only .inb (by decide)
@[simp] theorem raiseEntry_rq {w old new} : (raiseEntry w old new s).rq = s.rq := raiseEntry_only .rq (by decide)
@[simp] theorem raiseEntry_cu {w old new} : (raiseEntry w old new s).cu = s.cu := raiseEntry_only .cu (by decide)
@[simp] theorem raiseEntry_mp {w old new} : (raiseEntry w old new s).mp = s.mp := raiseEntry_only .mp (by decide)
@[simp] theorem raiseEntry_da {w old new} : (raiseEntry w old new s).da = s.da := raiseEntry_only .da (by decide)
@[simp] theorem raiseEntry_lc {w old new} : (raiseEntry w old new s).lc = s.lc := raiseEntry_only .lc (by decide)
@[simp] theorem raiseEntry_lanes {w old new} : (raiseEntry w old new s).lanes = s.lanes :=
  raiseEntry_only .lanes (by decide)
@[simp] theorem raiseEntry_ts {w old new} : (raiseEntry w old new s).ts = s.ts := raiseEntry_only .ts (by decide)
@[simp] theorem raiseEntry_rc {w old new} : (raiseEntry w old new s).rc = s.rc := raiseEntry_only .rc (by decide)
@[simp] theorem raiseEntry_au {w old new} : (raiseEntry w old new s).au = s.au := raiseEntry_only .au (by decide)
@[simp] theorem raiseEntry_dm {w old new} : (raiseEntry w old new s).dm = s.dm := raiseEntry_only .dm (by decide)
@[simp] theorem raiseEntry_re {w old new} : (raiseEntry w old new s).re = s.re := raiseEntry_only .re (by decide)
@[simp] theorem raiseEntry_fu {w old new} : (raiseEntry w old new s).fu = s.fu := raiseEntry_only .fu (by decide)
@[simp] theorem raiseEntry_counters {w old new} : (raiseEntry w old new s).counters = s.counters :=
  raiseEntry_only .counters (by decide)

theorem tellEngine_only {w old new} : Only [.da, .re] s (tellEngine w old new s) := by
  simp [Only.refl]
@[simp] theorem tellEngine_pending {w old new} : (tellEngine w old new s).pending = s.pending :=
  tellEngine_only .pending (by decide)
@[simp] theorem tellEngine_drawn {w old new} : (tellEngine w old new s).drawn = s.drawn :=
  tellEngine_only .drawn (by decide)
@[simp] theorem tellEngine_pins {w old new} : (tellEngine w old new s).pins = s.pins :=
  tellEngine_only .pins (by decide)
@[simp] theorem tellEngine_port {w old new} : (tellEngine w old new s).port = s.port :=
  tellEngine_only .port (by decide)
@[simp] theorem tellEngine_params {w old new} : (tellEngine w old new s).params = s.params :=
  tellEngine_only .params (by decide)
@[simp] theorem tellEngine_out {w old new} : (tellEngine w old new s).out = s.out := tellEngine_only .out (by decide)
@[simp] theorem tellEngine_inb {w old new} : (tellEngine w old new s).inb = s.inb := tellEngine_only .inb (by decide)
@[simp] theorem tellEngine_rq {w old new} : (tellEngine w old new s).rq = s.rq := tellEngine_only .rq (by decide)
@[simp] theorem tellEngine_cu {w old new} : (tellEngine w old new s).cu = s.cu := tellEngine_only .cu (by decide)
@[simp] theorem tellEngine_mp {w old new} : (tellEngine w old new s).mp = s.mp := tellEngine_only .mp (by decide)
@[simp] theorem tellEngine_lc {w old new} : (tellEngine w old new s).lc = s.lc := tellEngine_only .lc (by decide)
@[simp] theorem tellEngine_lanes {w old new} : (tellEngine w old new s).lanes = s.lanes :=
  tellEngine_only .lanes (by decide)
@[simp] theorem tellEngine_ts {w old new} : (tellEngine w old new s).ts = s.ts := tellEngine_only .ts (by decide)
@[simp] theorem tellEngine_rc {w old new} : (tellEngine w old new s).rc = s.rc := tellEngine_only .rc (by decide)
@[simp] theorem tellEngine_au {w old new} : (tellEngine w old new s).au = s.au := tellEngine_only .au (by decide)
@[simp] theorem tellEngine_dm {w old new} : (tellEngine w old new s).dm = s.dm := tellEngine_only .dm (by decide)
@[simp] theorem tellEngine_fu {w old new} : (tellEngine w old new s).fu = s.fu := tellEngine_only .fu (by decide)
@[simp] theorem tellEngine_al {w old new} : (tellEngine w old new s).al = s.al := tellEngine_only .al (by decide)
@[simp] theorem tellEngine_counters {w old new} : (tellEngine w old new s).counters = s.counters :=
  tellEngine_only .counters (by decide)

theorem enterWindow_only {w new halt} : Only [.out, .da, .re, .fu, .al] s (enterWindow w new halt s) := by
  simp [Only.refl]
@[simp] theorem enterWindow_pending {w new halt} : (enterWindow w new halt s).pending = s.pending :=
  enterWindow_only .pending (by decide)
@[simp] theorem enterWindow_drawn {w new halt} : (enterWindow w new halt s).drawn = s.drawn :=
  enterWindow_only .drawn (by decide)
@[simp] theorem enterWindow_pins {w new halt} : (enterWindow w new halt s).pins = s.pins :=
  enterWindow_only .pins (by decide)
@[simp] theorem enterWindow_port {w new halt} : (enterWindow w new halt s).port = s.port :=
  enterWindow_only .port (by decide)
@[simp] theorem enterWindow_params {w new halt} : (enterWindow w new halt s).params = s.params :=
  enterWindow_only .params (by decide)
@[simp] theorem enterWindow_inb {w new halt} : (enterWindow w new halt s).inb = s.inb :=
  enterWindow_only .inb (by decide)
@[simp] theorem enterWindow_rq {w new halt} : (enterWindow w new halt s).rq = s.rq := enterWindow_only .rq (by decide)
@[simp] theorem enterWindow_cu {w new halt} : (enterWindow w new halt s).cu = s.cu := enterWindow_only .cu (by decide)
@[simp] theorem enterWindow_mp {w new halt} : (enterWindow w new halt s).mp = s.mp := enterWindow_only .mp (by decide)
@[simp] theorem enterWindow_lc {w new halt} : (enterWindow w new halt s).lc = s.lc := enterWindow_only .lc (by decide)
@[simp] theorem enterWindow_lanes {w new halt} : (enterWindow w new halt s).lanes = s.lanes :=
  enterWindow_only .lanes (by decide)
@[simp] theorem enterWindow_ts {w new halt} : (enterWindow w new halt s).ts = s.ts := enterWindow_only .ts (by decide)
@[simp] theorem enterWindow_rc {w new halt} : (enterWindow w new halt s).rc = s.rc := enterWindow_only .rc (by decide)
@[simp] theorem enterWindow_au {w new halt} : (enterWindow w new halt s).au = s.au := enterWindow_only .au (by decide)
@[simp] theorem enterWindow_dm {w new halt} : (enterWindow w new halt s).dm = s.dm := enterWindow_only .dm (by decide)
@[simp] theorem enterWindow_counters {w new halt} : (enterWindow w new halt s).counters = s.counters :=
  enterWindow_only .counters (by decide)

theorem toResync_only {w} : Only [.out, .da, .re, .fu, .al] s (toResync w s) := by
  simp [Only.refl]
@[simp] theorem toResync_pending {w} : (toResync w s).pending = s.pending := toResync_only .pending (by decide)
@[simp] theorem toResync_drawn {w} : (toResync w s).drawn = s.drawn := toResync_only .drawn (by decide)
@[simp] theorem toResync_pins {w} : (toResync w s).pins = s.pins := toResync_only .pins (by decide)
@[simp] theorem toResync_port {w} : (toResync w s).port = s.port := toResync_only .port (by decide)
@[simp] theorem toResync_params {w} : (toResync w s).params = s.params := toResync_only .params (by decide)
@[simp] theorem toResync_inb {w} : (toResync w s).inb = s.inb := toResync_only .inb (by decide)
@[simp] theorem toResync_rq {w} : (toResync w s).rq = s.rq := toResync_only .rq (by decide)
@[simp] theorem toResync_cu {w} : (toResync w s).cu = s.cu := toResync_only .cu (by decide)
@[simp] theorem toResync_mp {w} : (toResync w s).mp = s.mp := toResync_only .mp (by decide)
@[simp] theorem toResync_lc {w} : (toResync w s).lc = s.lc := toResync_only .lc (by decide)
@[simp] theorem toResync_lanes {w} : (toResync w s).lanes = s.lanes := toResync_only .lanes (by decide)
@[simp] theorem toResync_ts {w} : (toResync w s).ts = s.ts := toResync_only .ts (by decide)
@[simp] theorem toResync_rc {w} : (toResync w s).rc = s.rc := toResync_only .rc (by decide)
@[simp] theorem toResync_au {w} : (toResync w s).au = s.au := toResync_only .au (by decide)
@[simp] theorem toResync_dm {w} : (toResync w s).dm = s.dm := toResync_only .dm (by decide)
@[simp] theorem toResync_counters {w} : (toResync w s).counters = s.counters := toResync_only .counters (by decide)

theorem captureFailure_only {w} : Only [.out, .da, .re, .fu, .al] s (captureFailure w s) := by
  simp [Only.refl]
@[simp] theorem captureFailure_pending {w} : (captureFailure w s).pending = s.pending :=
  captureFailure_only .pending (by decide)
@[simp] theorem captureFailure_drawn {w} : (captureFailure w s).drawn = s.drawn :=
  captureFailure_only .drawn (by decide)
@[simp] theorem captureFailure_pins {w} : (captureFailure w s).pins = s.pins := captureFailure_only .pins (by decide)
@[simp] theorem captureFailure_port {w} : (captureFailure w s).port = s.port := captureFailure_only .port (by decide)
@[simp] theorem captureFailure_params {w} : (captureFailure w s).params = s.params :=
  captureFailure_only .params (by decide)
@[simp] theorem captureFailure_inb {w} : (captureFailure w s).inb = s.inb := captureFailure_only .inb (by decide)
@[simp] theorem captureFailure_rq {w} : (captureFailure w s).rq = s.rq := captureFailure_only .rq (by decide)
@[simp] theorem captureFailure_cu {w} : (captureFailure w s).cu = s.cu := captureFailure_only .cu (by decide)
@[simp] theorem captureFailure_mp {w} : (captureFailure w s).mp = s.mp := captureFailure_only .mp (by decide)
@[simp] theorem captureFailure_lc {w} : (captureFailure w s).lc = s.lc := captureFailure_only .lc (by decide)
@[simp] theorem captureFailure_lanes {w} : (captureFailure w s).lanes = s.lanes :=
  captureFailure_only .lanes (by decide)
@[simp] theorem captureFailure_ts {w} : (captureFailure w s).ts = s.ts := captureFailure_only .ts (by decide)
@[simp] theorem captureFailure_rc {w} : (captureFailure w s).rc = s.rc := captureFailure_only .rc (by decide)
@[simp] theorem captureFailure_au {w} : (captureFailure w s).au = s.au := captureFailure_only .au (by decide)
@[simp] theorem captureFailure_dm {w} : (captureFailure w s).dm = s.dm := captureFailure_only .dm (by decide)
@[simp] theorem captureFailure_counters {w} : (captureFailure w s).counters = s.counters :=
  captureFailure_only .counters (by decide)

theorem discardFailure_only {w} : Only [.out, .da, .re, .fu, .al] s (discardFailure w s) := by
  simp [Only.refl]
@[simp] theorem discardFailure_pending {w} : (discardFailure w s).pending = s.pending :=
  discardFailure_only .pending (by decide)
@[simp] theorem discardFailure_drawn {w} : (discardFailure w s).drawn = s.drawn :=
  discardFailure_only .drawn (by decide)
@[simp] theorem discardFailure_pins {w} : (discardFailure w s).pins = s.pins := discardFailure_only .pins (by decide)
@[simp] theorem discardFailure_port {w} : (discardFailure w s).port = s.port := discardFailure_only .port (by decide)
@[simp] theorem discardFailure_params {w} : (discardFailure w s).params = s.params :=
  discardFailure_only .params (by decide)
@[simp] theorem discardFailure_inb {w} : (discardFailure w s).inb = s.inb := discardFailure_only .inb (by decide)
@[simp] theorem discardFailure_rq {w} : (discardFailure w s).rq = s.rq := discardFailure_only .rq (by decide)
@[simp] theorem discardFailure_cu {w} : (discardFailure w s).cu = s.cu := discardFailure_only .cu (by decide)
@[simp] theorem discardFailure_mp {w} : (discardFailure w s).mp = s.mp := discardFailure_only .mp (by decide)
@[simp] theorem discardFailure_lc {w} : (discardFailure w s).lc = s.lc := discardFailure_only .lc (by decide)
@[simp] theorem discardFailure_lanes {w} : (discardFailure w s).lanes = s.lanes :=
  discardFailure_only .lanes (by decide)
@[simp] theorem discardFailure_ts {w} : (discardFailure w s).ts = s.ts := discardFailure_only .ts (by decide)
@[simp] theorem discardFailure_rc {w} : (discardFailure w s).rc = s.rc := discardFailure_only .rc (by decide)
@[simp] theorem discardFailure_au {w} : (discardFailure w s).au = s.au := discardFailure_only .au (by decide)
@[simp] theorem discardFailure_dm {w} : (discardFailure w s).dm = s.dm := discardFailure_only .dm (by decide)
@[simp] theorem discardFailure_counters {w} : (discardFailure w s).counters = s.counters :=
  discardFailure_only .counters (by decide)

theorem rejectWindow_only {w reason} : Only [.out, .da, .re, .fu, .al] s (rejectWindow w reason s) := by
  simp [Only.refl]
@[simp] theorem rejectWindow_pending {w reason} : (rejectWindow w reason s).pending = s.pending :=
  rejectWindow_only .pending (by decide)
@[simp] theorem rejectWindow_drawn {w reason} : (rejectWindow w reason s).drawn = s.drawn :=
  rejectWindow_only .drawn (by decide)
@[simp] theorem rejectWindow_pins {w reason} : (rejectWindow w reason s).pins = s.pins :=
  rejectWindow_only .pins (by decide)
@[simp] theorem rejectWindow_port {w reason} : (rejectWindow w reason s).port = s.port :=
  rejectWindow_only .port (by decide)
@[simp] theorem rejectWindow_params {w reason} : (rejectWindow w reason s).params = s.params :=
  rejectWindow_only .params (by decide)
@[simp] theorem rejectWindow_inb {w reason} : (rejectWindow w reason s).inb = s.inb :=
  rejectWindow_only .inb (by decide)
@[simp] theorem rejectWindow_rq {w reason} : (rejectWindow w reason s).rq = s.rq := rejectWindow_only .rq (by decide)
@[simp] theorem rejectWindow_cu {w reason} : (rejectWindow w reason s).cu = s.cu := rejectWindow_only .cu (by decide)
@[simp] theorem rejectWindow_mp {w reason} : (rejectWindow w reason s).mp = s.mp := rejectWindow_only .mp (by decide)
@[simp] theorem rejectWindow_lc {w reason} : (rejectWindow w reason s).lc = s.lc := rejectWindow_only .lc (by decide)
@[simp] theorem rejectWindow_lanes {w reason} : (rejectWindow w reason s).lanes = s.lanes :=
  rejectWindow_only .lanes (by decide)
@[simp] theorem rejectWindow_ts {w reason} : (rejectWindow w reason s).ts = s.ts := rejectWindow_only .ts (by decide)
@[simp] theorem rejectWindow_rc {w reason} : (rejectWindow w reason s).rc = s.rc := rejectWindow_only .rc (by decide)
@[simp] theorem rejectWindow_au {w reason} : (rejectWindow w reason s).au = s.au := rejectWindow_only .au (by decide)
@[simp] theorem rejectWindow_dm {w reason} : (rejectWindow w reason s).dm = s.dm := rejectWindow_only .dm (by decide)
@[simp] theorem rejectWindow_counters {w reason} : (rejectWindow w reason s).counters = s.counters :=
  rejectWindow_only .counters (by decide)

theorem endWindow_only {w} : Only [.out, .da, .re, .fu, .al] s (endWindow w s) := by
  simp [Only.refl]
@[simp] theorem endWindow_pending {w} : (endWindow w s).pending = s.pending := endWindow_only .pending (by decide)
@[simp] theorem endWindow_drawn {w} : (endWindow w s).drawn = s.drawn := endWindow_only .drawn (by decide)
@[simp] theorem endWindow_pins {w} : (endWindow w s).pins = s.pins := endWindow_only .pins (by decide)
@[simp] theorem endWindow_port {w} : (endWindow w s).port = s.port := endWindow_only .port (by decide)
@[simp] theorem endWindow_params {w} : (endWindow w s).params = s.params := endWindow_only .params (by decide)
@[simp] theorem endWindow_inb {w} : (endWindow w s).inb = s.inb := endWindow_only .inb (by decide)
@[simp] theorem endWindow_rq {w} : (endWindow w s).rq = s.rq := endWindow_only .rq (by decide)
@[simp] theorem endWindow_cu {w} : (endWindow w s).cu = s.cu := endWindow_only .cu (by decide)
@[simp] theorem endWindow_mp {w} : (endWindow w s).mp = s.mp := endWindow_only .mp (by decide)
@[simp] theorem endWindow_lc {w} : (endWindow w s).lc = s.lc := endWindow_only .lc (by decide)
@[simp] theorem endWindow_lanes {w} : (endWindow w s).lanes = s.lanes := endWindow_only .lanes (by decide)
@[simp] theorem endWindow_ts {w} : (endWindow w s).ts = s.ts := endWindow_only .ts (by decide)
@[simp] theorem endWindow_rc {w} : (endWindow w s).rc = s.rc := endWindow_only .rc (by decide)
@[simp] theorem endWindow_au {w} : (endWindow w s).au = s.au := endWindow_only .au (by decide)
@[simp] theorem endWindow_dm {w} : (endWindow w s).dm = s.dm := endWindow_only .dm (by decide)
@[simp] theorem endWindow_counters {w} : (endWindow w s).counters = s.counters := endWindow_only .counters (by decide)

theorem endWindows_only : Only [.out, .da, .re, .fu, .al] s (endWindows s) := by
  simp [Only.refl]
@[simp] theorem endWindows_pending : (endWindows s).pending = s.pending := endWindows_only .pending (by decide)
@[simp] theorem endWindows_drawn : (endWindows s).drawn = s.drawn := endWindows_only .drawn (by decide)
@[simp] theorem endWindows_pins : (endWindows s).pins = s.pins := endWindows_only .pins (by decide)
@[simp] theorem endWindows_port : (endWindows s).port = s.port := endWindows_only .port (by decide)
@[simp] theorem endWindows_params : (endWindows s).params = s.params := endWindows_only .params (by decide)
@[simp] theorem endWindows_inb : (endWindows s).inb = s.inb := endWindows_only .inb (by decide)
@[simp] theorem endWindows_rq : (endWindows s).rq = s.rq := endWindows_only .rq (by decide)
@[simp] theorem endWindows_cu : (endWindows s).cu = s.cu := endWindows_only .cu (by decide)
@[simp] theorem endWindows_mp : (endWindows s).mp = s.mp := endWindows_only .mp (by decide)
@[simp] theorem endWindows_lc : (endWindows s).lc = s.lc := endWindows_only .lc (by decide)
@[simp] theorem endWindows_lanes : (endWindows s).lanes = s.lanes := endWindows_only .lanes (by decide)
@[simp] theorem endWindows_ts : (endWindows s).ts = s.ts := endWindows_only .ts (by decide)
@[simp] theorem endWindows_rc : (endWindows s).rc = s.rc := endWindows_only .rc (by decide)
@[simp] theorem endWindows_au : (endWindows s).au = s.au := endWindows_only .au (by decide)
@[simp] theorem endWindows_dm : (endWindows s).dm = s.dm := endWindows_only .dm (by decide)
@[simp] theorem endWindows_counters : (endWindows s).counters = s.counters := endWindows_only .counters (by decide)

theorem discardAll_only : Only [.out, .rq, .da, .dm, .re, .fu, .al] s (discardAll s) := by
  simp [Only.refl]
@[simp] theorem discardAll_pending : (discardAll s).pending = s.pending := discardAll_only .pending (by decide)
@[simp] theorem discardAll_drawn : (discardAll s).drawn = s.drawn := discardAll_only .drawn (by decide)
@[simp] theorem discardAll_pins : (discardAll s).pins = s.pins := discardAll_only .pins (by decide)
@[simp] theorem discardAll_port : (discardAll s).port = s.port := discardAll_only .port (by decide)
@[simp] theorem discardAll_params : (discardAll s).params = s.params := discardAll_only .params (by decide)
@[simp] theorem discardAll_inb : (discardAll s).inb = s.inb := discardAll_only .inb (by decide)
@[simp] theorem discardAll_cu : (discardAll s).cu = s.cu := discardAll_only .cu (by decide)
@[simp] theorem discardAll_mp : (discardAll s).mp = s.mp := discardAll_only .mp (by decide)
@[simp] theorem discardAll_lc : (discardAll s).lc = s.lc := discardAll_only .lc (by decide)
@[simp] theorem discardAll_lanes : (discardAll s).lanes = s.lanes := discardAll_only .lanes (by decide)
@[simp] theorem discardAll_ts : (discardAll s).ts = s.ts := discardAll_only .ts (by decide)
@[simp] theorem discardAll_rc : (discardAll s).rc = s.rc := discardAll_only .rc (by decide)
@[simp] theorem discardAll_au : (discardAll s).au = s.au := discardAll_only .au (by decide)
@[simp] theorem discardAll_counters : (discardAll s).counters = s.counters := discardAll_only .counters (by decide)

theorem completeUpstream_only {r bytes} : Only [.cu, .mp] s (completeUpstream r bytes s) := by
  simp [Only.refl]
@[simp] theorem completeUpstream_pending {r bytes} : (completeUpstream r bytes s).pending = s.pending :=
  completeUpstream_only .pending (by decide)
@[simp] theorem completeUpstream_drawn {r bytes} : (completeUpstream r bytes s).drawn = s.drawn :=
  completeUpstream_only .drawn (by decide)
@[simp] theorem completeUpstream_pins {r bytes} : (completeUpstream r bytes s).pins = s.pins :=
  completeUpstream_only .pins (by decide)
@[simp] theorem completeUpstream_port {r bytes} : (completeUpstream r bytes s).port = s.port :=
  completeUpstream_only .port (by decide)
@[simp] theorem completeUpstream_params {r bytes} : (completeUpstream r bytes s).params = s.params :=
  completeUpstream_only .params (by decide)
@[simp] theorem completeUpstream_out {r bytes} : (completeUpstream r bytes s).out = s.out :=
  completeUpstream_only .out (by decide)
@[simp] theorem completeUpstream_inb {r bytes} : (completeUpstream r bytes s).inb = s.inb :=
  completeUpstream_only .inb (by decide)
@[simp] theorem completeUpstream_rq {r bytes} : (completeUpstream r bytes s).rq = s.rq :=
  completeUpstream_only .rq (by decide)
@[simp] theorem completeUpstream_da {r bytes} : (completeUpstream r bytes s).da = s.da :=
  completeUpstream_only .da (by decide)
@[simp] theorem completeUpstream_lc {r bytes} : (completeUpstream r bytes s).lc = s.lc :=
  completeUpstream_only .lc (by decide)
@[simp] theorem completeUpstream_lanes {r bytes} : (completeUpstream r bytes s).lanes = s.lanes :=
  completeUpstream_only .lanes (by decide)
@[simp] theorem completeUpstream_ts {r bytes} : (completeUpstream r bytes s).ts = s.ts :=
  completeUpstream_only .ts (by decide)
@[simp] theorem completeUpstream_rc {r bytes} : (completeUpstream r bytes s).rc = s.rc :=
  completeUpstream_only .rc (by decide)
@[simp] theorem completeUpstream_au {r bytes} : (completeUpstream r bytes s).au = s.au :=
  completeUpstream_only .au (by decide)
@[simp] theorem completeUpstream_dm {r bytes} : (completeUpstream r bytes s).dm = s.dm :=
  completeUpstream_only .dm (by decide)
@[simp] theorem completeUpstream_re {r bytes} : (completeUpstream r bytes s).re = s.re :=
  completeUpstream_only .re (by decide)
@[simp] theorem completeUpstream_fu {r bytes} : (completeUpstream r bytes s).fu = s.fu :=
  completeUpstream_only .fu (by decide)
@[simp] theorem completeUpstream_al {r bytes} : (completeUpstream r bytes s).al = s.al :=
  completeUpstream_only .al (by decide)
@[simp] theorem completeUpstream_counters {r bytes} : (completeUpstream r bytes s).counters = s.counters :=
  completeUpstream_only .counters (by decide)

theorem completeMalformed_only {t} : Only [.drawn, .cu, .mp] s (completeMalformed t s) := by
  simp [Only.refl]
@[simp] theorem completeMalformed_pending {t} : (completeMalformed t s).pending = s.pending :=
  completeMalformed_only .pending (by decide)
@[simp] theorem completeMalformed_pins {t} : (completeMalformed t s).pins = s.pins :=
  completeMalformed_only .pins (by decide)
@[simp] theorem completeMalformed_port {t} : (completeMalformed t s).port = s.port :=
  completeMalformed_only .port (by decide)
@[simp] theorem completeMalformed_params {t} : (completeMalformed t s).params = s.params :=
  completeMalformed_only .params (by decide)
@[simp] theorem completeMalformed_out {t} : (completeMalformed t s).out = s.out :=
  completeMalformed_only .out (by decide)
@[simp] theorem completeMalformed_inb {t} : (completeMalformed t s).inb = s.inb :=
  completeMalformed_only .inb (by decide)
@[simp] theorem completeMalformed_rq {t} : (completeMalformed t s).rq = s.rq := completeMalformed_only .rq (by decide)
@[simp] theorem completeMalformed_da {t} : (completeMalformed t s).da = s.da := completeMalformed_only .da (by decide)
@[simp] theorem completeMalformed_lc {t} : (completeMalformed t s).lc = s.lc := completeMalformed_only .lc (by decide)
@[simp] theorem completeMalformed_lanes {t} : (completeMalformed t s).lanes = s.lanes :=
  completeMalformed_only .lanes (by decide)
@[simp] theorem completeMalformed_ts {t} : (completeMalformed t s).ts = s.ts := completeMalformed_only .ts (by decide)
@[simp] theorem completeMalformed_rc {t} : (completeMalformed t s).rc = s.rc := completeMalformed_only .rc (by decide)
@[simp] theorem completeMalformed_au {t} : (completeMalformed t s).au = s.au := completeMalformed_only .au (by decide)
@[simp] theorem completeMalformed_dm {t} : (completeMalformed t s).dm = s.dm := completeMalformed_only .dm (by decide)
@[simp] theorem completeMalformed_re {t} : (completeMalformed t s).re = s.re := completeMalformed_only .re (by decide)
@[simp] theorem completeMalformed_fu {t} : (completeMalformed t s).fu = s.fu := completeMalformed_only .fu (by decide)
@[simp] theorem completeMalformed_al {t} : (completeMalformed t s).al = s.al := completeMalformed_only .al (by decide)
@[simp] theorem completeMalformed_counters {t} : (completeMalformed t s).counters = s.counters :=
  completeMalformed_only .counters (by decide)

theorem forward_only : Only [.da, .re] s (forward s) := by
  simp [Only.refl]
@[simp] theorem forward_pending : (forward s).pending = s.pending := forward_only .pending (by decide)
@[simp] theorem forward_drawn : (forward s).drawn = s.drawn := forward_only .drawn (by decide)
@[simp] theorem forward_pins : (forward s).pins = s.pins := forward_only .pins (by decide)
@[simp] theorem forward_port : (forward s).port = s.port := forward_only .port (by decide)
@[simp] theorem forward_params : (forward s).params = s.params := forward_only .params (by decide)
@[simp] theorem forward_out : (forward s).out = s.out := forward_only .out (by decide)
@[simp] theorem forward_inb : (forward s).inb = s.inb := forward_only .inb (by decide)
@[simp] theorem forward_rq : (forward s).rq = s.rq := forward_only .rq (by decide)
@[simp] theorem forward_cu : (forward s).cu = s.cu := forward_only .cu (by decide)
@[simp] theorem forward_mp : (forward s).mp = s.mp := forward_only .mp (by decide)
@[simp] theorem forward_lc : (forward s).lc = s.lc := forward_only .lc (by decide)
@[simp] theorem forward_lanes : (forward s).lanes = s.lanes := forward_only .lanes (by decide)
@[simp] theorem forward_ts : (forward s).ts = s.ts := forward_only .ts (by decide)
@[simp] theorem forward_rc : (forward s).rc = s.rc := forward_only .rc (by decide)
@[simp] theorem forward_au : (forward s).au = s.au := forward_only .au (by decide)
@[simp] theorem forward_dm : (forward s).dm = s.dm := forward_only .dm (by decide)
@[simp] theorem forward_fu : (forward s).fu = s.fu := forward_only .fu (by decide)
@[simp] theorem forward_al : (forward s).al = s.al := forward_only .al (by decide)
@[simp] theorem forward_counters : (forward s).counters = s.counters := forward_only .counters (by decide)

theorem slotCheck_only {c} : Only [.cu, .da, .re] s (slotCheck c s) := by
  simp [Only.refl]
@[simp] theorem slotCheck_pending {c} : (slotCheck c s).pending = s.pending := slotCheck_only .pending (by decide)
@[simp] theorem slotCheck_drawn {c} : (slotCheck c s).drawn = s.drawn := slotCheck_only .drawn (by decide)
@[simp] theorem slotCheck_pins {c} : (slotCheck c s).pins = s.pins := slotCheck_only .pins (by decide)
@[simp] theorem slotCheck_port {c} : (slotCheck c s).port = s.port := slotCheck_only .port (by decide)
@[simp] theorem slotCheck_params {c} : (slotCheck c s).params = s.params := slotCheck_only .params (by decide)
@[simp] theorem slotCheck_out {c} : (slotCheck c s).out = s.out := slotCheck_only .out (by decide)
@[simp] theorem slotCheck_inb {c} : (slotCheck c s).inb = s.inb := slotCheck_only .inb (by decide)
@[simp] theorem slotCheck_rq {c} : (slotCheck c s).rq = s.rq := slotCheck_only .rq (by decide)
@[simp] theorem slotCheck_mp {c} : (slotCheck c s).mp = s.mp := slotCheck_only .mp (by decide)
@[simp] theorem slotCheck_lc {c} : (slotCheck c s).lc = s.lc := slotCheck_only .lc (by decide)
@[simp] theorem slotCheck_lanes {c} : (slotCheck c s).lanes = s.lanes := slotCheck_only .lanes (by decide)
@[simp] theorem slotCheck_ts {c} : (slotCheck c s).ts = s.ts := slotCheck_only .ts (by decide)
@[simp] theorem slotCheck_rc {c} : (slotCheck c s).rc = s.rc := slotCheck_only .rc (by decide)
@[simp] theorem slotCheck_au {c} : (slotCheck c s).au = s.au := slotCheck_only .au (by decide)
@[simp] theorem slotCheck_dm {c} : (slotCheck c s).dm = s.dm := slotCheck_only .dm (by decide)
@[simp] theorem slotCheck_fu {c} : (slotCheck c s).fu = s.fu := slotCheck_only .fu (by decide)
@[simp] theorem slotCheck_al {c} : (slotCheck c s).al = s.al := slotCheck_only .al (by decide)
@[simp] theorem slotCheck_counters {c} : (slotCheck c s).counters = s.counters := slotCheck_only .counters (by decide)

theorem recheckSlot_only : Only [.cu, .da, .re] s (recheckSlot s) := by
  simp [Only.refl]
@[simp] theorem recheckSlot_pending : (recheckSlot s).pending = s.pending := recheckSlot_only .pending (by decide)
@[simp] theorem recheckSlot_drawn : (recheckSlot s).drawn = s.drawn := recheckSlot_only .drawn (by decide)
@[simp] theorem recheckSlot_pins : (recheckSlot s).pins = s.pins := recheckSlot_only .pins (by decide)
@[simp] theorem recheckSlot_port : (recheckSlot s).port = s.port := recheckSlot_only .port (by decide)
@[simp] theorem recheckSlot_params : (recheckSlot s).params = s.params := recheckSlot_only .params (by decide)
@[simp] theorem recheckSlot_out : (recheckSlot s).out = s.out := recheckSlot_only .out (by decide)
@[simp] theorem recheckSlot_inb : (recheckSlot s).inb = s.inb := recheckSlot_only .inb (by decide)
@[simp] theorem recheckSlot_rq : (recheckSlot s).rq = s.rq := recheckSlot_only .rq (by decide)
@[simp] theorem recheckSlot_mp : (recheckSlot s).mp = s.mp := recheckSlot_only .mp (by decide)
@[simp] theorem recheckSlot_lc : (recheckSlot s).lc = s.lc := recheckSlot_only .lc (by decide)
@[simp] theorem recheckSlot_lanes : (recheckSlot s).lanes = s.lanes := recheckSlot_only .lanes (by decide)
@[simp] theorem recheckSlot_ts : (recheckSlot s).ts = s.ts := recheckSlot_only .ts (by decide)
@[simp] theorem recheckSlot_rc : (recheckSlot s).rc = s.rc := recheckSlot_only .rc (by decide)
@[simp] theorem recheckSlot_au : (recheckSlot s).au = s.au := recheckSlot_only .au (by decide)
@[simp] theorem recheckSlot_dm : (recheckSlot s).dm = s.dm := recheckSlot_only .dm (by decide)
@[simp] theorem recheckSlot_fu : (recheckSlot s).fu = s.fu := recheckSlot_only .fu (by decide)
@[simp] theorem recheckSlot_al : (recheckSlot s).al = s.al := recheckSlot_only .al (by decide)
@[simp] theorem recheckSlot_counters : (recheckSlot s).counters = s.counters := recheckSlot_only .counters (by decide)

theorem settle_only : Only [.out, .cu, .da, .re] s (settle s) := by
  simp [Only.refl]
@[simp] theorem settle_pending : (settle s).pending = s.pending := settle_only .pending (by decide)
@[simp] theorem settle_drawn : (settle s).drawn = s.drawn := settle_only .drawn (by decide)
@[simp] theorem settle_pins : (settle s).pins = s.pins := settle_only .pins (by decide)
@[simp] theorem settle_port : (settle s).port = s.port := settle_only .port (by decide)
@[simp] theorem settle_params : (settle s).params = s.params := settle_only .params (by decide)
@[simp] theorem settle_inb : (settle s).inb = s.inb := settle_only .inb (by decide)
@[simp] theorem settle_rq : (settle s).rq = s.rq := settle_only .rq (by decide)
@[simp] theorem settle_mp : (settle s).mp = s.mp := settle_only .mp (by decide)
@[simp] theorem settle_lc : (settle s).lc = s.lc := settle_only .lc (by decide)
@[simp] theorem settle_lanes : (settle s).lanes = s.lanes := settle_only .lanes (by decide)
@[simp] theorem settle_ts : (settle s).ts = s.ts := settle_only .ts (by decide)
@[simp] theorem settle_rc : (settle s).rc = s.rc := settle_only .rc (by decide)
@[simp] theorem settle_au : (settle s).au = s.au := settle_only .au (by decide)
@[simp] theorem settle_dm : (settle s).dm = s.dm := settle_only .dm (by decide)
@[simp] theorem settle_fu : (settle s).fu = s.fu := settle_only .fu (by decide)
@[simp] theorem settle_al : (settle s).al = s.al := settle_only .al (by decide)
@[simp] theorem settle_counters : (settle s).counters = s.counters := settle_only .counters (by decide)

theorem acceptOffer_only : Only [.drawn, .cu, .mp, .da, .re, .al, .counters] s (acceptOffer s) := by
  simp [Only.refl]
@[simp] theorem acceptOffer_pending : (acceptOffer s).pending = s.pending := acceptOffer_only .pending (by decide)
@[simp] theorem acceptOffer_pins : (acceptOffer s).pins = s.pins := acceptOffer_only .pins (by decide)
@[simp] theorem acceptOffer_port : (acceptOffer s).port = s.port := acceptOffer_only .port (by decide)
@[simp] theorem acceptOffer_params : (acceptOffer s).params = s.params := acceptOffer_only .params (by decide)
@[simp] theorem acceptOffer_out : (acceptOffer s).out = s.out := acceptOffer_only .out (by decide)
@[simp] theorem acceptOffer_inb : (acceptOffer s).inb = s.inb := acceptOffer_only .inb (by decide)
@[simp] theorem acceptOffer_rq : (acceptOffer s).rq = s.rq := acceptOffer_only .rq (by decide)
@[simp] theorem acceptOffer_lc : (acceptOffer s).lc = s.lc := acceptOffer_only .lc (by decide)
@[simp] theorem acceptOffer_lanes : (acceptOffer s).lanes = s.lanes := acceptOffer_only .lanes (by decide)
@[simp] theorem acceptOffer_ts : (acceptOffer s).ts = s.ts := acceptOffer_only .ts (by decide)
@[simp] theorem acceptOffer_rc : (acceptOffer s).rc = s.rc := acceptOffer_only .rc (by decide)
@[simp] theorem acceptOffer_au : (acceptOffer s).au = s.au := acceptOffer_only .au (by decide)
@[simp] theorem acceptOffer_dm : (acceptOffer s).dm = s.dm := acceptOffer_only .dm (by decide)
@[simp] theorem acceptOffer_fu : (acceptOffer s).fu = s.fu := acceptOffer_only .fu (by decide)

theorem finishEntry_only {e} : Only [.lanes, .au, .al, .counters] s (finishEntry e s) := by
  simp [Only.refl]
@[simp] theorem finishEntry_pending {e} : (finishEntry e s).pending = s.pending :=
  finishEntry_only .pending (by decide)
@[simp] theorem finishEntry_drawn {e} : (finishEntry e s).drawn = s.drawn := finishEntry_only .drawn (by decide)
@[simp] theorem finishEntry_pins {e} : (finishEntry e s).pins = s.pins := finishEntry_only .pins (by decide)
@[simp] theorem finishEntry_port {e} : (finishEntry e s).port = s.port := finishEntry_only .port (by decide)
@[simp] theorem finishEntry_params {e} : (finishEntry e s).params = s.params := finishEntry_only .params (by decide)
@[simp] theorem finishEntry_out {e} : (finishEntry e s).out = s.out := finishEntry_only .out (by decide)
@[simp] theorem finishEntry_inb {e} : (finishEntry e s).inb = s.inb := finishEntry_only .inb (by decide)
@[simp] theorem finishEntry_rq {e} : (finishEntry e s).rq = s.rq := finishEntry_only .rq (by decide)
@[simp] theorem finishEntry_cu {e} : (finishEntry e s).cu = s.cu := finishEntry_only .cu (by decide)
@[simp] theorem finishEntry_mp {e} : (finishEntry e s).mp = s.mp := finishEntry_only .mp (by decide)
@[simp] theorem finishEntry_da {e} : (finishEntry e s).da = s.da := finishEntry_only .da (by decide)
@[simp] theorem finishEntry_lc {e} : (finishEntry e s).lc = s.lc := finishEntry_only .lc (by decide)
@[simp] theorem finishEntry_ts {e} : (finishEntry e s).ts = s.ts := finishEntry_only .ts (by decide)
@[simp] theorem finishEntry_rc {e} : (finishEntry e s).rc = s.rc := finishEntry_only .rc (by decide)
@[simp] theorem finishEntry_dm {e} : (finishEntry e s).dm = s.dm := finishEntry_only .dm (by decide)
@[simp] theorem finishEntry_re {e} : (finishEntry e s).re = s.re := finishEntry_only .re (by decide)
@[simp] theorem finishEntry_fu {e} : (finishEntry e s).fu = s.fu := finishEntry_only .fu (by decide)

theorem takeHead_only : Only [.da, .lanes, .au, .re, .al, .counters] s (takeHead s) := by
  simp [Only.refl]
@[simp] theorem takeHead_pending : (takeHead s).pending = s.pending := takeHead_only .pending (by decide)
@[simp] theorem takeHead_drawn : (takeHead s).drawn = s.drawn := takeHead_only .drawn (by decide)
@[simp] theorem takeHead_pins : (takeHead s).pins = s.pins := takeHead_only .pins (by decide)
@[simp] theorem takeHead_port : (takeHead s).port = s.port := takeHead_only .port (by decide)
@[simp] theorem takeHead_params : (takeHead s).params = s.params := takeHead_only .params (by decide)
@[simp] theorem takeHead_out : (takeHead s).out = s.out := takeHead_only .out (by decide)
@[simp] theorem takeHead_inb : (takeHead s).inb = s.inb := takeHead_only .inb (by decide)
@[simp] theorem takeHead_rq : (takeHead s).rq = s.rq := takeHead_only .rq (by decide)
@[simp] theorem takeHead_cu : (takeHead s).cu = s.cu := takeHead_only .cu (by decide)
@[simp] theorem takeHead_mp : (takeHead s).mp = s.mp := takeHead_only .mp (by decide)
@[simp] theorem takeHead_lc : (takeHead s).lc = s.lc := takeHead_only .lc (by decide)
@[simp] theorem takeHead_ts : (takeHead s).ts = s.ts := takeHead_only .ts (by decide)
@[simp] theorem takeHead_rc : (takeHead s).rc = s.rc := takeHead_only .rc (by decide)
@[simp] theorem takeHead_dm : (takeHead s).dm = s.dm := takeHead_only .dm (by decide)
@[simp] theorem takeHead_fu : (takeHead s).fu = s.fu := takeHead_only .fu (by decide)

theorem leaveUp_only {cause peerReason} : Only [.lc, .lanes, .al] s (leaveUp cause peerReason s) := by
  simp [Only.refl]
@[simp] theorem leaveUp_pending {cause peerReason} : (leaveUp cause peerReason s).pending = s.pending :=
  leaveUp_only .pending (by decide)
@[simp] theorem leaveUp_drawn {cause peerReason} : (leaveUp cause peerReason s).drawn = s.drawn :=
  leaveUp_only .drawn (by decide)
@[simp] theorem leaveUp_pins {cause peerReason} : (leaveUp cause peerReason s).pins = s.pins :=
  leaveUp_only .pins (by decide)
@[simp] theorem leaveUp_port {cause peerReason} : (leaveUp cause peerReason s).port = s.port :=
  leaveUp_only .port (by decide)
@[simp] theorem leaveUp_params {cause peerReason} : (leaveUp cause peerReason s).params = s.params :=
  leaveUp_only .params (by decide)
@[simp] theorem leaveUp_out {cause peerReason} : (leaveUp cause peerReason s).out = s.out :=
  leaveUp_only .out (by decide)
@[simp] theorem leaveUp_inb {cause peerReason} : (leaveUp cause peerReason s).inb = s.inb :=
  leaveUp_only .inb (by decide)
@[simp] theorem leaveUp_rq {cause peerReason} : (leaveUp cause peerReason s).rq = s.rq := leaveUp_only .rq (by decide)
@[simp] theorem leaveUp_cu {cause peerReason} : (leaveUp cause peerReason s).cu = s.cu := leaveUp_only .cu (by decide)
@[simp] theorem leaveUp_mp {cause peerReason} : (leaveUp cause peerReason s).mp = s.mp := leaveUp_only .mp (by decide)
@[simp] theorem leaveUp_da {cause peerReason} : (leaveUp cause peerReason s).da = s.da := leaveUp_only .da (by decide)
@[simp] theorem leaveUp_ts {cause peerReason} : (leaveUp cause peerReason s).ts = s.ts := leaveUp_only .ts (by decide)
@[simp] theorem leaveUp_rc {cause peerReason} : (leaveUp cause peerReason s).rc = s.rc := leaveUp_only .rc (by decide)
@[simp] theorem leaveUp_au {cause peerReason} : (leaveUp cause peerReason s).au = s.au := leaveUp_only .au (by decide)
@[simp] theorem leaveUp_dm {cause peerReason} : (leaveUp cause peerReason s).dm = s.dm := leaveUp_only .dm (by decide)
@[simp] theorem leaveUp_re {cause peerReason} : (leaveUp cause peerReason s).re = s.re := leaveUp_only .re (by decide)
@[simp] theorem leaveUp_fu {cause peerReason} : (leaveUp cause peerReason s).fu = s.fu := leaveUp_only .fu (by decide)
@[simp] theorem leaveUp_counters {cause peerReason} : (leaveUp cause peerReason s).counters = s.counters :=
  leaveUp_only .counters (by decide)

theorem endScheduler_only : Only [.ts] s (endScheduler s) := by
  simp [Only.refl]
@[simp] theorem endScheduler_pending : (endScheduler s).pending = s.pending := endScheduler_only .pending (by decide)
@[simp] theorem endScheduler_drawn : (endScheduler s).drawn = s.drawn := endScheduler_only .drawn (by decide)
@[simp] theorem endScheduler_pins : (endScheduler s).pins = s.pins := endScheduler_only .pins (by decide)
@[simp] theorem endScheduler_port : (endScheduler s).port = s.port := endScheduler_only .port (by decide)
@[simp] theorem endScheduler_params : (endScheduler s).params = s.params := endScheduler_only .params (by decide)
@[simp] theorem endScheduler_out : (endScheduler s).out = s.out := endScheduler_only .out (by decide)
@[simp] theorem endScheduler_inb : (endScheduler s).inb = s.inb := endScheduler_only .inb (by decide)
@[simp] theorem endScheduler_rq : (endScheduler s).rq = s.rq := endScheduler_only .rq (by decide)
@[simp] theorem endScheduler_cu : (endScheduler s).cu = s.cu := endScheduler_only .cu (by decide)
@[simp] theorem endScheduler_mp : (endScheduler s).mp = s.mp := endScheduler_only .mp (by decide)
@[simp] theorem endScheduler_da : (endScheduler s).da = s.da := endScheduler_only .da (by decide)
@[simp] theorem endScheduler_lc : (endScheduler s).lc = s.lc := endScheduler_only .lc (by decide)
@[simp] theorem endScheduler_lanes : (endScheduler s).lanes = s.lanes := endScheduler_only .lanes (by decide)
@[simp] theorem endScheduler_rc : (endScheduler s).rc = s.rc := endScheduler_only .rc (by decide)
@[simp] theorem endScheduler_au : (endScheduler s).au = s.au := endScheduler_only .au (by decide)
@[simp] theorem endScheduler_dm : (endScheduler s).dm = s.dm := endScheduler_only .dm (by decide)
@[simp] theorem endScheduler_re : (endScheduler s).re = s.re := endScheduler_only .re (by decide)
@[simp] theorem endScheduler_fu : (endScheduler s).fu = s.fu := endScheduler_only .fu (by decide)
@[simp] theorem endScheduler_al : (endScheduler s).al = s.al := endScheduler_only .al (by decide)
@[simp] theorem endScheduler_counters : (endScheduler s).counters = s.counters :=
  endScheduler_only .counters (by decide)

theorem endCapture_only : Only [.cu, .mp] s (endCapture s) := by
  simp [Only.refl]
@[simp] theorem endCapture_pending : (endCapture s).pending = s.pending := endCapture_only .pending (by decide)
@[simp] theorem endCapture_drawn : (endCapture s).drawn = s.drawn := endCapture_only .drawn (by decide)
@[simp] theorem endCapture_pins : (endCapture s).pins = s.pins := endCapture_only .pins (by decide)
@[simp] theorem endCapture_port : (endCapture s).port = s.port := endCapture_only .port (by decide)
@[simp] theorem endCapture_params : (endCapture s).params = s.params := endCapture_only .params (by decide)
@[simp] theorem endCapture_out : (endCapture s).out = s.out := endCapture_only .out (by decide)
@[simp] theorem endCapture_inb : (endCapture s).inb = s.inb := endCapture_only .inb (by decide)
@[simp] theorem endCapture_rq : (endCapture s).rq = s.rq := endCapture_only .rq (by decide)
@[simp] theorem endCapture_da : (endCapture s).da = s.da := endCapture_only .da (by decide)
@[simp] theorem endCapture_lc : (endCapture s).lc = s.lc := endCapture_only .lc (by decide)
@[simp] theorem endCapture_lanes : (endCapture s).lanes = s.lanes := endCapture_only .lanes (by decide)
@[simp] theorem endCapture_ts : (endCapture s).ts = s.ts := endCapture_only .ts (by decide)
@[simp] theorem endCapture_rc : (endCapture s).rc = s.rc := endCapture_only .rc (by decide)
@[simp] theorem endCapture_au : (endCapture s).au = s.au := endCapture_only .au (by decide)
@[simp] theorem endCapture_dm : (endCapture s).dm = s.dm := endCapture_only .dm (by decide)
@[simp] theorem endCapture_re : (endCapture s).re = s.re := endCapture_only .re (by decide)
@[simp] theorem endCapture_fu : (endCapture s).fu = s.fu := endCapture_only .fu (by decide)
@[simp] theorem endCapture_al : (endCapture s).al = s.al := endCapture_only .al (by decide)
@[simp] theorem endCapture_counters : (endCapture s).counters = s.counters := endCapture_only .counters (by decide)

theorem endApply_only : Only [.da, .lanes, .au, .re, .al, .counters] s (endApply s) := by
  simp [Only.refl]
@[simp] theorem endApply_pending : (endApply s).pending = s.pending := endApply_only .pending (by decide)
@[simp] theorem endApply_drawn : (endApply s).drawn = s.drawn := endApply_only .drawn (by decide)
@[simp] theorem endApply_pins : (endApply s).pins = s.pins := endApply_only .pins (by decide)
@[simp] theorem endApply_port : (endApply s).port = s.port := endApply_only .port (by decide)
@[simp] theorem endApply_params : (endApply s).params = s.params := endApply_only .params (by decide)
@[simp] theorem endApply_out : (endApply s).out = s.out := endApply_only .out (by decide)
@[simp] theorem endApply_inb : (endApply s).inb = s.inb := endApply_only .inb (by decide)
@[simp] theorem endApply_rq : (endApply s).rq = s.rq := endApply_only .rq (by decide)
@[simp] theorem endApply_cu : (endApply s).cu = s.cu := endApply_only .cu (by decide)
@[simp] theorem endApply_mp : (endApply s).mp = s.mp := endApply_only .mp (by decide)
@[simp] theorem endApply_lc : (endApply s).lc = s.lc := endApply_only .lc (by decide)
@[simp] theorem endApply_ts : (endApply s).ts = s.ts := endApply_only .ts (by decide)
@[simp] theorem endApply_rc : (endApply s).rc = s.rc := endApply_only .rc (by decide)
@[simp] theorem endApply_dm : (endApply s).dm = s.dm := endApply_only .dm (by decide)
@[simp] theorem endApply_fu : (endApply s).fu = s.fu := endApply_only .fu (by decide)

theorem announceEnd_only :
    Only [.drawn, .out, .rq, .cu, .mp, .da, .lanes, .ts, .au, .dm, .re, .fu, .al, .counters] s (announceEnd s) := by
  simp [Only.refl]
@[simp] theorem announceEnd_pending : (announceEnd s).pending = s.pending := announceEnd_only .pending (by decide)
@[simp] theorem announceEnd_pins : (announceEnd s).pins = s.pins := announceEnd_only .pins (by decide)
@[simp] theorem announceEnd_port : (announceEnd s).port = s.port := announceEnd_only .port (by decide)
@[simp] theorem announceEnd_params : (announceEnd s).params = s.params := announceEnd_only .params (by decide)
@[simp] theorem announceEnd_inb : (announceEnd s).inb = s.inb := announceEnd_only .inb (by decide)
@[simp] theorem announceEnd_lc : (announceEnd s).lc = s.lc := announceEnd_only .lc (by decide)
@[simp] theorem announceEnd_rc : (announceEnd s).rc = s.rc := announceEnd_only .rc (by decide)

theorem sessionEnd_only {cause peerReason} :
    Only [.drawn, .out, .rq, .cu, .mp, .da, .lc, .lanes, .ts, .au, .dm, .re, .fu, .al, .counters] s (sessionEnd cause peerReason s) := by
  simp [Only.refl]
@[simp] theorem sessionEnd_pending {cause peerReason} : (sessionEnd cause peerReason s).pending = s.pending :=
  sessionEnd_only .pending (by decide)
@[simp] theorem sessionEnd_pins {cause peerReason} : (sessionEnd cause peerReason s).pins = s.pins :=
  sessionEnd_only .pins (by decide)
@[simp] theorem sessionEnd_port {cause peerReason} : (sessionEnd cause peerReason s).port = s.port :=
  sessionEnd_only .port (by decide)
@[simp] theorem sessionEnd_params {cause peerReason} : (sessionEnd cause peerReason s).params = s.params :=
  sessionEnd_only .params (by decide)
@[simp] theorem sessionEnd_inb {cause peerReason} : (sessionEnd cause peerReason s).inb = s.inb :=
  sessionEnd_only .inb (by decide)
@[simp] theorem sessionEnd_rc {cause peerReason} : (sessionEnd cause peerReason s).rc = s.rc :=
  sessionEnd_only .rc (by decide)

end Sys2Proof.Machine
end

