-- ==== Sys2Proof/Laws/Flags.lean ====
section
/-! SUPPORT. What raising a cause and incrementing a counter do, and the law of ALERT_N. -/

set_option Elab.async false

namespace Sys2Proof.Machine

/-- Setting a cause's flag sets that flag and no other (R183). -/
theorem Details.has_set (d : Details) (c e : Cause) : (d.set c).has e = (decide (e = c) || d.has e) := by
  cases c <;> cases e <;>
    simp [Details.has, Details.set, Details.flags, Cause.category, Cause.bit, BitVec.getLsbD_or, BitVec.getLsbD_twoPow,
      BitVec.getLsbD_setWidth, Fin.ext_iff]
  all_goals rename_i w v
  all_goals have hw := w.isLt
  all_goals have hv := v.isLt
  all_goals try omega
  all_goals rw [Bool.eq_iff_iff]; simp; constructor
  all_goals intro h
  all_goals rcases h with h | h
  all_goals simp_all
  all_goals omega

/-- The detail flags after raising a cause (R183). -/
theorem raise_has (c e : Cause) (s : State) :
    (raise c s).al.detail.has e = (decide (e = c) || s.al.detail.has e) := Details.has_set _ c e

/-- A raised cause has its flag set. -/
@[simp] theorem raise_has_self (c : Cause) (s : State) : (raise c s).al.detail.has c = true := by simp [raise_has]

/-- A flag that is set stays set when a cause is raised. -/
theorem raise_has_of (c e : Cause) (s : State) (h : s.al.detail.has e = true) :
    (raise c s).al.detail.has e = true := by simp [raise_has, h]

@[simp] theorem raise_enables (c : Cause) (s : State) : (raise c s).al.enables = s.al.enables := rfl

/-- Whatever the summaries and enables, an examined alert unit follows the law of R184. -/
theorem alertLine_iff (summary enables : BitVec 4) :
    alertLine summary enables = true ↔ ∃ c : Fin 4, summary.getLsbD c = true ∧ enables.getLsbD c = true := by
  revert summary enables; decide +kernel

theorem alertFollows_examine (s : State) (a : AlertUnit) (summary enables : BitVec 4) :
    AlertFollows (s.setAl (a.examine summary enables)) := alertLine_iff summary enables

theorem alertFollows_raise (c : Cause) (s : State) : AlertFollows (raise c s) := alertFollows_examine s _ _ _

theorem Counter.idx_injective {c d : Counter} (h : c.idx = d.idx) : c = d := by
  revert h; cases c <;> cases d <;> decide

/-- The counters after an increment (R191). -/
theorem bump_counter (c d : Counter) (s : State) :
    (bump c s).counter d = if d = c then saturate (s.counter c) else s.counter d := by
  by_cases h : d = c
  · subst h; simp [bump, State.counter]
  · have hne : ¬((c.idx : Nat) = (d.idx : Nat)) := fun e => h (Counter.idx_injective (Fin.ext e)).symm
    simp [bump, State.counter, h, hne]

@[simp] theorem bump_counter_self (c : Counter) (s : State) : (bump c s).counter c = saturate (s.counter c) := by
  simp [bump_counter]

@[simp] theorem setCounters_of_counter (x : Vector (BitVec 16) 14) (s : State) (c : Counter) :
    (s.setCounters x).counter c = x[c.idx] := rfl

end Sys2Proof.Machine
end

