-- ==== Sys2Proof/Laws/Formats.lean ====
section
/-! SUPPORT. Words and their bytes: putting a word's bytes together gives the word, and taking a word apart gives its
bytes. -/

set_option Elab.async false

namespace Sys2Proof.Machine

theorem word16_bytes (v : BitVec 16) : word16 (v.extractLsb' 8 8) (v.extractLsb' 0 8) = v := by
  apply BitVec.eq_of_getLsbD_eq
  intro i hi
  simp only [word16, BitVec.getLsbD_append, BitVec.getLsbD_extractLsb']
  interval_cases i <;> simp

theorem word24_bytes (v : BitVec 24) :
    word24 (v.extractLsb' 16 8) (v.extractLsb' 8 8) (v.extractLsb' 0 8) = v := by
  apply BitVec.eq_of_getLsbD_eq
  intro i hi
  simp only [word24, BitVec.getLsbD_append, BitVec.getLsbD_extractLsb']
  interval_cases i <;> simp

theorem word32_bytes (v : BitVec 32) :
    word32 (v.extractLsb' 24 8) (v.extractLsb' 16 8) (v.extractLsb' 8 8) (v.extractLsb' 0 8) = v := by
  apply BitVec.eq_of_getLsbD_eq
  intro i hi
  simp only [word32, BitVec.getLsbD_append, BitVec.getLsbD_extractLsb']
  interval_cases i <;> simp

theorem maskOfBytes_maskBytes (m : Mask) :
    maskOfBytes (m.extractLsb' 0 8) (m.extractLsb' 8 8) (m.extractLsb' 16 8) (m.extractLsb' 24 8)
   (m.extractLsb' 32 8) (m.extractLsb' 40 8) (m.extractLsb' 48 8) (m.extractLsb' 56 8) = m := by
  apply BitVec.eq_of_getLsbD_eq
  intro i hi
  simp only [maskOfBytes, BitVec.getLsbD_append, BitVec.getLsbD_extractLsb']
  interval_cases i <;> simp

theorem nibbles (k w : BitVec 4) : (k ++ w).extractLsb' 4 4 = k ∧ (k ++ w).extractLsb' 0 4 = w := by
  revert k w; decide +kernel

theorem bytes16_word (a b : Byte) : bytes16 (word16 a b) = [a, b] := by
  have h1 : (word16 a b).extractLsb' 8 8 = a := by
    apply BitVec.eq_of_getLsbD_eq
    intro i hi
    simp only [word16, BitVec.getLsbD_append, BitVec.getLsbD_extractLsb']
    interval_cases i <;> simp
  have h2 : (word16 a b).extractLsb' 0 8 = b := by
    apply BitVec.eq_of_getLsbD_eq
    intro i hi
    simp only [word16, BitVec.getLsbD_append, BitVec.getLsbD_extractLsb']
    interval_cases i <;> simp
  rw [bytes16, h1, h2]

theorem bytes32_word (a b c d : Byte) : bytes32 (word32 a b c d) = [a, b, c, d] := by
  have h1 : (word32 a b c d).extractLsb' 24 8 = a := by
    apply BitVec.eq_of_getLsbD_eq
    intro i hi
    simp only [word32, BitVec.getLsbD_append, BitVec.getLsbD_extractLsb']
    interval_cases i <;> simp
  have h2 : (word32 a b c d).extractLsb' 16 8 = b := by
    apply BitVec.eq_of_getLsbD_eq
    intro i hi
    simp only [word32, BitVec.getLsbD_append, BitVec.getLsbD_extractLsb']
    interval_cases i <;> simp
  have h3 : (word32 a b c d).extractLsb' 8 8 = c := by
    apply BitVec.eq_of_getLsbD_eq
    intro i hi
    simp only [word32, BitVec.getLsbD_append, BitVec.getLsbD_extractLsb']
    interval_cases i <;> simp
  have h4 : (word32 a b c d).extractLsb' 0 8 = d := by
    apply BitVec.eq_of_getLsbD_eq
    intro i hi
    simp only [word32, BitVec.getLsbD_append, BitVec.getLsbD_extractLsb']
    interval_cases i <;> simp
  rw [bytes32, h1, h2, h3, h4]

end Sys2Proof.Machine
end

