-- ==== Sys2Proof/Laws/Lanes.lean ====
section
/-! SUPPORT. The arbiter's grant and the owed frames: what a grant does when the port is busy and when it is free, in which
link states an owed GOODBYE is next, and that making an ordinary ACK owed refreshes the last ACK or appends one. -/

set_option Elab.async false

namespace Sys2Proof.Machine

variable {s : State}

/-! ### The grant (R172 to R174) -/

/-- A busy port is granted to nobody. -/
theorem grant_busy (h : s.da.port.isSome = true) : grant s = s := by
  unfold grant
  cases hp : s.da.port with
  | none => simp [hp] at h
  | some _ => rfl

/-- Nothing is granted when nothing is presented. -/
theorem grant_idle (h1 : s.da.fg = none) (h2 : s.da.ap = none) (h3 : s.da.cp = none) : grant s = s := by
  unfold grant
  cases s.da.port <;> simp [Arbiter.choose, h1, h2, h3]

/-- Whatever a grant does, it is a grant to one of the three clients of the request it had presented, or nothing (R172). -/
theorem grant_cases :
    grant s = s ∨ ∃ c t, s.da.port = none ∧ s.da.choose s.au.promotion = some c ∧ s.da.request c = some t
      ∧ grant s = readGranted c (s.setDa (s.da.granted t c)) := by
  unfold grant
  split
  next => simp
  next free =>
    split
    next => simp
    next c chosen =>
      split
      next => simp
      next t asked => exact Or.inr ⟨c, t, free, chosen, asked, rfl⟩

/-- A grant changes nothing of the resync engine but that a requested read becomes granted (R125). -/
theorem grant_re : (grant s).re = s.re ∨ (grant s).re = { s.re with read := .granted } := by
  obtain same | ⟨client, _, _, _, _, given⟩ := grant_cases (s := s)
  · simp [same]
  · cases client <;> simp [given, readGranted]

/-! ### The foreground's request (R44, R163) -/

/-- A grant takes the foreground's request or leaves it waiting. -/
theorem grant_asked {x : Txn} (h : s.da.fg = some x ∨ s.da.port = some ⟨.fg, x⟩) :
    (grant s).da.fg = some x ∨ (grant s).da.port = some ⟨.fg, x⟩ := by
  obtain same | ⟨client, t, free, _, asked, given⟩ := grant_cases (s := s)
  · rwa [same]
  · rcases h with waits | holds
    · cases client <;> simp_all [readGranted, Arbiter.granted, Arbiter.request]
    · simp [free] at holds

/-- Presenting the foreground's request, in a state whose port is busy with whatever `s` left there, asks for it. -/
theorem presentFg_asked {x : Txn} {u : State} (busy : s.da.port.isSome = true → u.da.port = s.da.port) :
    ForegroundAsked x s (presentFg x u) := by
  refine ⟨fun held => ?_, grant_asked (Or.inl rfl)⟩
  have port : (u.setDa { u.da with fg := some x }).da.port.isSome = true := by simpa [busy held] using held
  rw [presentFg, grant_busy port]
  exact ⟨busy held, rfl⟩

/-- The engine's read starts behind the foreground's request. -/
theorem ForegroundAsked.advanceEngine {x : Txn} {u : State} (h : ForegroundAsked x s u) :
    ForegroundAsked x s (advanceEngine u) := by
  have select : (selectSegment u).da = u.da := by simp
  unfold Machine.advanceEngine startRead
  repeat' split
  · simpa only [ForegroundAsked, select] using h
  · refine ⟨fun held => ?_, grant_asked (by simpa [select] using h.2)⟩
    have port := h.1 held
    rw [presentCp, grant_busy (by simpa [select, port.1] using held)]
    simpa [select] using port
  · simpa only [ForegroundAsked, select] using h

/-! ### Owed frames (R112) -/

theorem owed_isAck (o : Owed) : o.isAck = true ↔ o.ofAck := by cases o <;> simp [Owed.isAck, Owed.ofAck]

theorem refreshAck_none {through limit : Seq} {l : List Owed} (h : ∀ o ∈ l, ¬o.ofAck) :
    refreshAck through limit l = none := by
  induction l with
  | nil => rfl
  | cons o rest ih =>
    have hr : rest.any Owed.isAck = false := by
      rw [List.any_eq_false]
      intro x hx
      rw [owed_isAck]
      exact h x (List.mem_cons_of_mem _ hx)
    have ho := h o List.mem_cons_self
    unfold refreshAck
    cases o <;> simp_all [Owed.ofAck]

theorem refreshAck_last {through limit a l : Seq} {reject : Option RejectReason} {pre post : List Owed}
    (h : ∀ o ∈ post, ¬o.ofAck) :
    refreshAck through limit (pre ++ .ack a l reject :: post)
      = match reject with
        | none => some (pre ++ .ack through limit none :: post)
        | some _ => none := by
  induction pre with
  | nil =>
    have hr : post.any Owed.isAck = false := by
      rw [List.any_eq_false]
      intro x hx
      rw [owed_isAck]
      exact h x hx
    simp only [List.nil_append, refreshAck, hr]
    cases reject <;> simp
  | cons o rest ih =>
    have hr : (rest ++ .ack a l reject :: post).any Owed.isAck = true := by simp [Owed.isAck]
    simp only [List.cons_append, refreshAck, hr, if_true, ih]
    cases reject <;> simp

/-- In UP an ordinary ACK becomes owed: the last ACK is refreshed or one is appended, and the apply unit has reported
everything (R111, R112). -/
theorem oweAck_lanes (h : s.lc.state = .up) :
    AckOwed s.au.appliedThrough (s.au.appliedThrough + 16) s.lanes.owed (oweAck s).lanes.owed := by
  have hu : s.isUp = true := by simp [State.isUp, h]
  simp only [oweAck, hu, if_true, State.setLanes_lanes]
  refine ⟨fun hn => by simp [refreshAck_none hn], ?_⟩
  rintro pre post a l reject he hn
  rw [he, refreshAck_last hn]
  cases reject <;> simp

theorem oweAck_au (h : s.lc.state = .up) : (oweAck s).au = { s.au with unreported := 0, ackDelay := none } := by
  simp [oweAck, State.isUp, h]

/-- Outside UP no ACK becomes owed (R111). -/
theorem oweAck_down (h : s.lc.state ≠ .up) : oweAck s = s := by simp [oweAck, State.isUp, h]

/-! ### An owed GOODBYE (R52, R54, R68, R80) -/

/-- Where no GOODBYE is owed none is next. -/
theorem goodbyeNext_none (h : s.lanes.goodbye = none) : s.goodbyeNext = false := by
  unfold State.goodbyeNext
  split <;> simp [h]

/-- An owed GOODBYE is next in OFF, DOWN and UP. -/
theorem goodbyeNext_sent (h : s.lc.state = .off ∨ s.lc.state = .down ∨ s.lc.state = .up) :
    s.goodbyeNext = s.lanes.goodbye.isSome := by
  rcases h with h | h | h <;> simp [State.goodbyeNext, h]

/-- No GOODBYE is next in TRAINING, HELLO and FAULT. -/
theorem goodbyeNext_held (h : s.lc.state = .training ∨ s.lc.state = .hello ∨ s.lc.state = .fault) :
    s.goodbyeNext = false := by
  rcases h with h | h | h <;> simp [State.goodbyeNext, h]

/-- What entry into TRAINING leaves at the lanes and at the link controller (R57). -/
theorem enterTraining_lanes : (enterTraining s).lanes = { s.lanes with goodbye := none } := rfl

theorem enterTraining_lc :
    (enterTraining s).lc = { s.lc with state := .training, training := some 10000, holdoff := none } := rfl

end Sys2Proof.Machine
end

