-- ==== Sys2Proof/Laws/PerInstr.lean ====
section
/-! SUPPORT. The family WellFormedCodes: which terms of `Instr` are commands of the table, row by row. -/

set_option Elab.async false

namespace Sys2Proof.Laws.WellFormedCodes

open Sys2Proof Sys2Proof.Machine

/-- A term is a command of the table unless it calls a defined code undefined: UNKNOWN_COMMAND's code has no argument
count (R196, R212), and UNDEFINED_FRAME's type is none of the six (R210). -/
def Statement (i : Instr) : Prop :=
  i.wf = true ↔
    match i with
    | .unknownCommand code => argCount code = none
    | .undefinedFrame typeCode _ =>
        typeCode ≠ 0x01 ∧ typeCode ≠ 0x02 ∧ typeCode ≠ 0x03 ∧ typeCode ≠ 0x10 ∧ typeCode ≠ 0x11 ∧ typeCode ≠ 0x12
    | _ => True

/-- The codes with an argument count are the 25 command codes of R212. -/
theorem argCount_isSome_iff (code : Byte) : (argCount code).isSome = commandCodes.contains code := by
  revert code; decide +kernel

theorem winConfig (w : Byte) (base : BitVec 32) (length mapOffset : BitVec 16) (policy autoResync crc : Byte)
    : Statement (.winConfig w base length mapOffset policy autoResync crc) := ⟨fun _ => trivial, fun _ => rfl⟩

theorem winEnable (w mode crc : Byte) : Statement (.winEnable w mode crc) := ⟨fun _ => trivial, fun _ => rfl⟩

theorem winDisable (w crc : Byte) : Statement (.winDisable w crc) := ⟨fun _ => trivial, fun _ => rfl⟩

theorem winResync (w crc : Byte) : Statement (.winResync w crc) := ⟨fun _ => trivial, fun _ => rfl⟩

theorem winHalt (w crc : Byte) : Statement (.winHalt w crc) := ⟨fun _ => trivial, fun _ => rfl⟩

theorem winResume (w crc : Byte) : Statement (.winResume w crc) := ⟨fun _ => trivial, fun _ => rfl⟩

theorem winMark (w : Byte) (first count : BitVec 16) (crc : Byte)
    : Statement (.winMark w first count crc) := ⟨fun _ => trivial, fun _ => rfl⟩

theorem winStatus (w crc : Byte) : Statement (.winStatus w crc) := ⟨fun _ => trivial, fun _ => rfl⟩

theorem inConfig (i : Byte) (base length : BitVec 32) (guard crc : Byte)
    : Statement (.inConfig i base length guard crc) := ⟨fun _ => trivial, fun _ => rfl⟩

theorem inEnable (i crc : Byte) : Statement (.inEnable i crc) := ⟨fun _ => trivial, fun _ => rfl⟩

theorem inDisable (i crc : Byte) : Statement (.inDisable i crc) := ⟨fun _ => trivial, fun _ => rfl⟩

theorem inStatus (i crc : Byte) : Statement (.inStatus i crc) := ⟨fun _ => trivial, fun _ => rfl⟩

theorem linkEnable (crc : Byte) : Statement (.linkEnable crc) := ⟨fun _ => trivial, fun _ => rfl⟩

theorem linkDisable (crc : Byte) : Statement (.linkDisable crc) := ⟨fun _ => trivial, fun _ => rfl⟩

theorem linkStatus (crc : Byte) : Statement (.linkStatus crc) := ⟨fun _ => trivial, fun _ => rfl⟩

theorem fence (tag crc : Byte) : Statement (.fence tag crc) := ⟨fun _ => trivial, fun _ => rfl⟩

theorem fenceLog (clear crc : Byte) : Statement (.fenceLog clear crc) := ⟨fun _ => trivial, fun _ => rfl⟩

theorem alertRead (crc : Byte) : Statement (.alertRead crc) := ⟨fun _ => trivial, fun _ => rfl⟩

theorem alertEnable (window link fence integrity crc : Byte)
    : Statement (.alertEnable window link fence integrity crc) := ⟨fun _ => trivial, fun _ => rfl⟩

theorem causeRead (category crc : Byte) : Statement (.causeRead category crc) := ⟨fun _ => trivial, fun _ => rfl⟩

theorem causeClear (category : Byte) (list : BitVec 32) (crc : Byte)
    : Statement (.causeClear category list crc) := ⟨fun _ => trivial, fun _ => rfl⟩

theorem countersRead (clear crc : Byte) : Statement (.countersRead clear crc) := ⟨fun _ => trivial, fun _ => rfl⟩

theorem getParam (word crc : Byte) : Statement (.getParam word crc) := ⟨fun _ => trivial, fun _ => rfl⟩

theorem setParam (word : Byte) (value : BitVec 16) (crc : Byte)
    : Statement (.setParam word value crc) := ⟨fun _ => trivial, fun _ => rfl⟩

theorem resetMirror (crc : Byte) : Statement (.resetMirror crc) := ⟨fun _ => trivial, fun _ => rfl⟩

theorem unknownCommand (code : Byte) : Statement (.unknownCommand code) := by
  have h := argCount_isSome_iff code
  revert h
  simp only [Statement, Instr.wf]
  cases argCount code <;> cases commandCodes.contains code <;> simp

theorem mcsNFall : Statement .mcsNFall := ⟨fun _ => trivial, fun _ => rfl⟩

theorem mcsNRise : Statement .mcsNRise := ⟨fun _ => trivial, fun _ => rfl⟩

theorem resetNAssert : Statement .resetNAssert := ⟨fun _ => trivial, fun _ => rfl⟩

theorem resetNRelease (nodeId : BitVec 4) : Statement (.resetNRelease nodeId) := ⟨fun _ => trivial, fun _ => rfl⟩

theorem fenceReqRise : Statement .fenceReqRise := ⟨fun _ => trivial, fun _ => rfl⟩

theorem fenceReqFall : Statement .fenceReqFall := ⟨fun _ => trivial, fun _ => rfl⟩

theorem upstreamOffer (t : Txn) : Statement (.upstreamOffer t) := ⟨fun _ => trivial, fun _ => rfl⟩

theorem passThroughComplete (r : Result) (bytes : LineData)
    : Statement (.passThroughComplete r bytes) := ⟨fun _ => trivial, fun _ => rfl⟩

theorem localWriteComplete (r : Result) : Statement (.localWriteComplete r) := ⟨fun _ => trivial, fun _ => rfl⟩

theorem stallTimerExpiry : Statement .stallTimerExpiry := ⟨fun _ => trivial, fun _ => rfl⟩

theorem confirmTimerExpiry : Statement .confirmTimerExpiry := ⟨fun _ => trivial, fun _ => rfl⟩

theorem mergeTimerExpiry : Statement .mergeTimerExpiry := ⟨fun _ => trivial, fun _ => rfl⟩

theorem aligned : Statement .aligned := ⟨fun _ => trivial, fun _ => rfl⟩

theorem lost : Statement .lost := ⟨fun _ => trivial, fun _ => rfl⟩

theorem trainingTimerExpiry : Statement .trainingTimerExpiry := ⟨fun _ => trivial, fun _ => rfl⟩

theorem holdoffTimerExpiry : Statement .holdoffTimerExpiry := ⟨fun _ => trivial, fun _ => rfl⟩

theorem helloIntervalExpiry : Statement .helloIntervalExpiry := ⟨fun _ => trivial, fun _ => rfl⟩

theorem helloReceived (proposal nodeId : Byte) (limit : Seq)
    : Statement (.helloReceived proposal nodeId limit) := ⟨fun _ => trivial, fun _ => rfl⟩

theorem helloAckReceived (agreed nodeId : Byte)
    : Statement (.helloAckReceived agreed nodeId) := ⟨fun _ => trivial, fun _ => rfl⟩

theorem livenessExpiry : Statement .livenessExpiry := ⟨fun _ => trivial, fun _ => rfl⟩

theorem keepaliveExpiry : Statement .keepaliveExpiry := ⟨fun _ => trivial, fun _ => rfl⟩

theorem goodbyeReceived (epoch reason : Byte)
    : Statement (.goodbyeReceived epoch reason) := ⟨fun _ => trivial, fun _ => rfl⟩

theorem undefinedFrame (typeCode epoch : Byte) : Statement (.undefinedFrame typeCode epoch) := by
  simp [Statement, Instr.wf, frameTypes]

theorem badCrcFrame : Statement .badCrcFrame := ⟨fun _ => trivial, fun _ => rfl⟩

theorem dataReceived (epoch : Byte) (seq : Seq) (kind window : BitVec 4) (line : BitVec 24) (mask : Mask) (data : LineData)
    : Statement (.dataReceived epoch seq kind window line mask data) := ⟨fun _ => trivial, fun _ => rfl⟩

theorem ackReceived (epoch : Byte) (ackedThrough limit : Seq) (reason : Byte) (rejectSeq : Seq)
    : Statement (.ackReceived epoch ackedThrough limit reason rejectSeq) := ⟨fun _ => trivial, fun _ => rfl⟩

theorem nakReceived (epoch : Byte) (expected : Seq)
    : Statement (.nakReceived epoch expected) := ⟨fun _ => trivial, fun _ => rfl⟩

theorem ackTimerExpiry : Statement .ackTimerExpiry := ⟨fun _ => trivial, fun _ => rfl⟩

theorem transmitData : Statement .transmitData := ⟨fun _ => trivial, fun _ => rfl⟩

theorem transmitAck : Statement .transmitAck := ⟨fun _ => trivial, fun _ => rfl⟩

theorem transmitNak : Statement .transmitNak := ⟨fun _ => trivial, fun _ => rfl⟩

theorem transmitHello : Statement .transmitHello := ⟨fun _ => trivial, fun _ => rfl⟩

theorem transmitHelloAck : Statement .transmitHelloAck := ⟨fun _ => trivial, fun _ => rfl⟩

theorem transmitGoodbye : Statement .transmitGoodbye := ⟨fun _ => trivial, fun _ => rfl⟩

theorem frameEnd : Statement .frameEnd := ⟨fun _ => trivial, fun _ => rfl⟩

theorem applyWriteComplete (r : Result) : Statement (.applyWriteComplete r) := ⟨fun _ => trivial, fun _ => rfl⟩

theorem ackDelayExpiry : Statement .ackDelayExpiry := ⟨fun _ => trivial, fun _ => rfl⟩

theorem copyReadComplete (r : Result) (bytes : LineData)
    : Statement (.copyReadComplete r bytes) := ⟨fun _ => trivial, fun _ => rfl⟩

theorem maintenanceByteComplete (b : Byte)
    : Statement (.maintenanceByteComplete b) := ⟨fun _ => trivial, fun _ => rfl⟩

end Sys2Proof.Laws.WellFormedCodes
end

