-- ==== Sys2Proof/Laws/Port.lean ====
section
/-! SUPPORT. What the completion of a request's CRC byte does, once for all 25 commands, and how requests parse. -/

set_option Elab.async false

namespace Sys2Proof.Machine

theorem holdsRequest_of_holds {s : State} {r : Request} (h : s.holds r) : s.holdsRequest r = true := by
  obtain ⟨h1, bits, h2⟩ := h
  simp [State.holdsRequest, h1, h2]

/-- A request whose CRC matches is executed and answered (R197). -/
theorem onRequest_good {s : State} {r : Request} (h : s.holds r) : onRequest r r.crc s = respond (runRequest r s) := by
  simp [onRequest, holdsRequest_of_holds h, completeRequest, Request.crc]

/-- A request whose CRC does not match is answered BAD_CRC (R197). -/
theorem onRequest_bad {s : State} {r : Request} {crc : Byte} (h : s.holds r) (hc : crc ≠ r.crc) :
    onRequest r crc s = s.answered .badCrc [] := by
  have hne : ¬crc8 (r.code :: r.args) = crc := fun e => hc e.symm
  simp only [onRequest, holdsRequest_of_holds h, completeRequest, hne, if_true, if_false]
  rfl

/-- A response formed from an execution, in the words of the statements. -/
theorem respond_eq (status : Status) (data : List Byte) (s : State) :
    respond (status, data, s) = s.answered status data := rfl

theorem respond_refuse (status : Status) (s : State) : respond (refuse status s) = s.answered status [] := rfl

theorem respond_accept (s : State) : respond (accept s) = s.answered .ok [] := rfl

theorem only_answered {T : List StateField} {s s' : State} {status : Status} {data : List Byte}
    (h1 : .port ∈ T) (h2 : .pins ∈ T) : Only T s (s'.answered status data) ↔ Only T s s' := by
  have h : s'.answered status data
      = (s'.setPort (.responding (responseBytes status data) 0)).setPins { s'.pins with msdo := some 0xFF } := rfl
  rw [h, only_setPins h2, only_setPort h1]

/-- The row of a request is its completion (R197). -/
theorem exec_row (r : Request) (crc : Byte) (s : State) : exec (r.row crc) s = .next (onRequest r crc s) := by
  cases r <;> rfl

/-- A request whose CRC matches is executed in the state it finds and answered (R197, R200). -/
theorem exec_request {s : State} {r : Request} (h : s.holds r) :
    exec (r.row r.crc) s = .next (respond (runRequest r s)) := by rw [exec_row, onRequest_good h]

/-- A maintenance command's execution touches any block but the queue of commands. -/
theorem only_runRequest {T : List StateField} {s s' : State} {r : Request} (h : ∀ f, f ≠ StateField.pending → f ∈ T) :
    Only T s (runRequest r s').2.2 ↔ Only T s s' := by
  have h1 := h .drawn (by decide)
  have h2 := h .pins (by decide)
  have h3 := h .port (by decide)
  have h4 := h .params (by decide)
  have h5 := h .out (by decide)
  have h6 := h .inb (by decide)
  have h7 := h .rq (by decide)
  have h8 := h .cu (by decide)
  have h9 := h .mp (by decide)
  have h10 := h .da (by decide)
  have h11 := h .lc (by decide)
  have h12 := h .lanes (by decide)
  have h13 := h .ts (by decide)
  have h14 := h .rc (by decide)
  have h15 := h .au (by decide)
  have h16 := h .dm (by decide)
  have h17 := h .re (by decide)
  have h18 := h .fu (by decide)
  have h19 := h .al (by decide)
  have h20 := h .counters (by decide)
  cases r <;> simp only [runRequest, onWindow, winConfigAt, winEnableAt, winDisableAt, winResyncAt, winHaltAt,
    winResumeAt, winMarkAt, winStatusAt, inConfigAt, inEnableAt, inDisableAt, inStatusAt, linkEnableRun, linkDisableRun,
    linkStatusRun, fenceRun, fenceLogRun, alertReadRun, alertEnableRun, causeReadRun, causeClearRun, countersReadRun,
    getParamRun, setParamRun, resetMirrorRun, refuse, accept]
  all_goals repeat' split
  all_goals simp [*]

theorem only_respond {T : List StateField} {s : State} {e : Execution} (h1 : .port ∈ T) (h2 : .pins ∈ T) :
    Only T s (respond e) ↔ Only T s e.2.2 := by simp [respond, h1, h2]

theorem only_completeRequest {T : List StateField} {s s' : State} {r : Request} {crc : Byte}
    (h : ∀ f, f ≠ StateField.pending → f ∈ T) : Only T s (completeRequest r crc s') ↔ Only T s s' := by
  have h2 := h .pins (by decide)
  have h3 := h .port (by decide)
  unfold completeRequest
  split <;> simp [only_respond h3 h2, only_runRequest h]

theorem only_onRequest {T : List StateField} {s s' : State} {r : Request} {crc : Byte}
    (h : ∀ f, f ≠ StateField.pending → f ∈ T) : Only T s (onRequest r crc s') ↔ Only T s s' := by
  unfold onRequest
  split <;> simp [only_completeRequest h]

end Sys2Proof.Machine
end

