-- ==== Sys2Proof/Laws/Queue.lean ====
section
/-! SUPPORT. The replay queue and the fence unit: the tail that closes, appending, merging and head removal, and what
issuing, completing and failing fences leaves in the fence list. -/

set_option Elab.async false

namespace Sys2Proof.Machine

variable {s : State}

/-! ### Sequence numbers (R1) -/

theorem later_iff (b a : Seq) :
    later b a = true ↔ 1 ≤ (b.toNat + 65536 - a.toNat) % 65536 ∧ (b.toNat + 65536 - a.toNat) % 65536 ≤ 32767 := by
  simp only [later, Bool.and_eq_true, decide_eq_true_eq, BitVec.toNat_sub]
  have := a.isLt
  have := b.isLt
  omega

theorem later_self (a : Seq) : later a a = false := by simp [later]

theorem atOrBefore_eq (b a : Seq) : atOrBefore b a = !later b a := rfl

/-! ### The tail (R34, R36) -/

theorem closedTail_nil : closedTail [] = [] := rfl

/-- The tail closes and nothing else changes (R36). -/
theorem closedTail_append (older : List Record) (r : Record) :
    closedTail (older ++ [r]) = older ++ [{ r with state := if r.state = .opened then .ready else r.state }] := by
  unfold closedTail
  simp only [List.getLast?_append, List.getLast?_singleton, Option.some_or, List.dropLast_concat]
  split <;> rfl

theorem closedTail_length (l : List Record) : (closedTail l).length = l.length := by
  rcases List.eq_nil_or_concat' l with rfl | ⟨older, r, rfl⟩
  · rfl
  · rw [closedTail_append]; simp

/-- Every record of a queue whose tail has been closed is a record of the queue before, but for an OPEN state. -/
theorem mem_closedTail {l : List Record} {r : Record} (h : r ∈ closedTail l) :
    ∃ r' ∈ l, r = { r' with state := r.state } ∧ (r.state = r'.state ∨ r.state = .ready) := by
  rcases List.eq_nil_or_concat' l with rfl | ⟨older, last, rfl⟩
  · cases h
  · simp only [closedTail_append, List.mem_append, List.mem_singleton] at h
    rcases h with before | tail
    · exact ⟨r, by simp [before], rfl, Or.inl rfl⟩
    · refine ⟨last, by simp, by rw [tail], ?_⟩
      rw [tail]
      by_cases opened : last.state = .opened <;> simp [opened]

@[simp] theorem closeTail_rq : (closeTail s).rq = { s.rq with records := closedTail s.rq.records, mergeTimer := none } := rfl

@[simp] theorem append_rq (r : Record) :
    (append r s).rq =
      { s.rq with
        records := closedTail s.rq.records ++ [{ r with seq := s.rq.nextSeq }]
        nextSeq := s.rq.nextSeq + 1
        mergeTimer := if r.state = .opened then some s.params.mergeTime.toNat else none } := rfl

/-- A merge changes the tail only, and takes no number (R35). -/
theorem merge_rq (mask : Mask) (data : LineData) {older : List Record} {r : Record} (h : s.rq.records = older ++ [r]) :
    (merge mask data s).rq =
      let close := decide (r.mask ||| mask = fullMask) || decide (s.params.mergeTime = 0)
      { s.rq with
        records := older ++ [r.merged mask data close]
        mergeTimer := if close then none else some s.params.mergeTime.toNat } := by
  simp [merge, h]

@[simp] theorem removeHead_rq (a : Seq) :
    (removeHead a s).rq =
      { s.rq with
        records := s.rq.records.filter (fun r => later r.seq a)
        sendPtr := if atOrBefore s.rq.sendPtr a then a + 1 else s.rq.sendPtr } := rfl

@[simp] theorem discardRecords_rq : (discardRecords s).rq = { s.rq with records := [], mergeTimer := none } := rfl

@[simp] theorem discardAll_records : (discardAll s).rq.records = [] := rfl

@[simp] theorem discardAll_mergeTimer : (discardAll s).rq.mergeTimer = none := rfl

/-! ### Fences (R142 to R147) -/

/-- A delivered result leaves the fence list as it was. -/
@[simp] theorem deliver_fences {source ticket done degraded} :
    (deliver source ticket done degraded s).fu.fences = s.fu.fences := by
  cases source <;> simp [deliver]

theorem pushLog_length (log : List LogEntry) (e : LogEntry) : (pushLog log e).length ≤ 8 ∨ log.length + 1 = 0 := by
  simp [pushLog, Config.logSlots]; omega

/-- Issuing a fence adds at most one to the list, and none on an empty queue (R142). -/
theorem issueFence_fences (source : FenceSource) :
    (issueFence source s).fu.fences
      = match (closedTail s.rq.records).getLast? with
        | none => s.fu.fences
        | some r => s.fu.fences ++ [⟨r.seq, source, s.someBehind⟩] := by
  unfold issueFence
  simp only [closeTail_rq]
  cases h : (closedTail s.rq.records).getLast? with
  | none => simp
  | some r => rfl

/-- Fences that fail leave no fence behind (R146). -/
@[simp] theorem failAll_fences {list : List Fence} : (failAll list s).fu.fences = [] := by
  unfold failAll
  dsimp only
  split <;> simp

/-- A session end leaves no fence behind (R146). -/
@[simp] theorem failFences_fences {before : List Fence} : (failFences before s).fu.fences = [] := by
  unfold failFences
  split <;> exact failAll_fences

/-- A delivered FAILED result adds its entry to the log if it is a PORT fence's, and nothing else (R147). -/
theorem deliver_log {source ticket done degraded} :
    (deliver source ticket done degraded s).fu.log
      = match source with
        | .port tag => pushLog s.fu.log ⟨tag, ticket, done, degraded⟩
        | .line => s.fu.log := by
  cases source <;> simp [deliver]

/-- A delivered result moves the handshake if it is the LINE fence's, and nothing else of the lines (R151). -/
theorem deliver_lines {source ticket done degraded} :
    let t := deliver source ticket done degraded s
    (t.fu.handshake, t.fu.ack, t.fu.clean)
      = match source with
        | .port _ => (s.fu.handshake, s.fu.ack, s.fu.clean)
        | .line => (.answered, true, done && !degraded) := by
  cases source <;> simp [deliver]

/-! ### A run of results (R146, R147) -/

theorem pushLog_eq (log : List LogEntry) (e : LogEntry) : pushLog log e = lastEntries (log ++ [e]) := by
  simp [pushLog, lastEntries, Config.logSlots]

theorem lastEntries_of_le {log : List LogEntry} (h : log.length ≤ 8) : lastEntries log = log := by
  simp [lastEntries, Nat.sub_eq_zero_of_le h]

/-- Entries that have left the log do not come back. -/
theorem lastEntries_append (log more : List LogEntry) : lastEntries (lastEntries log ++ more) = lastEntries (log ++ more) := by
  unfold lastEntries
  by_cases h : log.length ≤ 8
  · simp [Nat.sub_eq_zero_of_le h]
  · rw [← List.drop_append_of_le_length (Nat.sub_le _ _), List.drop_drop]
    congr 1
    simp only [List.length_drop, List.length_append]
    omega

/-- A delivered result adds the entry of its fence, if it has one, to the log (R147). -/
theorem deliver_log_result {f : Fence} {done : Bool} (h : s.fu.log.length ≤ 8) :
    (deliver f.source (some f.ticket) done f.degraded s).fu.log
      = lastEntries (s.fu.log ++ ([f].filterMap (Fence.result done))) := by
  rw [deliver_log]
  cases hs : f.source <;> simp [Fence.result, hs, pushLog_eq, lastEntries_of_le h]

/-- The log after the results of a list of fences, delivered in order (R146, R147). -/
theorem deliverRun_log (done : Bool) (list : List Fence) (s : State) (h : s.fu.log.length ≤ 8) :
    (list.foldl (fun t f => deliver f.source (some f.ticket) done f.degraded t) s).fu.log
      = lastEntries (s.fu.log ++ list.filterMap (Fence.result done)) := by
  induction list generalizing s with
  | nil => simp [lastEntries_of_le h]
  | cons f rest ih =>
      have h1 := deliver_log_result (done := done) (f := f) h
      have h2 : (lastEntries (s.fu.log ++ ([f].filterMap (Fence.result done)))).length ≤ 8 := by
        simp only [lastEntries, List.length_drop]; omega
      rw [List.foldl_cons, ih _ (by rw [h1]; exact h2), h1, lastEntries_append, List.append_assoc,
        ← List.filterMap_append, List.singleton_append]

/-- The log after the fences of a list have failed (R146). -/
theorem failAll_log {list : List Fence} (h : s.fu.log.length ≤ 8) :
    (failAll list s).fu.log = lastEntries (s.fu.log ++ list.filterMap (Fence.result false)) := by
  rw [← deliverRun_log false list s h]
  unfold failAll
  dsimp only
  split
  · rw [deliver_log]; rfl
  · rfl

end Sys2Proof.Machine
end

