-- ==== Sys2Proof/Laws/Windows.lean ====
section
/-! SUPPORT. The window tables and the dirty map: reading an entry that was written, what entering a state does to the
window that enters it and to the others, the session-end transition, and set requests. -/

set_option Elab.async false

namespace Sys2Proof.Machine

variable {s : State} {w v : WinId}

/-! ### Entries -/

/-- `State.win` reads the outbound table only. -/
theorem win_of_out {t : State} (h : t.out = s.out) : t.win w = s.win w := by simp [State.win, h]

theorem win_setWin (x : OutWindow) : (s.setWin w x).win v = if v = w then x else s.win v := by
  by_cases h : v = w
  · subst h; simp [State.win, State.setWin]
  · have hne : ¬(w : Nat) = (v : Nat) := fun e => h (Fin.ext e.symm)
    simp [State.win, State.setWin, h, hne]

@[simp] theorem win_setWin_self (x : OutWindow) : (s.setWin w x).win w = x := by simp [win_setWin]

@[simp] theorem entry_setEntry_self (i : WinId) (x : InWindow) : (s.setEntry i x).entry i = x := by
  simp [State.entry, State.setEntry]

theorem entry_setEntry_ne {i j : WinId} (x : InWindow) (h : j ≠ i) : (s.setEntry i x).entry j = s.entry j := by
  have hne : ¬(i : Nat) = (j : Nat) := fun e => h (Fin.ext e.symm)
  simp [State.entry, State.setEntry, hne]

@[simp] theorem setWin_re (x : OutWindow) : (s.setWin w x).re = s.re := rfl
@[simp] theorem setWin_al (x : OutWindow) : (s.setWin w x).al = s.al := rfl
@[simp] theorem setWin_fu (x : OutWindow) : (s.setWin w x).fu = s.fu := rfl
@[simp] theorem setWin_dm (x : OutWindow) : (s.setWin w x).dm = s.dm := rfl
@[simp] theorem setWin_lc (x : OutWindow) : (s.setWin w x).lc = s.lc := rfl
@[simp] theorem setWin_rq (x : OutWindow) : (s.setWin w x).rq = s.rq := rfl
@[simp] theorem setWin_params (x : OutWindow) : (s.setWin w x).params = s.params := rfl

/-! ### Entering a state (R28) -/

/-- A window that enters a state has that state and halt cause, and keeps the rest of its entry; every other window is as
before (R28). -/
theorem enterWindow_win (new : WinState) (halt : Option HaltCause) :
    (enterWindow w new halt s).win v
      = if v = w then { s.win w with state := new, haltCause := halt } else s.win v := by
  have h : (enterWindow w new halt s).out = (s.setWin w { s.win w with state := new, haltCause := halt }).out := by
    unfold enterWindow
    simp only [tellEngine_out]
    split <;> simp only [degradeFences_out, raiseEntry_out]
  rw [win_of_out h, win_setWin]

/-- The fences after a window has entered a state: degraded when the window is behind (R144). -/
theorem enterWindow_fu (new : WinState) (halt : Option HaltCause) :
    (enterWindow w new halt s).fu
      = if new.behind then { s.fu with fences := s.fu.fences.map (fun f => { f with degraded := true }) } else s.fu := by
  unfold enterWindow
  simp only [tellEngine_fu]
  split <;> simp [degradeFences]

/-- The alert unit after a window has entered a state: the cause of the entry raised, and nothing else (R28). -/
theorem enterWindow_al (new : WinState) (halt : Option HaltCause) :
    (enterWindow w new halt s).al = (raiseEntry w (s.win w).state new s).al := by
  unfold enterWindow
  simp only [tellEngine_al]
  split <;> (try simp only [degradeFences_al]) <;> cases new <;> simp only [raiseEntry] <;> first | rfl | (split <;> rfl)

/-- No cause is cleared by a window's entry into a state. -/
theorem enterWindow_has (new : WinState) (halt : Option HaltCause) (c : Cause) (h : s.al.detail.has c = true) :
    (enterWindow w new halt s).al.detail.has c = true := by
  rw [enterWindow_al]
  cases new <;> simp only [raiseEntry] <;> first | exact h | skip
  · split
    · exact raise_has_of _ _ _ h
    · exact h
  · exact raise_has_of _ _ _ h
  · exact raise_has_of _ _ _ h

/-- Towards RESYNC: a window without a mark is ACTIVE at once (R17). -/
theorem toResync_win :
    (toResync w s).win v
      = if v = w then
          { s.win w with state := if (s.win w).dirtyCount = 0 then .active else .resync, haltCause := none }
        else s.win v := by
  unfold toResync
  split <;> simp_all [enterWindow_win]

/-- The session-end transition of one window: mirrored windows become DEGRADED (R23). -/
theorem endWindow_win :
    (endWindow w s).win v
      = if v = w ∧ (s.win w).state.mirrored then { s.win w with state := .degraded, haltCause := none } else s.win v := by
  unfold endWindow
  split <;> simp_all [enterWindow_win]

theorem endWindows_foldl (l : List WinId) (hl : l.Nodup) (v : WinId) (s : State) :
    (l.foldl (fun t w => endWindow w t) s).win v
      = if v ∈ l ∧ (s.win v).state.mirrored then { s.win v with state := .degraded, haltCause := none }
        else s.win v := by
  induction l generalizing s with
  | nil => simp
  | cons w l ih =>
    rw [List.foldl_cons, ih (List.nodup_cons.1 hl).2, endWindow_win]
    have hw := (List.nodup_cons.1 hl).1
    by_cases hv : v = w
    · subst hv
      simp only [hw, false_and, if_false, List.mem_cons, true_or, true_and]
    · simp [hv]

/-- The session-end transition of the table: every mirrored window becomes DEGRADED, every other one is as before
(R23). -/
theorem endWindows_win :
    (endWindows s).win v
      = if (s.win v).state.mirrored then { s.win v with state := .degraded, haltCause := none } else s.win v := by
  rw [endWindows, endWindows_foldl _ (List.nodup_finRange 8)]
  simp

/-! ### Set requests (R122) -/

@[simp] theorem redirty_win (k : Nat) : (redirty w k s).win v = s.win v := win_of_out (by simp)

/-- A set request leaves every window's configuration and state, and counts a mark that was clear (R122). -/
theorem markSegment_win (k : Nat) :
    (markSegment w k s).win v
      = if v = w ∧ (s.win w).isEnabled = true ∧ s.dm.getLsbD ((s.win w).position k) = false then
          { s.win w with dirtyCount := (s.win w).dirtyCount + 1 }
        else s.win v := by
  unfold markSegment
  by_cases he : (s.win w).isEnabled
  · by_cases hd : s.dm.getLsbD ((s.win w).position k)
    · simp [he, hd]
    · simp [he, hd, win_setWin]
      split <;> rfl
  · simp [he]

/-- A set request sets one mark and no other (R122). -/
theorem markSegment_dm (k j : Nat) :
    (markSegment w k s).dm.getLsbD j
      = (s.dm.getLsbD j
          || ((s.win w).isEnabled && decide (j = (s.win w).position k) && decide ((s.win w).position k < 4096))) := by
  unfold markSegment
  by_cases he : (s.win w).isEnabled
  · by_cases hd : s.dm.getLsbD ((s.win w).position k)
    · simp [he, hd]
      rintro rfl _
      exact hd
    · simp only [he, hd, if_true, Bool.false_eq_true, if_false, redirty_dm, setWin_dm, State.setDm_dm, BitVec.getLsbD_or,
        BitVec.getLsbD_twoPow]
      congr 1
      by_cases hj : j = (s.win w).position k
      · subst hj; simp
      · have : ¬(s.win w).position k = j := fun e => hj e.symm
        simp [hj, this]
  · simp [he]

/-- A set request never clears a mark. -/
theorem markSegment_dm_of (k j : Nat) (h : s.dm.getLsbD j = true) : (markSegment w k s).dm.getLsbD j = true := by
  simp [markSegment_dm, h]

end Sys2Proof.Machine
end

