-- ==== Sys2Proof/Laws/Session.lean ====
section
/-! SUPPORT. The session end, said once: what it leaves at the link controller and the lanes, and at every other block. -/

set_option Elab.async false

namespace Sys2Proof.Machine

variable {s : State}

theorem win_eq (s : State) (w : WinId) : s.win w = s.out[w] := rfl

/-! ### Windows and marks through the discard (R39, R24) -/

theorem discardFailure_win {w v : WinId} :
    (discardFailure w s).win v
      = if v = w ∧ (s.win w).state = .active then { s.win w with state := .degraded, haltCause := none } else s.win v := by
  unfold discardFailure
  split <;> simp_all [enterWindow_win]

/-- A step of the discard: the record's segment marked in its enabled window, with the transition of R24. -/
def discardOne (t : State) (r : Record) : State :=
  if (t.win r.window).isEnabled then discardFailure r.window (markLine r.window r.line t) else t

theorem discardAll_eq : discardAll s = discardRecords (s.rq.records.foldl discardOne s) := rfl

theorem discardOne_window {t : State} {r : Record} {w : WinId} :
    ((discardOne t r).win w).state
        = (if w = r.window ∧ (t.win w).state = .active then .degraded else (t.win w).state)
      ∧ ((discardOne t r).win w).mapOffset = (t.win w).mapOffset := by
  unfold discardOne markLine
  by_cases he : (t.win r.window).isEnabled
  · simp only [he, if_true, discardFailure_win, markSegment_win]
    by_cases hw : w = r.window
    · subst hw
      by_cases ha : (t.win r.window).state = .active
      · split <;> simp_all
      · split <;> simp_all
    · simp [hw]
  · have : (t.win r.window).state ≠ .active := by
      intro h; simp [OutWindow.isEnabled, h] at he
    rw [if_neg he]
    refine ⟨?_, rfl⟩
    rw [if_neg]
    rintro ⟨rfl, h⟩
    exact this h

theorem discardOne_isEnabled {t : State} {r : Record} {w : WinId} :
    ((discardOne t r).win w).isEnabled = (t.win w).isEnabled := by
  simp only [OutWindow.isEnabled, discardOne_window.1]
  split
  · rename_i h; rw [h.2]; rfl
  · rfl

@[simp] theorem discardOne_params {t : State} {r : Record} : (discardOne t r).params = t.params := by
  unfold discardOne; split <;> simp

theorem discardOne_dm {t : State} {r : Record} (j : Nat) :
    (t.dm.getLsbD j = true → (discardOne t r).dm.getLsbD j = true)
      ∧ ((t.win r.window).isEnabled = true → (t.win r.window).position (t.segmentOf r.line) = j → j < 4096 →
        (discardOne t r).dm.getLsbD j = true) := by
  unfold discardOne markLine
  by_cases he : (t.win r.window).isEnabled
  · simp only [he, if_true, discardFailure_dm, markSegment_dm]
    refine ⟨fun h => by simp [h], fun _ h hj => ?_⟩
    subst h
    simp [hj]
  · simp [he]

theorem discard_foldl (l : List Record) (t : State) :
    (∀ w, ((l.foldl discardOne t).win w).state
        = if (∃ r ∈ l, r.window = w) ∧ (t.win w).state = .active then .degraded else (t.win w).state)
      ∧ (∀ w, ((l.foldl discardOne t).win w).mapOffset = (t.win w).mapOffset)
      ∧ (∀ j, t.dm.getLsbD j = true → (l.foldl discardOne t).dm.getLsbD j = true)
      ∧ ∀ r ∈ l, (t.win r.window).isEnabled = true → (t.win r.window).position (t.segmentOf r.line) < 4096 →
        (l.foldl discardOne t).dm.getLsbD ((t.win r.window).position (t.segmentOf r.line)) = true := by
  induction l generalizing t with
  | nil => simp
  | cons r l ih =>
    obtain ⟨h1, h2, h3, h4⟩ := ih (discardOne t r)
    refine ⟨?_, ?_, ?_, ?_⟩
    · intro w
      rw [List.foldl_cons, h1, discardOne_window.1]
      by_cases hw : w = r.window
      · subst hw
        by_cases ha : (t.win r.window).state = .active <;> simp [ha]
      · have : ¬r.window = w := fun e => hw e.symm
        simp [hw, this]
    · intro w
      rw [List.foldl_cons, h2, discardOne_window.2]
    · intro j hj
      exact h3 j ((discardOne_dm j).1 hj)
    · intro r' hr' he hj
      rw [List.foldl_cons]
      rcases List.mem_cons.1 hr' with rfl | hr'
      · exact h3 _ ((discardOne_dm _).2 he rfl hj)
      · have hpos : ((discardOne t r).win r'.window).position ((discardOne t r).segmentOf r'.line)
            = (t.win r'.window).position (t.segmentOf r'.line) := by
          simp [OutWindow.position, State.segmentOf, discardOne_window.2]
        have := h4 r' hr' (by rw [discardOne_isEnabled]; exact he) (by rw [hpos]; exact hj)
        rwa [hpos] at this

/-- One discarded record sets the mark of its segment, if its window is enabled, and no other (R39, R122). -/
theorem discardOne_dm_iff {t : State} {r : Record} {j : Nat} (inside : j < 4096) :
    (discardOne t r).dm.getLsbD j = true ↔
      t.dm.getLsbD j = true
        ∨ ((t.win r.window).isEnabled = true ∧ (t.win r.window).position (t.segmentOf r.line) = j) := by
  unfold discardOne markLine
  by_cases on : (t.win r.window).isEnabled
  · simp only [on, if_true, discardFailure_dm, markSegment_dm]
    simp only [Bool.or_eq_true, Bool.and_eq_true, decide_eq_true_eq, true_and]
    exact or_congr_right ⟨fun h => h.1.symm, fun h => ⟨h.symm, h ▸ inside⟩⟩
  · simp [on]

/-- The discarded records set the marks of their segments, where their windows are enabled, and no other mark (R39). -/
theorem discard_dm_iff {j : Nat} (inside : j < 4096) (l : List Record) (t : State) :
    (l.foldl discardOne t).dm.getLsbD j = true ↔
      t.dm.getLsbD j = true
        ∨ ∃ r ∈ l, (t.win r.window).isEnabled = true ∧ (t.win r.window).position (t.segmentOf r.line) = j := by
  have place (u : State) (r q : Record) : ((discardOne u r).win q.window).position ((discardOne u r).segmentOf q.line)
      = (u.win q.window).position (u.segmentOf q.line) := by
    simp [OutWindow.position, State.segmentOf, discardOne_window.2]
  induction l generalizing t with
  | nil => simp
  | cons r rest later =>
    refine (later (discardOne t r)).trans ?_
    simp only [discardOne_dm_iff inside, discardOne_isEnabled, place, List.exists_mem_cons_iff, or_assoc]

/-- Abandoning the current segment: a granted read's result will be dropped, a requested read is withdrawn with its
reservation released (R135). -/
theorem abandon_read : ReadAbandoned s (abandon s) := by
  unfold ReadAbandoned abandon
  constructor
  · intro granted
    simp [granted]
  · intro requested
    simp [requested, withdrawCp]

theorem abandon_current : (abandon s).re.current = none ∧ (abandon s).re.state = .select := by
  unfold abandon
  cases s.re.read <;> simp

/-! ### The link controller and the lanes (R67, R68) -/

/-- Outside UP nothing ends (R70). -/
theorem sessionEnd_down {cause peer} (h : s.lc.state ≠ .up) : sessionEnd cause peer s = s := by
  simp [sessionEnd, State.isUp, h]

theorem sessionEnd_up {cause peer} (h : s.lc.state = .up) :
    sessionEnd cause peer s = acceptOffer (settle (announceEnd (leaveUp cause peer s))) := by
  simp [sessionEnd, State.isUp, h]

/-- What a session end leaves at the link controller and the lanes (R67, R68). -/
theorem leaveUp_lc {cause peer} :
    (leaveUp cause peer s).lc =
      { s.lc with
        state := if cause = .command then .off else .down
        epoch := 0, lastDown := some cause, peerReason := peer, proposal := 0, attempts := 0, peerHello := none
        liveness := none, keepalive := none
        holdoff := if cause = .command then none else some 2000 } := by
  simp only [leaveUp, raise_lc]; split <;> rfl

theorem leaveUp_lanes {cause peer} :
    (leaveUp cause peer s).lanes =
      { s.lanes with
        owed := []
        goodbye := if cause.sendsGoodbye then some (s.lc.epoch, cause) else none } := by
  simp only [leaveUp, raise_lanes]; split <;> rfl

@[simp] theorem sessionEnd_lc {cause peer} (h : s.lc.state = .up) :
    (sessionEnd cause peer s).lc = (leaveUp cause peer s).lc := by simp [sessionEnd_up h]

/-! ### The apply unit outside UP (R116, R117) -/

/-- Finishing an entry outside UP and HELLO sends nothing and keeps the drain's books (R117). -/
theorem finishEntry_down {e : ApplyEntry} (h : s.lc.state ≠ .up) (h2 : s.lc.state ≠ .hello) :
    (finishEntry e s).lanes = s.lanes
      ∧ (finishEntry e s).au =
        { s.au with
          queue := s.au.queue.tail
          state := .idle
          appliedThrough := e.seq
          lastApplied := e.seq
          promotion := if s.au.queue.tail.length ≤ 4 then false else s.au.promotion
          drained := if s.au.queue.tail.isEmpty then true else s.au.drained } := by
  have hu : s.isUp = false := by simp [State.isUp, h]
  unfold finishEntry
  dsimp only
  cases e.reject <;>
    simp only [reportFinish, reportReject, State.isUp, State.setAu_lc, State.setAu_au, State.setAu_lanes, bump_lc, raise_lc,
      bump_au, raise_au, bump_lanes, raise_lanes, h, if_false, h2, applyQueueEmptied, decide_false,
      Bool.false_and, Bool.false_eq_true] <;>
    (constructor <;> split <;> simp_all)

/-- The books of an apply unit that drains: the last finished record is the last applied one, and it is drained when its
queue is empty (R116, R117). -/
def Draining (a : ApplyUnit) : Prop :=
  a.state ≠ .blocked ∧ a.lastApplied = a.appliedThrough ∧ a.drained = a.queue.isEmpty

theorem takeEntries_down (n : Nat) (s : State) (h : s.lc.state ≠ .up) (h2 : s.lc.state ≠ .hello) (hd : Draining s.au) :
    (takeEntries n s).lanes = s.lanes ∧ Draining (takeEntries n s).au
      ∧ (takeEntries n s).au.unreported = s.au.unreported ∧ (takeEntries n s).au.ackDelay = s.au.ackDelay
      ∧ (takeEntries n s).au.lastEpoch = s.au.lastEpoch
      ∧ (takeEntries n s).au.queue.length ≤ s.au.queue.length := by
  induction n generalizing s with
  | zero => exact ⟨rfl, hd, rfl, rfl, rfl, le_refl _⟩
  | succ n ih =>
    unfold takeEntries
    split
    · exact ⟨rfl, hd, rfl, rfl, rfl, le_refl _⟩
    · rename_i e rest hq
      split
      · split
        · rename_i reason _
          obtain ⟨hl, ha⟩ := finishEntry_down (e := { e with reject := some reason }) h h2
          obtain ⟨i1, i2, i3, i4, i5, i6⟩ := ih (finishEntry { e with reject := some reason } s) (by simpa using h)
            (by simpa using h2) (by
              rw [ha]
              refine ⟨by simp, rfl, ?_⟩
              have := hd.2.2
              rw [hq] at this
              dsimp only
              split <;> simp_all)
          rw [ha] at i3 i4 i5 i6
          exact ⟨i1.trans hl, i2, i3, i4, i5, i6.trans (by simp)⟩
        · simp only [presentAp_lanes, State.setAu_lanes, presentAp_au, State.setAu_au]
          exact ⟨trivial, ⟨by simp, hd.2⟩, trivial, trivial, trivial, le_refl _⟩
      · exact ⟨rfl, hd, rfl, rfl, rfl, le_refl _⟩

/-- The apply unit at a session end: nothing is sent, and the unit drains (R116). -/
theorem endApply_down (h : s.lc.state ≠ .up) (h2 : s.lc.state ≠ .hello) :
    (endApply s).lanes = s.lanes ∧ Draining (endApply s).au ∧ (endApply s).au.unreported = 0
      ∧ (endApply s).au.ackDelay = none ∧ (endApply s).au.lastEpoch = s.au.epoch
      ∧ (endApply s).au.queue.length ≤ s.au.queue.length := by
  unfold endApply takeHead
  refine takeEntries_down _ _ (by simpa using h) (by simpa using h2) ⟨?_, rfl, rfl⟩
  simp only [State.setAu_au]
  split <;> simp_all

/-- A unit that is writing, or has nothing waiting, keeps its queue and its applied_through (R116). -/
theorem endApply_kept (h : s.au.state = .writing ∨ s.au.queue = []) :
    (endApply s).au =
      { s.au with
        state := if s.au.state = .blocked then .idle else s.au.state
        unreported := 0, ackDelay := none, lastEpoch := s.au.epoch, lastApplied := s.au.appliedThrough
        drained := s.au.queue.isEmpty } := by
  unfold endApply takeHead
  rcases h with writing | empty
  · cases waiting : s.au.queue <;> simp [takeEntries, writing, waiting]
  · simp [takeEntries, empty]

/-! ### Flags and the whole announcement -/

/-- Flags only gain: no cause of `s` is clear in `t`. -/
def FlagsKept (s t : State) : Prop := ∀ c, s.al.detail.has c = true → t.al.detail.has c = true

theorem FlagsKept.refl (s : State) : FlagsKept s s := fun _ h => h
theorem FlagsKept.trans {s t u : State} (h1 : FlagsKept s t) (h2 : FlagsKept t u) : FlagsKept s u :=
  fun c h => h2 c (h1 c h)
theorem flagsKept_of_al {t : State} (h : t.al = s.al) : FlagsKept s t := fun _ hc => by rw [h]; exact hc
theorem flagsKept_raise (c : Cause) (s : State) : FlagsKept s (raise c s) := fun _ h => raise_has_of _ _ _ h
theorem flagsKept_foldl {α : Type} {f : State → α → State} (hf : ∀ t a, FlagsKept t (f t a)) (l : List α) (s : State) :
    FlagsKept s (l.foldl f s) :=
  List.foldlRecOn l f (motive := FlagsKept s) (FlagsKept.refl s) fun t kept a _ => kept.trans (hf t a)
theorem flagsKept_enterWindow {w new halt} (s : State) : FlagsKept s (enterWindow w new halt s) :=
  fun c h => enterWindow_has _ _ c h
theorem flagsKept_discardOne (t : State) (r : Record) : FlagsKept t (discardOne t r) := by
  unfold discardOne
  split
  · refine FlagsKept.trans (t := markLine r.window r.line t) (flagsKept_of_al (by simp)) ?_
    unfold discardFailure; split
    · exact flagsKept_enterWindow _
    · exact .refl _
  · exact .refl _
theorem flagsKept_discardAll (s : State) : FlagsKept s (discardAll s) := by
  rw [discardAll_eq]
  exact FlagsKept.trans (t := s.rq.records.foldl discardOne s) (flagsKept_foldl flagsKept_discardOne _ _)
    (flagsKept_of_al rfl)
theorem flagsKept_endWindows (s : State) : FlagsKept s (endWindows s) := by
  refine flagsKept_foldl (fun t w => ?_) _ _
  unfold endWindow; split
  · exact flagsKept_enterWindow _
  · exact .refl _
theorem flagsKept_deliver {source ticket done degraded} (s : State) :
    FlagsKept s (deliver source ticket done degraded s) := by
  unfold deliver
  cases source with
  | line => exact flagsKept_of_al rfl
  | port tag => exact FlagsKept.trans (t := s.setFu _) (flagsKept_of_al rfl) (flagsKept_raise _ _)
theorem FlagsKept.setFu {s t : State} (h : FlagsKept s t) (x : FenceUnit) : FlagsKept s (t.setFu x) := h

theorem flagsKept_failAll {list} (s : State) : FlagsKept s (failAll list s) := by
  have h : FlagsKept s (list.foldl (fun t f => deliver f.source (some f.ticket) false f.degraded t) s) :=
    flagsKept_foldl (fun t _ => flagsKept_deliver t) _ _
  unfold failAll
  dsimp only
  split
  · exact (FlagsKept.setFu h _).trans (flagsKept_deliver _)
  · exact FlagsKept.setFu h _

theorem flagsKept_failFences {before} (s : State) : FlagsKept s (failFences before s) := by
  unfold failFences
  split
  · exact flagsKept_failAll _
  · exact FlagsKept.trans (t := s.setDrawn (s.drawn + 1)) (flagsKept_of_al rfl) (flagsKept_failAll _)

theorem flagsKept_reportReject {reason} (s : State) : FlagsKept s (reportReject reason s) := by
  have h : FlagsKept s (raise .rejectSent (bump .rejectsSent s)) :=
    FlagsKept.trans (t := bump .rejectsSent s) (flagsKept_of_al rfl) (flagsKept_raise _ _)
  unfold reportReject
  dsimp only
  split
  · exact h.trans (flagsKept_of_al rfl)
  · exact h

theorem flagsKept_finishEntry {e} (s : State) : FlagsKept s (finishEntry e s) := by
  unfold finishEntry
  dsimp only
  generalize hs1 : s.setAu _ = s1
  have h1 : FlagsKept s s1 := by rw [← hs1]; exact flagsKept_of_al rfl
  have h2 : FlagsKept s1 (reportFinish s1) := by
    have h : Only [.lanes, .au] s1 (reportFinish s1) := by simp [Only.refl]
    exact flagsKept_of_al (h .al (by decide))
  have h3 : ∀ u, FlagsKept s1 u → FlagsKept s
      (if u.au.queue.isEmpty then
        applyQueueEmptied (u.setAu { u.au with drained := if u.isUp then u.au.drained else true })
      else u) := by
    intro u hu
    refine (h1.trans hu).trans ?_
    split
    · exact flagsKept_of_al (by simp)
    · exact .refl _
  cases e.reject with
  | none => exact h3 _ h2
  | some r => exact h3 _ (flagsKept_reportReject _)

theorem flagsKept_takeEntries (n : Nat) (s : State) : FlagsKept s (takeEntries n s) := by
  induction n generalizing s with
  | zero => exact .refl _
  | succ n ih =>
    unfold takeEntries
    split
    · exact .refl _
    · split
      · split
        · exact (flagsKept_finishEntry s).trans (ih _)
        · exact flagsKept_of_al (by simp)
      · exact .refl _

theorem flagsKept_acceptOffer (s : State) : FlagsKept s (acceptOffer s) := by
  unfold acceptOffer
  split
  · exact .refl _
  · split
    · exact .refl _
    · unfold acceptTxn
      dsimp only
      split
      · split
        · have h : FlagsKept s (completeUpstream .err none (s.setMp { s.mp with offer := none })) :=
            flagsKept_of_al (by simp)
          exact (h.trans (flagsKept_raise .guardRefusal _)).trans (flagsKept_of_al rfl)
        · exact flagsKept_of_al (by simp)
        · exact flagsKept_of_al (by simp)
      · exact flagsKept_of_al (by simp)

theorem FlagsKept.setAu {s t : State} (h : FlagsKept s t) (x : ApplyUnit) : FlagsKept s (t.setAu x) := h
theorem FlagsKept.setTs {s t : State} (h : FlagsKept s t) (x : Scheduler) : FlagsKept s (t.setTs x) := h

theorem flagsKept_endCapture (s : State) : FlagsKept s (endCapture s) := flagsKept_of_al (by simp)
theorem flagsKept_settle (s : State) : FlagsKept s (settle s) := flagsKept_of_al (by simp)

theorem flagsKept_announceEnd (u : State) : FlagsKept u (announceEnd u) := by
  have h1 := (flagsKept_discardAll u).trans (flagsKept_endWindows (discardAll u))
  have h2 : FlagsKept u (endScheduler (endWindows (discardAll u))) := FlagsKept.setTs h1 _
  have h3 := h2.trans (flagsKept_failFences (before := u.fu.fences) _)
  have h4 := h3.trans (flagsKept_endCapture _)
  unfold announceEnd endApply takeHead
  exact (FlagsKept.setAu h4 _).trans (flagsKept_takeEntries _ _)

/-- A session end clears no cause after LINK_DOWN and PROTOCOL_ERROR are raised. -/
theorem flagsKept_sessionEnd {cause peer} (h : s.lc.state = .up) :
    FlagsKept (leaveUp cause peer s) (sessionEnd cause peer s) := by
  rw [sessionEnd_up h]
  have h1 := flagsKept_announceEnd (leaveUp cause peer s)
  have h2 := h1.trans (flagsKept_settle _)
  exact h2.trans (flagsKept_acceptOffer _)

theorem leaveUp_flags {cause peer} :
    (leaveUp cause peer s).al.detail.has .linkDown = true
      ∧ (cause = .protocol → (leaveUp cause peer s).al.detail.has .protocolError = true) := by
  unfold leaveUp
  refine ⟨raise_has_self _ _, fun h => ?_⟩
  dsimp only
  rw [if_pos h]
  exact raise_has_of _ _ _ (raise_has_self _ _)


theorem has_linkDown (d : Details) : d.has .linkDown = d.link.getLsbD 1 := by
  simp [Details.has, Details.flags, Cause.category, Cause.bit]

theorem has_protocolError (d : Details) : d.has .protocolError = d.integrity.getLsbD 1 := by
  simp [Details.has, Details.flags, Cause.category, Cause.bit]

theorem announceEnd_lanes {u : State} (h : u.lc.state ≠ .up) (h2 : u.lc.state ≠ .hello) :
    (announceEnd u).lanes = u.lanes := by
  unfold announceEnd
  rw [(endApply_down (by simpa using h) (by simpa using h2)).1]
  simp

/-- What a session end leaves at the link controller and the lanes (R67, R68). -/
theorem sessionEnd_linkEnded {cause peer} (h : s.lc.state = .up) :
    LinkEnded cause peer (if cause = .command then .off else .down) s (sessionEnd cause peer s) := by
  have hs : (leaveUp cause peer s).lc.state ≠ .up ∧ (leaveUp cause peer s).lc.state ≠ .hello := by
    rw [leaveUp_lc]; dsimp only; split <;> simp
  refine ⟨?_, ?_, ?_, ?_⟩
  · rw [sessionEnd_lc h, leaveUp_lc]
    cases cause <;> rfl
  · rw [sessionEnd_up h]
    simp only [acceptOffer_lanes, settle_lanes]
    rw [announceEnd_lanes hs.1 hs.2, leaveUp_lanes]
    cases cause <;> rfl
  · rw [← has_linkDown]
    exact flagsKept_sessionEnd h _ leaveUp_flags.1
  · intro hc
    rw [← has_protocolError]
    exact flagsKept_sessionEnd h _ (leaveUp_flags.2 hc)

theorem discardOne_rq {t : State} {r : Record} : (discardOne t r).rq = t.rq := by
  unfold discardOne; split <;> simp

@[simp] theorem discardAll_rq : (discardAll s).rq = { s.rq with records := [], mergeTimer := none } := by
  have h : ∀ (l : List Record) (t : State), (l.foldl discardOne t).rq = t.rq := by
    intro l
    induction l with
    | nil => intro t; rfl
    | cons r l ih => intro t; rw [List.foldl_cons, ih, discardOne_rq]
  rw [discardAll_eq, discardRecords_rq, h]

/-- What the announcement of a session end leaves at the window tables, the queue, the map, the fence unit and the transmit
scheduler (R23, R39, R76, R146). -/
theorem announceEnd_blocks {u : State} :
    (announceEnd u).rq = { u.rq with records := [], mergeTimer := none }
      ∧ (∀ w : WinId, ((announceEnd u).win w).state
          = if (u.win w).state = .active ∨ (u.win w).state = .resync then .degraded else (u.win w).state)
      ∧ (∀ r ∈ u.rq.records, (u.win r.window).isEnabled = true → (u.win r.window).position (u.segmentOf r.line) < 4096 →
          (announceEnd u).dm.getLsbD ((u.win r.window).position (u.segmentOf r.line)) = true)
      ∧ (announceEnd u).fu.fences = [] ∧ (announceEnd u).ts = { u.ts with rounds := 0, ackTimer := none } := by
  obtain ⟨h1, h2, h3, h4⟩ := discard_foldl u.rq.records u
  refine ⟨?_, ?_, ?_, ?_, ?_⟩
  · simp [announceEnd, endScheduler]
  · intro w
    have : (announceEnd u).win w = (endWindows (discardAll u)).win w := win_of_out (by simp [announceEnd, endScheduler])
    rw [this, endWindows_win]
    have h5 : (discardAll u).win w = (u.rq.records.foldl discardOne u).win w := rfl
    rw [h5]
    have h6 := h1 w
    by_cases ha : (∃ r ∈ u.rq.records, r.window = w) ∧ (u.win w).state = .active
    · rw [if_pos ha] at h6
      rw [h6]
      simp [WinState.mirrored, ha.2, h6]
    · rw [if_neg ha] at h6
      rw [h6]
      cases hw : (u.win w).state <;> simp [WinState.mirrored, h6, hw]
  · intro r hr he hp
    have : (announceEnd u).dm = (u.rq.records.foldl discardOne u).dm := by simp [announceEnd, endScheduler, discardAll_eq, discardRecords]
    rw [this]
    exact h4 r hr he hp
  · simp [announceEnd]
  · simp [announceEnd, endScheduler]


/-- Completing upstream with no offer standing frees the port and ends the capture. -/
theorem endCapture_confirm {c : Capture} (h : s.cu = some c) (hp : c.phase = .confirmWait) :
    endCapture s = completeUpstream .err none s := by simp [endCapture, h, hp]

@[simp] theorem completeUpstream_cu {r bytes} : (completeUpstream r bytes s).cu = none := rfl
@[simp] theorem completeUpstream_mp {r bytes} :
    (completeUpstream r bytes s).mp
      = { s.mp with txn := none, completions := s.mp.completions ++ [⟨r, bytes⟩] } := rfl

theorem acceptOffer_none (h : s.mp.offer = none) : acceptOffer s = s := by simp [acceptOffer, h]

theorem recheckSlot_none (h : s.cu = none) : recheckSlot s = s := by simp [recheckSlot, h]

/-! ### The engine's selection (R127) -/

theorem takeSegment_win {v w : WinId} {k : Nat} :
    (takeSegment v k s).win w
      = if w = v then { s.win v with cursor := if k + 1 = (s.win v).length then 0 else k + 1 } else s.win w := by
  have h : (takeSegment v k s).win w
      = (s.setWin v { s.win v with cursor := if k + 1 = (s.win v).length then 0 else k + 1 }).win w := rfl
  rw [h, win_setWin]

/-- The engine's selection moves the cursor of the window it serves, and nothing else in the window table. -/
theorem selectSegment_win {w : WinId} :
    (selectSegment s).win w = { s.win w with cursor := ((selectSegment s).win w).cursor } := by
  unfold selectSegment
  repeat' split
  all_goals first | rfl | skip
  rw [takeSegment_win]
  split
  · rename_i hw; subst hw; rfl
  · rfl

/-- The window the engine serves next is in RESYNC (R127). -/
theorem nextWindow_resync {w : WinId} (h : s.nextWindow = some w) : (s.win w).state = .resync := by
  unfold State.nextWindow at h
  simpa using List.find?_some h

/-- The engine's selection leaves the entry of a window that is not in RESYNC as it was (R127). -/
theorem selectSegment_kept {w : WinId} (h : (s.win w).state ≠ .resync) : (selectSegment s).win w = s.win w := by
  unfold selectSegment
  repeat' split
  all_goals first | rfl | skip
  rename_i served _ _ _
  rw [takeSegment_win, if_neg]
  rintro rfl
  exact h (nextWindow_resync served)

/-- The engine's work after an event leaves the window table as the event made it, but for the cursor of a window in RESYNC
(R127, R128). -/
theorem advanceEngine_becomes {w : WinId} {x : OutWindow} {u : State}
    (table : ∀ v, u.win v = if v = w then x else s.win v) : WindowBecomes w x s (advanceEngine u) := by
  have read (t : State) (v : WinId) : (startRead t).win v = t.win v := win_of_out (by simp)
  intro v
  change (startRead (selectSegment u)).win v = { (if v = w then x else s.win v) with
      cursor := ((startRead (selectSegment u)).win v).cursor }
    ∧ ((if v = w then x else s.win v).state ≠ .resync → (startRead (selectSegment u)).win v = if v = w then x else s.win v)
  rw [read, ← table]
  exact ⟨selectSegment_win, selectSegment_kept⟩

/-- What follows an event leaves the window table as the event made it, but for the cursor of a window in RESYNC (R32,
R127). -/
theorem settle_becomes {w : WinId} {x : OutWindow} {u : State} (table : ∀ v, u.win v = if v = w then x else s.win v) :
    WindowBecomes w x s (settle u) :=
  advanceEngine_becomes fun v => (win_of_out (by simp)).trans (table v)

/-- What follows an event moves cursors, and nothing else in the window table (R32, R127). -/
theorem settle_win {w : WinId} : (settle s).win w = { s.win w with cursor := ((settle s).win w).cursor } := by
  have h1 : ∀ t : State, (startRead t).win w = t.win w := fun t => win_of_out (by simp)
  have h2 : (recheckSlot s).win w = s.win w := win_of_out (by simp)
  unfold settle advanceEngine
  rw [h1, ← h2]
  exact selectSegment_win

theorem settle_state {w : WinId} : ((settle s).win w).state = (s.win w).state := by rw [settle_win]

/-- From SELECT the engine comes to rest in IDLE without a segment, or in COPYING with one that is newly taken (R127). -/
theorem advanceEngine_fresh (select : s.re.state = .select) (held : s.re.current = none) :
    ((advanceEngine s).re.current = none → (advanceEngine s).re.state = .idle)
      ∧ ∀ g, (advanceEngine s).re.current = some g →
        (advanceEngine s).re.state = .copying ∧ g.nextLine = 0 ∧ g.lastSeq = none ∧ g.redirtied = false := by
  have read (t : State) : (startRead t).re.current = t.re.current ∧ (startRead t).re.state = t.re.state := by
    have granted (u : State) : (grant u).re.current = u.re.current ∧ (grant u).re.state = u.re.state := by
      rcases grant_re (s := u) with same | same <;> simp [same]
    unfold startRead presentCp
    repeat' split
    all_goals simp [granted]
  unfold advanceEngine
  rw [(read _).1, (read _).2]
  unfold selectSegment
  simp only [select]
  repeat' split
  all_goals simp [takeSegment, held]

/-! ### The capture unit at a session end (R41, R43, R49) -/

theorem enterWindow_da_port {w : WinId} {new : WinState} {halt : Option HaltCause} :
    (enterWindow w new halt s).da.port = s.da.port := by
  have abandoned (t : State) : (abandon t).da.port = t.da.port := by unfold abandon; split <;> rfl
  unfold enterWindow tellEngine
  dsimp only
  repeat' split
  all_goals first | rw [abandoned] | skip
  all_goals simp [degradeFences, State.setWin]

theorem takeEntries_da_port (n : Nat) (s : State) (busy : s.da.port.isSome = true) :
    (takeEntries n s).da.port = s.da.port := by
  induction n generalizing s with
  | zero => rfl
  | succ n ih =>
    unfold takeEntries
    repeat' split
    · rfl
    · rw [ih _ (by simpa using busy)]; simp
    · rw [presentAp, grant_busy (by simpa using busy)]; rfl
    · rfl

/-- The announcement of a session end leaves the access that holds the port (R177). -/
theorem announceEnd_da_port (busy : s.da.port.isSome = true) : (announceEnd s).da.port = s.da.port := by
  have fold {α : Type} (f : State → α → State) (kept : ∀ t a, (f t a).da.port = t.da.port) (l : List α) (t : State) :
      (l.foldl f t).da.port = t.da.port :=
    List.foldlRecOn l f (motive := fun u => u.da.port = t.da.port) rfl fun u h a _ => (kept u a).trans h
  have discarded : (discardAll s).da.port = s.da.port := by
    rw [discardAll_eq]
    change (s.rq.records.foldl discardOne s).da.port = s.da.port
    refine fold discardOne (fun t r => ?_) _ _
    unfold discardOne discardFailure
    repeat' split
    all_goals simp [enterWindow_da_port]
  have ended : (endWindows (discardAll s)).da.port = s.da.port := by
    rw [endWindows, fold (fun t w => endWindow w t), discarded]
    intro t w
    unfold endWindow
    split
    · exact enterWindow_da_port
    · rfl
  unfold announceEnd endApply takeHead
  rw [takeEntries_da_port]
  · simpa [endScheduler] using ended
  · simpa [endScheduler, ended] using busy

/-- A capture in SLOT_WAIT rechecks after a session end: without a record in an enabled window, and as a pass-through for an
OFF one or a released write (R42, R43, R49). `s` is the state before the session end, `a` the one it was announced in. -/
theorem settle_slotWait {a : State} {c : Capture} {u : UpTxn} (memory : a.mp = s.mp)
    (flagged : a.cu = some { c with sessionEnded := true }) (held : s.mp.txn = some u) (wait : c.phase = .slotWait)
    (port : s.da.port.isSome = true → a.da.port = s.da.port)
    (window : (a.win c.window).state
      = if s.out[c.window].state = .active ∨ s.out[c.window].state = .resync then .degraded else s.out[c.window].state) :
    (settle a).mp = s.mp ∧ ForegroundAsked u.txn s (settle a)
      ∧ (u.released = false → s.out[c.window].state ≠ .off →
        (settle a).cu = some
          { c with phase := .localWrite, path := some .noRecord, sessionEnded := true, stallTimer := none })
      ∧ (u.released = true ∨ s.out[c.window].state = .off → (settle a).cu = none) := by
  have asked (y : Option Capture) : ForegroundAsked u.txn s (forward (a.setCu y)) := by
    have onward : forward (a.setCu y) = presentFg u.txn (a.setCu y) := by simp [forward, memory, held]
    rw [onward]
    exact presentFg_asked port
  obtain ⟨y, recheck, unrecorded, passed⟩ :
      ∃ y, recheckSlot a = forward (a.setCu y)
        ∧ (u.released = false → s.out[c.window].state ≠ .off → y = some
          { c with phase := .localWrite, path := some .noRecord, sessionEnded := true, stallTimer := none })
        ∧ (u.released = true ∨ s.out[c.window].state = .off → y = none) := by
    have check : recheckSlot a = slotCheck { c with sessionEnded := true } a := by simp [recheckSlot, flagged, wait]
    rw [check]
    unfold slotCheck State.captureState
    simp only [memory, held, Option.any_some]
    cases released : u.released with
    | true => exact ⟨none, rfl, by simp, by simp⟩
    | false =>
      cases was : s.out[c.window].state <;> rw [was] at window <;>
        simp only [reduceCtorEq, or_self, or_true, true_or, if_true, if_false] at window <;>
        simp only [window, captureUnrecorded, if_false, Bool.false_eq_true] <;>
        exact ⟨_, rfl, by simp, by simp⟩
  unfold settle
  rw [recheck]
  exact ⟨by simp [memory], (asked y).advanceEngine, fun kept on => by simp [unrecorded kept on],
    fun off => by simp [passed off]⟩

/-- What a session end leaves at the capture unit (R41, R43, R49). -/
theorem sessionEnd_captureEnded {cause peer} (up : s.lc.state = .up) : CaptureEnded s (sessionEnd cause peer s) := by
  have stays {t : State} (h : t.mp.offer = none ∨ t.mp.txn.isSome = true) : acceptOffer t = t := by
    unfold acceptOffer
    rcases h with h | h
    · simp [h]
    · split <;> simp [h]
  rw [sessionEnd_up up]
  generalize left : leaveUp cause peer s = u
  have cu : u.cu = s.cu := by simp [← left]
  have mp : u.mp = s.mp := by simp [← left]
  have da : u.da = s.da := by simp [← left]
  have out : u.out = s.out := by simp [← left]
  have ended : (announceEnd u).mp = (endCapture u).mp ∧ (announceEnd u).cu = (endCapture u).cu := by
    unfold announceEnd endCapture
    simp only [endApply_mp, endApply_cu, failFences_cu, endScheduler, State.setTs_cu, endWindows_cu, discardAll_cu, cu]
    split
    · simp [*]
    · split <;> simp
  have window (w : WinId) : ((announceEnd u).win w).state
      = if s.out[w].state = .active ∨ s.out[w].state = .resync then .degraded else s.out[w].state := by
    rw [announceEnd_blocks.2.1]
    simp only [win_eq, out]
  have port (busy : s.da.port.isSome = true) : (announceEnd u).da.port = s.da.port := by
    rw [announceEnd_da_port (by simpa [da] using busy), da]
  generalize announceEnd u = a at ended window port
  constructor
  · intro c x held upstream
    have at_ (h : c.phase ≠ .confirmWait) : a.mp = s.mp ∧ a.cu = some { c with sessionEnded := true } := by
      rw [ended.1, ended.2]
      unfold endCapture
      rw [cu, held]
      cases phase : c.phase <;> simp_all
    constructor
    · intro phase
      obtain ⟨memory, flagged⟩ := at_ (by simp [phase])
      have kept : recheckSlot a = a := by simp [recheckSlot, flagged, phase]
      rw [stays (Or.inr (by simp [memory, upstream]))]
      simp [settle, kept, memory, flagged]
    · intro phase
      obtain ⟨memory, flagged⟩ := at_ (by simp [phase])
      rw [stays (Or.inr (by simp [memory, upstream]))]
      exact settle_slotWait memory flagged upstream phase port (window _)
  · intro none offer
    have memory : a.mp = s.mp := by rw [ended.1]; simp [endCapture, cu, none, mp]
    have idle : a.cu = .none := by rw [ended.2]; simp [endCapture, cu, none]
    rw [stays (by simpa [memory] using offer)]
    simp [settle, recheckSlot_none idle, memory, idle]

end Sys2Proof.Machine
end

