-- ==== Sys2Proof/Laws/Upstream.lean ====
section
/-! SUPPORT. The end of an upstream or a downstream access: taking the offer that stands is what UPSTREAM_OFFER makes of it
behind the completions already recorded (R154), the freed port is granted among the requests that wait (R173), and the
engine is left no read that it may start (R128). -/

set_option Elab.async false

namespace Sys2Proof.Machine

variable {s : State}

/-! ### The record of completions goes through an acceptance unread -/

/-- The state with completions recorded before those it holds. -/
def State.behind (past : List Completion) (s : State) : State :=
  s.setMp { s.mp with completions := past ++ s.mp.completions }

variable {past : List Completion}

theorem grant_behind : grant (s.behind past) = (grant s).behind past := by
  unfold grant
  cases hp : s.da.port with
  | some _ => simp [State.behind, hp]
  | none =>
    cases hc : s.da.choose s.au.promotion with
    | none => simp [State.behind, hp, hc]
    | some c =>
      cases hr : s.da.request c with
      | none => simp [State.behind, hp, hc, hr]
      | some t => cases c <;> simp [State.behind, hp, hc, hr, readGranted, State.setMp, State.setDa, State.setRe]

theorem presentFg_behind {t : Txn} : presentFg t (s.behind past) = (presentFg t s).behind past := by
  unfold presentFg
  rw [← grant_behind]
  simp [State.behind, State.setMp, State.setDa]

theorem forward_behind : forward (s.behind past) = (forward s).behind past := by
  have same : (s.behind past).mp.txn = s.mp.txn := rfl
  unfold forward
  rw [same]
  cases s.mp.txn with
  | none => rfl
  | some u => exact presentFg_behind

theorem setCu_behind {c : Option Capture} : (s.behind past).setCu c = (s.setCu c).behind past := rfl

theorem slotCheck_behind {c : Capture} : slotCheck c (s.behind past) = (slotCheck c s).behind past := by
  have state : (s.behind past).captureState c = s.captureState c := rfl
  have free : (s.behind past).slotFree = s.slotFree := rfl
  have tail : (s.behind past).tailTakes c.window c.line = s.tailTakes c.window c.line := rfl
  have limit : (s.behind past).params = s.params := rfl
  unfold slotCheck captureUnrecorded slotCheckMirrored
  simp only [state, free, tail, limit, setCu_behind, forward_behind]
  cases s.captureState c <;> simp only [] <;> (repeat' split) <;> rfl

theorem completeUpstream_behind {r : Result} {bytes : Option LineData} :
    completeUpstream r bytes (s.behind past) = (completeUpstream r bytes s).behind past := by
  simp [completeUpstream, State.behind, State.setMp, State.setCu]

theorem refused_behind :
    bump .guardRefusals (raise .guardRefusal (s.behind past))
      = (bump .guardRefusals (raise .guardRefusal s)).behind past := by
  have flags : (raise .guardRefusal (s.behind past)) = (raise .guardRefusal s).behind past := rfl
  rw [flags]
  rfl

theorem completeMalformed_behind {t : Txn} :
    completeMalformed t (s.behind past) = (completeMalformed t s).behind past := by
  unfold completeMalformed
  cases t.access <;> simp [completeUpstream, State.behind, State.setMp, State.setCu, State.setDrawn]

theorem acceptTxn_behind {t : Txn} : acceptTxn t (s.behind past) = (acceptTxn t s).behind past := by
  have same : classify (s.behind past) t = classify s t := rfl
  have free : (s.behind past).setMp { (s.behind past).mp with offer := none }
      = (s.setMp { s.mp with offer := none }).behind past := rfl
  unfold acceptTxn
  rw [same]
  split
  next =>
    cases classify s t with
    | refused =>
      simp only [free, completeUpstream_behind, refused_behind]
    | passThrough =>
      exact presentFg_behind (s := s.setMp { s.mp with txn := some ⟨t, .passThrough, false⟩, offer := none })
    | capture w line =>
      exact slotCheck_behind (s := s.setMp { s.mp with txn := some ⟨t, .capture w line, false⟩, offer := none })
  next => exact completeMalformed_behind (s := s.setMp { s.mp with offer := none })

theorem acceptOffer_behind : acceptOffer (s.behind past) = (acceptOffer s).behind past := by
  have offer : (s.behind past).mp.offer = s.mp.offer := rfl
  have busy : ((s.behind past).pins.resetAsserted || (s.behind past).mp.txn.isSome)
      = (s.pins.resetAsserted || s.mp.txn.isSome) := rfl
  unfold acceptOffer
  rw [offer]
  cases s.mp.offer with
  | none => rfl
  | some t =>
    simp only [busy]
    split
    next => rfl
    next => exact acceptTxn_behind

/-! ### The offer that stands (R154) -/

/-- Accepting the offer that stands is taking it. -/
theorem offerTaken_acceptOffer : OfferTaken s (acceptOffer s) := by
  unfold OfferTaken
  cases h : s.mp.offer with
  | none => simp [acceptOffer, h]
  | some y =>
    have recorded : s = (s.setMp { s.mp with offer := some y, completions := [] }).behind s.mp.completions := by
      simp [State.behind, State.setMp, ← h]
    refine ⟨acceptOffer (s.setMp { s.mp with offer := some y, completions := [] }), rfl, ?_⟩
    exact (congrArg acceptOffer recorded).trans acceptOffer_behind

/-! ### The port and the engine after an access (R128, R173) -/

/-- A freed port is granted among the requests that wait, and nothing else changes. -/
theorem releasePort_eq : releasePort s = grant { s with da := { s.da with port := none } } := rfl

/-- A free port has no request waiting after a grant (R172). -/
theorem grant_unasked : FreePortUnasked (grant s) := by
  intro free
  obtain same | ⟨client, t, _, _, _, given⟩ := grant_cases (s := s)
  next =>
    rw [same] at free ⊢
    unfold grant at same
    simp only [free] at same
    split at same
    next none =>
      unfold Arbiter.choose at none
      split_ifs at none
      simp_all
    next client chosen =>
      split at same
      next asked =>
        cases client <;> simp_all [Arbiter.choose, Arbiter.request]
        all_goals grind
      next t asked =>
        have port := congrArg (fun x : State => x.da.port) same
        cases client <;> simp [readGranted, Arbiter.granted, free] at port
  next => rw [given] at free; cases client <;> simp [readGranted, Arbiter.granted] at free

/-- The engine starts no second read while one is outstanding (R128). -/
theorem startRead_outstanding (h : s.re.read ≠ .absent) : startRead s = s := by
  unfold startRead State.mayRead
  cases s.re.current <;> simp [h]

/-- On a busy port the engine has been served once it has made its selection and started what read it may (R127, R128). -/
theorem engineServed_startRead (busy : s.da.port.isSome = true) : EngineServed s.re.read s (startRead s) := by
  cases hc : s.re.current with
  | none =>
    have same : startRead s = s := by simp [startRead, hc]
    rw [same]
    exact ⟨same, Or.inl ⟨rfl, rfl⟩⟩
  | some g =>
    cases may : s.mayRead g with
    | false =>
      have same : startRead s = s := by simp [startRead, hc, may]
      rw [same]
      exact ⟨same, Or.inl ⟨rfl, rfl⟩⟩
    | true =>
      have absent : s.re.read = .absent := by
        unfold State.mayRead at may
        simp_all
      have asked : startRead s
          = (s.setRe { s.re with read := .requested, reservation := true }).setDa { s.da with cp := some (s.copyRead g) } := by
        simp only [startRead, hc, may, if_true, presentCp]
        exact grant_busy busy
      rw [asked]
      exact ⟨startRead_outstanding (by simp [State.setRe, State.setDa]), Or.inr ⟨absent, rfl, rfl, g, hc, rfl⟩⟩

end Sys2Proof.Machine
end

