-- ==== Sys2Proof/Tests/Slice0.lean ====
section
/-! SUPPORT. The model's own tests: the checks of `Instr.wf`, the spec's worked values, a few single steps on small
states, and, for the statements that have hypotheses, states and operands that meet them. -/

set_option Elab.async false

namespace Sys2Proof.Tests

open Sys2Proof Sys2Proof.Machine

/-! ### Small states -/

/-- The state after a command. -/
def after (c : Instr) (s : State) : State :=
  match exec c s with
  | .next t => t
  | .fault _ => s
  | .refused _ => s

/-- A link controller in a state, with node id 3, and in UP with epoch 7 and its timers running. -/
def link (st : LinkState) : LinkController :=
  { LinkController.reset 3 with
    state := st, enabled := true, lastEpoch := 7, proposal := 8, epoch := if st = .up then 7 else 0
    peerHello := some ⟨9, 5, 20⟩
    liveness := if st = .up then some 1000 else none, keepalive := if st = .up then some 50 else none }

/-- The reset state with the link in a state. -/
def at_ (st : LinkState) : State := State.reset.setLc (link st)

/-- A session with nothing recorded. -/
def up : State := at_ .up

/-- A window of two segments at the end of the dirty map. -/
def window (st : WinState) (marks : Nat) : OutWindow :=
  { base := 0x10000, length := 2, mapOffset := 4094, policy := .posted, autoResync := false, state := st
    haltCause := if st = .halted then some .command else none, cursor := 0, dirtyCount := marks }

/-- A state with window 7 set. -/
def withWin (st : WinState) (marks : Nat) (s : State) : State := s.setWin 7 (window st marks)

/-- A closed or OPEN WRITE record of window 7. -/
def rcd (q : Seq) (st : RecordState) : Record :=
  { seq := q, kind := .write, window := 7, line := 1023, mask := 1, data := Vector.replicate 64 0, state := st
    waiter := false, segmentEnd := false }

/-- Records 0, 1 and 2 queued, all but the tail SENT, and acked_through at 65535. -/
def queued (s : State) : State :=
  (s.setRq { records := [rcd 0 .sent, rcd 1 .sent, rcd 2 .ready], nextSeq := 3, sendPtr := 2, mergeTimer := none }).setTs
    { ackedThrough := 65535, sendLimit := 15, sentHigh := 1, rounds := 0, ackTimer := some 100 }

/-- The port holds a request but for its CRC byte. -/
def asking (r : Request) (s : State) : State := s.setPort (.receiving (some r.code) r.args 0)

theorem asking_holds (r : Request) (s : State) (h : s.pins.resetAsserted = false) : (asking r s).holds r := ⟨h, 0, rfl⟩

/-- A request asked and completed. -/
def ask (r : Request) (s : State) : State := after (r.row r.crc) (asking r s)

/-- A transaction of 64 bytes at an address. -/
def readAt (a : Addr) : Txn := { access := .read, addr := a, length := 64 }

def writeAt (a : Addr) (mask : Mask) : Txn := { access := .write mask (Vector.replicate 64 0xAB), addr := a, length := 64 }

/-- A captured write of window 7, line 1023, whose local write is under way. -/
def capturing (st : WinState) (phase : CapturePhase) (s : State) : State :=
  (((withWin st 0 s).setCu (some
    { window := 7, line := 1023, phase := phase, path := some .record, reservation := true, sessionEnded := false
      stallTimer := some 50, confirmTimer := some 500 })).setMp
    { txn := some ⟨writeAt 0x1FFC0 1, .capture 7 1023, false⟩, offer := none, completions := [] }).setDa
    { port := some ⟨.fg, writeAt 0x1FFC0 1⟩, fg := none, ap := none, cp := none, copyFloor := 0 }

/-- An engine in a state, with segment 1 of window 7. -/
def engine (st : EngineState) (line : Nat) (last : Option Seq) (s : State) : State :=
  s.setRe
    { state := st, current := some { window := 7, index := 1, nextLine := line, lastSeq := last, redirtied := false }
      lastServed := 0, read := .absent, readDropped := false, reservation := false }

/-! ### Laws of the small states -/

/-- An engine without a read, on a port that nobody holds. -/
theorem engineFits_idle {s : State} (port : s.da.port = none)
    (rest : s.da.cp = none ∧ s.re.read = .absent ∧ s.re.reservation = false) : EngineFits s := by
  simp [EngineFits, port, rest]

/-- In UP the law of the link's other states asks only for the current segment's window (R17). -/
theorem quietWhileDown_up {s : State} (link : s.lc.state = .up)
    (segment : ∀ g, s.re.current = some g → s.out[g.window].state = .resync) : QuietWhileDown s :=
  ⟨fun down => (down link).elim, segment⟩

/-- The only window that is enabled overlaps nothing (R7). -/
theorem outboundClear_alone {s : State} {w : WinId} (out : ∀ v : WinId, v ≠ w → s.out[v].state = .off)
    (inb : ∀ i : WinId, s.inb[i].enabled = false) : s.outboundClear w :=
  ⟨fun v other on => (on (out v other)).elim, fun i on => (Bool.false_ne_true ((inb i).symm.trans on)).elim⟩

/-- The only inbound entry that is enabled overlaps nothing (R7). -/
theorem inboundClear_alone {s : State} {i : WinId} (out : ∀ w : WinId, s.out[w].state = .off)
    (inb : ∀ j : WinId, j ≠ i → s.inb[j].enabled = false) : s.inboundClear i :=
  ⟨fun w on => (on (out w)).elim, fun j other on => (Bool.false_ne_true ((inb j other).symm.trans on)).elim⟩

/-! ### Commands that are none -/

theorem test_wf_unknownCommand_defined : (Instr.unknownCommand 0x10).wf = false := by decide
theorem test_wf_unknownCommand_undefined : (Instr.unknownCommand 0xFF).wf = true := by decide
theorem test_wf_undefinedFrame_defined : (Instr.undefinedFrame 0x01 7).wf = false := by decide
theorem test_wf_undefinedFrame_undefined : (Instr.undefinedFrame 0x13 7).wf = true := by decide
theorem test_no_row_has_bits : decodeTableWord 16 0x1234 = none ∧ State.reset.withFetchWord 16 0x1234 = State.reset :=
  ⟨rfl, rfl⟩
theorem test_empty_queue_idles : step State.reset = .next State.reset := rfl

/-! ### Worked values of the spec -/

theorem test_crc32_check : crc32 [0x31, 0x32, 0x33, 0x34, 0x35, 0x36, 0x37, 0x38, 0x39] = 0xCBF43926 := by decide +kernel
theorem test_crc8_check : crc8 [0x31, 0x32, 0x33, 0x34, 0x35, 0x36, 0x37, 0x38, 0x39] = 0xF4 := by decide +kernel

/-- The example of section 12.5: record 50 of epoch 7, bytes 8 to 11 of line 2 of window 1. -/
theorem test_example_data :
    (Frame.data 7 50 .write 1 2 0xF00 (Vector.replicate 64 0)).bytes.take 17
      = [0x01, 0x07, 0x00, 0x32, 0x11, 0x00, 0x00, 0x02, 0x00, 0x0F, 0x00, 0x00, 0x00, 0x00, 0x00, 0x00, 0x00] := by
  decide +kernel

theorem test_example_ack :
    (Frame.ack 7 50 66 none).bytes.take 9 = [0x02, 0x07, 0x00, 0x32, 0x00, 0x42, 0x00, 0x00, 0x00] := by decide +kernel

/-- Shorter than five bytes, or one byte short for its type: a bad frame (R210, R211). -/
theorem test_short_frames :
    receive [0x03, 0x07, 0x00, 0x01] = .badCrcFrame
      ∧ receive ([0x03, 0x07, 0x00] ++ crc32Bytes [0x03, 0x07, 0x00]) = .badCrcFrame := by decide +kernel

/-! ### Single steps -/

theorem test_mcsNFall : (after .mcsNFall State.reset).port = .receiving none [] 0 := by decide +kernel
theorem test_byte_command :
    (after (.maintenanceByteComplete 0x40) (after .mcsNFall State.reset)).port = .receiving (some 0x40) [] 0 := by
  decide +kernel
theorem test_byte_undefined : (after (.maintenanceByteComplete 0xFF) (after .mcsNFall State.reset)).port = .refusing := by
  decide +kernel
theorem test_byte_completes_request :
    (after (.maintenanceByteComplete (crc8 [0x20])) (asking .linkEnable State.reset)).lc.state = .training := by
  decide +kernel
theorem test_winEnable_full_up :
    (ask (.winEnable 7 1) (withWin .off 0 up)).out[7].state = .resync
      ∧ (ask (.winEnable 7 1) (withWin .off 0 up)).out[7].dirtyCount = 2 := by decide +kernel
theorem test_winEnable_clean_down : (ask (.winEnable 7 0) (withWin .off 0 State.reset)).out[7].state = .degraded := by
  decide +kernel
theorem test_winMark_active : (ask (.winMark 7 1 1) (withWin .active 0 up)).out[7].state = .resync := by decide +kernel
theorem test_fence_empty_queue : (ask (.fence 9) up).fu.log = [⟨9, none, true, false⟩] := by decide +kernel
theorem test_fence_waits : (ask (.fence 9) (queued up)).fu.fences = [⟨2, .port 9, false⟩] := by decide +kernel
theorem test_setParam_crossCheck :
    (ask (.setParam 9 99) State.reset).params.liveness = 1000
      ∧ (ask (.setParam 9 100) State.reset).params.liveness = 100 := by decide +kernel
theorem test_resetMirror_up : (ask .resetMirror (queued up)).lanes.goodbye = some (7, .resetMirror) := by decide +kernel
theorem test_resetMirror_no_window_cause :
    (ask .resetMirror (withWin .active 0 up)).al.detail.window = 0
      ∧ (ask .resetMirror (withWin .active 0 up)).out[7].state = .off := by decide +kernel
theorem test_malformed_read_has_bytes :
    (after (.upstreamOffer { readAt 0 with length := 0 }) up).mp.completions.map (fun c => (c.result, c.bytes.isSome))
      = [(.err, true)] := rfl
theorem test_completions_of_standing_offer :
    let s := after (.upstreamOffer (readAt 64)) (after (.upstreamOffer (readAt 0)) up)
    (after (.passThroughComplete .ok (Vector.replicate 64 1)) s).mp.completions = [⟨.ok, some (Vector.replicate 64 1)⟩]
      ∧ (after (.passThroughComplete .ok (Vector.replicate 64 1)) s).mp.txn = some ⟨readAt 64, .passThrough, false⟩ := by
  decide +kernel
theorem test_write_captured :
    (after (.upstreamOffer (writeAt 0x1FFC0 1)) (withWin .active 0 up)).cu.map (·.line) = some 1023 := by decide +kernel
theorem test_write_recorded :
    (after (.localWriteComplete .ok) (capturing .active .localWrite up)).rq.records.map (·.state) = [.opened] := by
  decide +kernel
theorem test_write_failed_marks :
    (after (.localWriteComplete .err) (capturing .active .localWrite up)).out[7].state = .degraded := by decide +kernel
theorem test_hello_answered :
    (after (.helloReceived 9 5 20) (at_ .hello)).lanes.owed = [.helloAck 9] := by decide +kernel
theorem test_reaches_up : (after (.helloAckReceived 9 5) (at_ .hello)).lc.epoch = 9 := by decide +kernel
theorem test_own_node_faults : (after (.helloReceived 9 3 20) (at_ .hello)).lc.state = .fault := by decide +kernel
theorem test_liveness_marks :
    (after .livenessExpiry (withWin .active 0 (queued up))).out[7].dirtyCount = 1
      ∧ (after .livenessExpiry (withWin .active 0 (queued up))).out[7].state = .degraded := by decide +kernel
theorem test_goodbye_reason : (after (.goodbyeReceived 7 5) up).lc.peerReason = none := by decide +kernel
theorem test_data_out_of_order :
    (after (.dataReceived 7 1 1 0 0 1 (Vector.replicate 64 0)) up).lanes.owed = [.nak 0] := by decide +kernel
theorem test_data_disabled_rejected :
    (after (.dataReceived 7 0 1 0 0 1 (Vector.replicate 64 0)) up).lanes.owed = [.ack 0 16 (some .disabled)] := by
  decide +kernel
theorem test_ack_progress :
    (after (.ackReceived 7 1 17 0 0) (queued up)).rq.records.map (·.seq) = [2]
      ∧ (after (.ackReceived 7 1 17 0 0) (queued up)).ts.sendLimit = 17 := by decide +kernel
theorem test_nak_round : (after (.nakReceived 7 0) (queued up)).rq.sendPtr = 0 := by decide +kernel
theorem test_transmit_data :
    (after .transmitData (queued up)).lanes.frame
      = some (.data 7 2 .write 7 1023 1 (Vector.replicate 64 0)) := by decide +kernel
theorem test_frameEnd_next :
    (after .transmitNak (queued (owe (.nak 0) up))).lanes.frame = some (.nak 7 0)
      ∧ (after .frameEnd (after .transmitNak (queued (owe (.nak 0) up)))).rq.sendPtr = 3 := by decide +kernel
theorem test_fenceReq_rise : (after .fenceReqRise up).fu.ack = true := by decide +kernel
theorem test_resetN_release_low :
    (after (.resetNRelease 5) (after .resetNAssert (after .mcsNFall up))).port = .ignoring := by decide +kernel

/-! ### States and operands that meet the hypotheses of the statements -/

/-- A session with three records and a window in RESYNC, and a command waiting. -/
def busy : State := (engine .copying 3 none (withWin .resync 1 (queued up))).setPending [.transmitData]

theorem busy_steps : ∃ t, step busy = .next t := ⟨_, rfl⟩

theorem busy_port : busy.da.port = none := rfl

theorem busy_current :
    busy.re.current = some { window := 7, index := 1, nextLine := 3, lastSeq := none, redirtied := false } := rfl

theorem test_meets_StepKeepsOutputLines : AlertFollows busy ∧ LinesFollowHandshake busy ∧ ∃ t, step busy = .next t :=
  ⟨by unfold AlertFollows; decide +kernel, by unfold LinesFollowHandshake; decide +kernel, busy_steps⟩

theorem busy_windowsFit : WindowsFit busy := by unfold WindowsFit; decide +kernel

theorem busy_engineFits : EngineFits busy := engineFits_idle busy_port (by decide +kernel)

theorem busy_slotsFit : SlotsFit busy := ⟨by decide +kernel, busy_engineFits⟩

theorem test_meets_StepKeepsBounds :
    CapacitiesHold busy ∧ CopyFloorFits busy ∧ WindowsFit busy ∧ FreePortUnasked busy ∧ ∃ t, step busy = .next t :=
  ⟨by unfold CapacitiesHold; decide +kernel, by unfold CopyFloorFits; decide +kernel, busy_windowsFit,
    fun _ => ⟨rfl, rfl, rfl⟩, busy_steps⟩

theorem test_meets_StepKeepsDownState_epoch :
    EpochFollowsLink ((at_ .hello).setPending [.lost]) ∧ ∃ t, step ((at_ .hello).setPending [.lost]) = .next t :=
  ⟨by unfold EpochFollowsLink; decide +kernel, _, rfl⟩

theorem test_meets_StepKeepsQueue : OpenOnlyAtTail busy ∧ SlotsFit busy ∧ ∃ t, step busy = .next t :=
  ⟨by unfold OpenOnlyAtTail; decide +kernel, busy_slotsFit, busy_steps⟩

theorem busy_only_segment {g : Segment} (h : busy.re.current = some g) :
    g = { window := 7, index := 1, nextLine := 3, lastSeq := none, redirtied := false } :=
  (Option.some.inj (busy_current.symm.trans h)).symm

theorem busy_quiet : QuietWhileDown busy :=
  quietWhileDown_up rfl fun g h => by rw [busy_only_segment h]; decide +kernel

theorem test_meets_StepKeepsDownState : QuietWhileDown busy ∧ ∃ t, step busy = .next t := ⟨busy_quiet, busy_steps⟩

theorem test_meets_StepKeepsNumbers : NumbersLaw busy ∧ ∃ t, step busy = .next t :=
  ⟨⟨busy_slotsFit, busy_quiet, fun _ => by decide +kernel⟩, busy_steps⟩

/-- `busy` with the mark that its window's dirty_count tells of. -/
def marked : State := busy.setDm (BitVec.twoPow 4096 4095)

theorem marked_apart : WindowsApart marked := by
  have alone : ∀ w : WinId, w ≠ 7 → marked.out[w].state = .off := by decide +kernel
  have shut : ∀ i : WinId, marked.inb[i].enabled = false := by decide +kernel
  constructor
  · intro w on
    have last : w = 7 := Decidable.byContradiction fun other => on (alone w other)
    exact outboundClear_alone (fun v other => alone v (last ▸ other)) shut
  · exact fun i on => (Bool.false_ne_true ((shut i).symm.trans on)).elim

/-- The only mark of `marked`. -/
theorem marked_position {p : Nat} (h : marked.dm.getLsbD p = true) : p = 4095 := by
  have map : marked.dm = BitVec.twoPow 4096 4095 := rfl
  rw [map, BitVec.getLsbD_twoPow] at h
  simp only [Bool.and_eq_true, decide_eq_true_eq] at h
  exact h.2.symm

theorem marked_fits : DirtyMapFits marked := by
  have captures : marked.cu = none := rfl
  unfold DirtyMapFits State.lineInside
  refine and_assoc.mp ⟨?_, ?_⟩
  · constructor
    · decide +kernel
    · intro p h
      rw [marked_position h]
      exact ⟨7, by decide +kernel⟩
  · simp only [captures, reduceCtorEq, false_imp_iff, implies_true, true_and]
    refine and_assoc.mp ⟨by decide +kernel, fun g h => ?_⟩
    rw [busy_only_segment h]
    decide +kernel

theorem marked_laws : WindowsFit marked ∧ EngineFits marked ∧ SegmentsFit marked := by
  have port : marked.da.port = none := rfl
  unfold WindowsFit SegmentsFit
  exact ⟨by decide +kernel, engineFits_idle port (by decide +kernel), by decide +kernel⟩

theorem test_meets_StepKeepsDirtyMap : MapLaw marked ∧ ∃ t, step marked = .next t :=
  ⟨⟨marked_laws.1, marked_apart, marked_laws.2.1, marked_laws.2.2, marked_fits⟩, _, rfl⟩

/-- The law of the segment size and of a dropped read holds in a state with such a read. -/
theorem test_meets_StepKeepsDirtyMap_dropped :
    SegmentsFit (busy.setRe { busy.re with current := none, read := .granted, readDropped := true, reservation := true }) := by
  unfold SegmentsFit; decide +kernel

theorem test_meets_NumbersAndFrames_numbers : (254 : Epoch) ≠ 255 ∧ later 32767 0 = true ∧ later 32768 0 = false := by
  decide +kernel

theorem test_meets_FlagsAndCounters : Counter.localErrors ≠ Counter.crcErrors ∧ State.reset.counter .localErrors ≠ 65535 := by
  decide +kernel

theorem test_meets_NumbersAndFrames_frames : [(0 : Byte), 0, 0, 0].length = 4 ∧ [0, 0, 0, 0] ≠ crc32Bytes [0x03, 7, 0, 1] := by
  decide +kernel

theorem test_meets_RequestsParsedAsSent : Request.parse 0x51 [9, 0, 100] = some (.setParam 9 100) := by decide +kernel

theorem test_meets_RequestCompletes : (asking (.winHalt 7) up).holds (.winHalt 7) := asking_holds _ _ rfl

theorem test_meets_RequestCompletes_badCrc : (asking (.winHalt 7) up).holds (.winHalt 7) ∧ (0 : Byte) ≠ Request.crc (.winHalt 7) :=
  ⟨asking_holds _ _ rfl, by decide +kernel⟩

theorem test_meets_PortBytes :
    up.pins.resetAsserted = false ∧ up.port = .idle ∧ (after .resetNAssert up).pins.resetAsserted = true
      ∧ (after .mcsNFall up).port = .receiving none [] 0
      ∧ (argCount 0x40).isSome = true ∧ argCount 0xFF = none ∧ argCount 0x51 = some 3 ∧ [(9 : Byte), 0].length < 3
      ∧ (after (.unknownCommand 0xFF) (after .mcsNFall up)).port = .refusing
      ∧ (ask .linkEnable up).port = .responding [0, 0] 0
      ∧ (after (.maintenanceByteComplete 0) (after (.maintenanceByteComplete 0) (ask .linkEnable up))).port = .trailing := by
  decide +kernel

/-! A request that is held: `asking_holds` meets every `holds`, and the rest is decided. -/

theorem test_meets_WinConfigResult :
    let off := withWin .off 0 up
    off.out[7].state = .off ∧ up.segBytes = 65536 ∧ (0xFFFF0000 : BitVec 32).toNat % 65536 = 0
      ∧ 0xFFFF0000 + 1 * 65536 ≤ 2 ^ 32 ∧ 4095 + 1 ≤ 4096 ∧ 0xFFFF0000 + 2 * 65536 > 2 ^ 32
      ∧ (withWin .halted 0 up).out[7].state ≠ .off ∧ 8 ≤ (8 : Byte).toNat := by decide +kernel

theorem test_meets_WinEnableResult :
    let off := withWin .off 0 up
    off.outboundClear 7 ∧ off.out[7].state = .off ∧ off.out[7].length ≠ 0 ∧ (∀ r ∈ off.rq.records, r.window ≠ 7)
      ∧ off.out[7].base.toNat % off.segBytes = 0 ∧ off.out[7].mapOffset + off.out[7].length ≤ 4096
      ∧ (∃ r ∈ (queued off).rq.records, r.window = 7) ∧ State.reset.out[7].length = 0
      ∧ (engine .copying 3 none off).re.state = .copying
      ∧ (ask (.winEnable 7 1) (engine .copying 3 none off)).out[7].cursor = 0 :=
  ⟨outboundClear_alone (by decide +kernel) (by decide +kernel), by decide +kernel⟩

theorem test_meets_WinDisableResult :
    (withWin .off 0 up).out[7].state = .off ∧ (withWin .resync 2 up).out[7].state ≠ .off
      ∧ (withWin .resync 2 up).mp.txn = none
      ∧ (capturing .active .localWrite up).mp.txn = some ⟨writeAt 0x1FFC0 1, .capture 7 1023, false⟩
      ∧ (after (.upstreamOffer (readAt 0)) (withWin .active 0 up)).mp.txn = some ⟨readAt 0, .passThrough, false⟩ := by
  decide +kernel

theorem test_meets_WinStateCommands :
    (withWin .active 0 up).out[7].state = .active ∧ (withWin .halted 0 up).out[7].state = .halted
      ∧ (withWin .degraded 1 State.reset).out[7].state = .degraded ∧ State.reset.lc.state ≠ .up
      ∧ (withWin .degraded 0 up).out[7].dirtyCount = 0 ∧ (withWin .degraded 1 up).out[7].dirtyCount ≠ 0 := by
  decide +kernel

theorem test_meets_WinMarkResult :
    let s := withWin .active 0 up
    s.out[7].state = .active ∧ (1 : BitVec 16).toNat ≠ 0
      ∧ (1 : BitVec 16).toNat + (1 : BitVec 16).toNat ≤ s.out[7].length
      ∧ s.out[7].mapOffset + s.out[7].length ≤ 4096 ∧ s.out[7].length < (2 : BitVec 16).toNat + (1 : BitVec 16).toNat
      ∧ s.dm.getLsbD 4095 = false ∧ (withWin .off 0 up).out[7].state = .off := by decide +kernel

theorem test_meets_StatusReadsResult : (asking (.winStatus 7) busy).holds (.winStatus 7)
    ∧ (asking (.inStatus 8) busy).holds (.inStatus 8) ∧ (asking .linkStatus busy).holds .linkStatus :=
  ⟨asking_holds _ _ rfl, asking_holds _ _ rfl, asking_holds _ _ rfl⟩

theorem test_meets_InboundCommandsResult :
    let e : InWindow := { base := 0, length := 64, enabled := false, guard := true }
    let s := up.setEntry 7 e
    s.inboundClear 7 ∧ s.inb[7].enabled = false ∧ s.inb[7].length ≠ 0 ∧ up.inb[7].length = 0
      ∧ (up.setEntry 7 { e with enabled := true }).inb[7].enabled = true :=
  ⟨inboundClear_alone (by decide +kernel) (by decide +kernel), by decide +kernel⟩

/-- Two inbound entries with the same extent overlap. -/
theorem test_meets_InboundCommandsResult_overlap :
    let e : InWindow := { base := 0, length := 64, enabled := true, guard := true }
    ¬((up.setEntry 7 e).setEntry 0 e).inboundClear 7 := by
  intro e clear
  have apart := clear.2 0 (by decide) (by decide +kernel) 0
  revert apart
  decide +kernel

theorem test_meets_LinkEnableDisableResult :
    State.reset.lc.state = .off ∧ (at_ .hello).lc.state ≠ .off ∧ (at_ .hello).lc.state ≠ .up
      ∧ (asking .linkDisable (at_ .hello)).pins.resetAsserted = false := by decide +kernel

theorem test_meets_FenceCommandResult :
    let four := up.setFu { up.fu with fences := List.replicate 4 ⟨1, .line, false⟩ }
    4 ≤ four.fu.fences.length ∧ up.fu.fences.length < 4 ∧ up.rq.records = []
      ∧ (queued up).rq.records = [rcd 0 .sent, rcd 1 .sent] ++ [rcd 2 .ready]
      ∧ (false = true ↔ up.outOfStep) ∧ (true = true ↔ (withWin .halted 0 up).outOfStep) := by
  unfold State.outOfStep
  decide +kernel

theorem test_meets_AlertCommandsResult :
    (1 : Byte).toNat ≤ 1 ∧ 1 < (2 : Byte).toNat ∧ 3 < (4 : Byte).toNat ∧ (0x3F : BitVec 32).toNat < 2 ^ 6
      ∧ 2 ^ 6 ≤ (0x40 : BitVec 32).toNat ∧ (0xFFFFFF : BitVec 32).toNat < 2 ^ 24 ∧ 2 ^ 3 ≤ (8 : BitVec 32).toNat
      ∧ (asking .alertRead up).pins.resetAsserted = false := by decide +kernel

theorem test_meets_FenceLogAndCounters :
    (asking (.fenceLog 1) up).holds (.fenceLog 1) ∧ (asking (.countersRead 2) up).holds (.countersRead 2) ∧ 1 < (2 : Byte).toNat :=
  ⟨asking_holds _ _ rfl, asking_holds _ _ rfl, by decide⟩

theorem test_meets_ParamCommandsResult :
    (∀ w : WinId, State.reset.out[w].state = .off) ∧ State.reset.lc.state = .off ∧ up.lc.state ≠ .off
      ∧ (10 ≤ 500 ∧ 2 * 500 ≤ State.reset.params.liveness.toNat) ∧ ¬2 * 501 ≤ State.reset.params.liveness.toNat
      ∧ 10 < (11 : Byte).toNat ∧ ¬∀ w : WinId, (withWin .halted 0 up).out[w].state = .off := by decide +kernel

theorem test_meets_ResetMirrorResult :
    EngineFits (asking .resetMirror busy) ∧ (asking .resetMirror busy).holds .resetMirror
      ∧ busy.mp.offer = none ∧ busy.lc.state = .up ∧ busy.cu = none ∧ (at_ .down).lc.state ≠ .up
      ∧ (∀ phase ∈ [CapturePhase.slotWait, .localWrite, .confirmWait],
        (capturing .active phase up).cu.map (·.phase) = some phase ∧ (capturing .active phase up).mp.offer = none) :=
  ⟨busy_engineFits, asking_holds _ _ rfl, by decide +kernel⟩

/-- What FencesFailed speaks of: a PORT fence and a LINE fence in the list, a waiting request, and neither. -/
theorem test_meets_FencesFailed :
    (∃ f ∈ (ask (.fence 9) (queued up)).fu.fences, f.source ≠ .line)
      ∧ (∃ f ∈ (after .fenceReqRise (queued up)).fu.fences, f.source = .line)
      ∧ LinesFollowHandshake (after .fenceReqRise (queued up)) ∧ (queued up).fu.log.length ≤ 8
      ∧ (after .fenceReqRise (up.setFu { up.fu with fences := List.replicate 4 ⟨1, .port 0, false⟩ })).fu.handshake
        = .waiting := by
  unfold LinesFollowHandshake
  decide +kernel

theorem test_meets_PinResetResult :
    let held := after .resetNAssert up
    held.pins.resetAsserted = true ∧ held.mp.offer = none ∧ up.pins.resetAsserted = false
      ∧ (after (.upstreamOffer (readAt 0)) held).mp.offer = some (readAt 0) ∧ wellFormedTxn (readAt 0) = true
      ∧ (after (.upstreamOffer { readAt 0 with length := 0 }) held).mp.offer.any (fun x => !wellFormedTxn x) = true := by
  decide +kernel

theorem test_meets_FenceLineResult :
    let high := after .fenceReqRise (queued up)
    up.pins.fenceReq = false ∧ up.fu.handshake = .idle ∧ up.rq.records = [] ∧ (queued up).rq.records ≠ []
      ∧ high.pins.fenceReq = true ∧ high.fu.handshake = .pending ∧ (after .fenceReqRise up).fu.handshake = .answered
      ∧ (after .fenceReqRise (up.setFu { up.fu with fences := List.replicate 4 ⟨1, .port 0, false⟩ })).fu.handshake
        = .waiting
      ∧ (after .fenceReqFall high).fu.handshake = .idle := by decide +kernel

theorem test_meets_UpstreamOfferUncaptured :
    let guarded := up.setEntry 0 { base := 0, length := 64, enabled := true, guard := true }
    up.mp.txn = none ∧ up.mp.offer = none ∧ up.cu = none ∧ up.pins.resetAsserted = false
      ∧ wellFormedTxn (readAt 0) = true ∧ wellFormedTxn { readAt 1 with length := 64 } = false
      ∧ wellFormedTxn { readAt 0 with length := 0 } = false ∧ (readAt 0).access = .read
      ∧ wellFormedTxn { writeAt 0 1 with length := 65 } = false
      ∧ guarded.inb[0].base.toNat ≤ 0 ∧ 0 + 64 ≤ guarded.inb[0].base.toNat + guarded.inb[0].length.toNat
      ∧ (capturing .active .localWrite up).da.port.isSome = true
      ∧ (after (.upstreamOffer (readAt 0)) (capturing .active .localWrite up)).mp.offer.isSome = true
      ∧ (capturing .active .localWrite up).mp.txn.isSome = true := by decide +kernel

theorem test_meets_UpstreamOfferCaptured :
    let s := withWin .active 0 up
    let x := writeAt 0x1FFC0 1
    s.mp.txn = none ∧ s.cu = none ∧ wellFormedTxn x = true ∧ effectiveMask x 1 ≠ 0
      ∧ (∀ i : WinId, ¬(s.inb[i].enabled = true ∧ s.inb[i].guard = true
        ∧ lineInExtent (lineAddr x) s.inb[i].base.toNat s.inb[i].length.toNat = true))
      ∧ (∀ v : WinId, s.out[v].state ≠ .off
        ∧ lineInExtent (lineAddr x) s.out[v].base.toNat (s.out[v].length * s.segBytes) = true ↔ v = 7)
      ∧ s.rq.records.length < 64
      ∧ ¬(s.setRq { s.rq with records := List.replicate 64 (rcd 0 .sent) }).rq.records.length < 64 := by decide +kernel

/-- A captured write takes a free port, and waits for a busy one. -/
theorem test_meets_UpstreamOfferCaptured_port :
    let s := withWin .degraded 0 up
    let x := writeAt 0x1FFC0 1
    let held := s.setDa { s.da with port := some ⟨.ap, writeAt 0 1⟩ }
    s.da.port = none ∧ s.da.ap = none ∧ s.da.cp = none ∧ held.da.port.isSome = true
      ∧ (after (.upstreamOffer x) s).da.port = some ⟨.fg, x⟩ ∧ (after (.upstreamOffer x) held).da.fg = some x := by
  decide +kernel

theorem test_meets_PassThroughCompleteResult :
    let s := after (.upstreamOffer (readAt 0)) up
    s.da.port = some ⟨.fg, readAt 0⟩ ∧ s.cu = none ∧ s.mp.txn = some ⟨readAt 0, .passThrough, false⟩ ∧ s.mp.offer = none
      ∧ s.da.fg = none ∧ s.da.ap = none ∧ s.da.cp = none := by decide +kernel

/-- A request for copying that waits beside a foreground access. -/
def copyWaits (s : State) : State := s.setDa { s.da with cp := some (readAt 128), copyFloor := 7 }

/-- A read offer that stands. -/
def offered (s : State) : State := s.setMp { s.mp with offer := some (readAt 64) }

/-- At a pass-through's completion a waiting request takes the port, and the offer that stands waits behind it; with
nothing else waiting the offer takes the port. -/
theorem test_meets_PassThroughCompleteResult_offer :
    let s := offered (copyWaits (after (.upstreamOffer (readAt 0)) up))
    let t := after (.passThroughComplete .ok (Vector.replicate 64 1)) s
    let alone := after (.passThroughComplete .ok (Vector.replicate 64 1)) (offered (after (.upstreamOffer (readAt 0)) up))
    s.mp.offer = some (readAt 64) ∧ s.pins.resetAsserted = false ∧ wellFormedTxn (readAt 64) = true
      ∧ t.da.port = some ⟨.cp, readAt 128⟩ ∧ t.da.fg = some (readAt 64) ∧ t.da.copyFloor = 0
      ∧ alone.da.port = some ⟨.fg, readAt 64⟩ ∧ alone.mp.txn = some ⟨readAt 64, .passThrough, false⟩ := by decide +kernel

theorem test_meets_GrantOrder :
    let d : Arbiter := { port := none, fg := some (readAt 0), ap := some (readAt 64), cp := some (readAt 128), copyFloor := 32 }
    d.port = none ∧ d.copyFloor = 32 ∧ d.ap.isSome = true ∧ up.au.promotion = false
      ∧ { d with copyFloor := 31 }.copyFloor ≠ 32 ∧ { d with fg := none }.fg = none := by decide +kernel

theorem test_meets_CapturedWriteAppended :
    let s := capturing .active .localWrite up
    (∃ c, s.cu = some c ∧ c.phase = .localWrite ∧ c.sessionEnded = false ∧ c.path ≠ some .noRecord
        ∧ c.reservation = true ∧ s.out[c.window].state = .active)
      ∧ s.da.port = some ⟨.fg, writeAt 0x1FFC0 1⟩ ∧ s.mp.txn = some ⟨writeAt 0x1FFC0 1, .capture 7 1023, false⟩
      ∧ s.mp.offer = none ∧ s.rq.records = [] ∧ s.params.mergeTime ≠ 0
      ∧ effectiveMask (writeAt 0x1FFC0 1) 1 ≠ fullMask := ⟨⟨_, rfl, by decide +kernel⟩, by decide +kernel⟩

/-- After a captured write the port goes to the request that waits, and a completed write lets the standing offer in. -/
theorem test_meets_CapturedWrite_grant :
    let t := after (.localWriteComplete .ok) (copyWaits (capturing .active .localWrite up))
    let let_in (s : State) := (after (.localWriteComplete .ok) (offered s)).mp
    t.da.port = some ⟨.cp, readAt 128⟩ ∧ (after (.localWriteComplete .ok) (capturing .off .localWrite up)).da.port = none
      ∧ [WinState.active, .degraded, .off].map (fun st => (let_in (capturing st .localWrite up)).txn.map (·.txn))
        = List.replicate 3 (some (readAt 64))
      ∧ [Instr.confirmTimerExpiry, .livenessExpiry].map
          (fun i => (after i (offered (capturing .active .confirmWait up))).mp)
        = List.replicate 2 ⟨some ⟨readAt 64, .passThrough, false⟩, none, [⟨.err, none⟩]⟩ := by decide +kernel

theorem test_meets_CapturedWriteMerged :
    let s := (capturing .active .localWrite up).setRq { up.rq with records := [] ++ [rcd 0 .opened] }
    s.rq.records = [] ++ [rcd 0 .opened] ∧ (rcd 0 .opened).window = 7 ∧ (rcd 0 .opened).line = 1023
      ∧ s.out[7].state = .active ∧ (rcd 0 .opened).mask ||| effectiveMask (writeAt 0x1FFC0 2) 2 ≠ fullMask
      ∧ (rcd 0 .opened).mask ||| effectiveMask (writeAt 0x1FFC0 fullMask) fullMask = fullMask := by decide +kernel

theorem test_meets_CapturedWriteUnrecorded :
    (∀ st ∈ [WinState.active, .degraded, .halted, .off], (capturing st .localWrite up).out[7].state = st)
      ∧ (capturing .active .localWrite up).dm.getLsbD (4094 + 1023 * 64 / 65536) = false
      ∧ 4094 + 1023 * 64 / 65536 < 4096 ∧ (capturing .active .localWrite up).mp.offer = none := by decide +kernel

/-- The lost merge: a merge-only write, the queue full of closed records. -/
theorem test_meets_CapturedWriteUnrecorded_lost :
    let s := (capturing .active .localWrite up).setRq { up.rq with records := List.replicate 64 (rcd 0 .sent) }
    let c : Capture :=
      { window := 7, line := 1023, phase := .localWrite, path := some .mergeOnly, reservation := false
        sessionEnded := false, stallTimer := none, confirmTimer := none }
    (s.setCu (some c)).cu = some c ∧ 64 ≤ s.rq.records.length ∧ s.rq.records.getLast? = some (rcd 0 .sent)
      ∧ (rcd 0 .sent).state ≠ .opened ∧ s.out[7].state = .active
      ∧ (after (.localWriteComplete .ok) (s.setCu (some c))).counter .stallExpiries = 1
      ∧ (after (.localWriteComplete .ok) (s.setCu (some c))).out[7].dirtyCount = 1 := by decide +kernel

theorem test_meets_CaptureTimersResult :
    (∃ c, (capturing .active .slotWait up).cu = some c ∧ c.phase = .slotWait ∧ c.stallTimer = some 50)
      ∧ (∃ c, (capturing .active .confirmWait up).cu = some c ∧ c.phase = .confirmWait ∧ c.confirmTimer = some 500)
      ∧ (capturing .active .slotWait up).mp.txn.isSome = true ∧ (capturing .active .slotWait up).da.port.isSome = true
      ∧ (rcd 0 .opened).state = .opened
      ∧ (after .confirmTimerExpiry (capturing .active .confirmWait up)).out[7].state = .degraded := by decide +kernel

theorem test_meets_TrainingResult :
    (at_ .training).lc.state = .training ∧ (at_ .training).au.queue = [] ∧ .hello ∉ (at_ .training).lanes.owed
      ∧ (ask .linkEnable State.reset).lc.training = some 10000
      ∧ (after .trainingTimerExpiry (ask .linkEnable State.reset)).lc.holdoff = some 2000 := by decide +kernel

theorem test_meets_HelloFramesResult :
    (5 : Byte).toNat ≠ (at_ .hello).lc.nodeId.toNat ∧ (3 : Byte).toNat = (at_ .hello).lc.nodeId.toNat
      ∧ (at_ .hello).lc.peerHello = some ⟨9, 5, 20⟩ ∧ (at_ .down).lc.state ≠ .hello
      ∧ (7 : Epoch) ≠ (if (at_ .hello).lc.proposal.toNat < (9 : Epoch).toNat then 9 else (at_ .hello).lc.proposal)
      ∧ (after .transmitHello (owe .hello (at_ .hello))).lc.helloInterval = some 1000
      ∧ ((at_ .hello).setLc { link .hello with attempts := 16 }).lc.attempts = 16 := by decide +kernel

theorem test_meets_LinkReachesUp :
    let s := at_ .hello
    s.lc.state = .hello ∧ s.lc.peerHello = some ⟨9, 5, 20⟩ ∧ (5 : Byte).toNat ≠ s.lc.nodeId.toNat
      ∧ (9 : Epoch) = (if s.lc.proposal.toNat < (9 : Epoch).toNat then 9 else s.lc.proposal) := by decide +kernel

theorem test_meets_SessionEndEvents :
    up.lc.state = .up ∧ up.lc.liveness = some 1000 ∧ (7 : Byte) = up.lc.epoch
      ∧ (Instr.undefinedFrame 0x13 7).wf = true ∧ (asking .linkDisable up).pins.resetAsserted = false := by decide +kernel

/-- A session end finds a capture in LOCAL_WRITE, and one in SLOT_WAIT of an enabled window, of an OFF one and of a released
write. -/
theorem test_meets_CaptureEnded :
    let wait (st : WinState) : State := capturing st .slotWait up
    let released := (wait .active).setMp { (wait .active).mp with txn := some ⟨writeAt 0x1FFC0 1, .capture 7 1023, true⟩ }
    let ended (s : State) := (after .livenessExpiry s).cu.map (fun c => (c.phase, c.path, c.sessionEnded, c.stallTimer))
    (wait .active).mp.txn = some ⟨writeAt 0x1FFC0 1, .capture 7 1023, false⟩ ∧ up.cu = none ∧ up.mp.offer = none
      ∧ ended (capturing .active .localWrite up) = some (.localWrite, some .record, true, some 50)
      ∧ ended (wait .active) = some (.localWrite, some .noRecord, true, none)
      ∧ (after .livenessExpiry (wait .active)).da.fg = some (writeAt 0x1FFC0 1)
      ∧ ended (wait .off) = none ∧ ended released = none := by decide +kernel

theorem test_meets_FramesNotOfSession :
    (at_ .down).lc.state ≠ .up ∧ (at_ .down).lc.liveness = none ∧ up.lc.state = .up ∧ (8 : Byte) ≠ up.lc.epoch := by
  decide +kernel

theorem test_meets_BadCrcFrameResult :
    up.rc.nakOutstanding = false ∧ (after .badCrcFrame up).rc.nakOutstanding = true ∧ (after .badCrcFrame up).lc.state = .up
      ∧ (at_ .hello).lc.state = .hello := by decide +kernel

theorem test_meets_AckTimersOweAck :
    up.lc.keepalive = some 50
      ∧ (up.setAu { up.au with unreported := 1, ackDelay := some 2 }).au.ackDelay = some 2 := by decide +kernel

theorem test_meets_DataAccepted :
    let e : InWindow := { base := 0, length := 64, enabled := true, guard := true }
    up.rc.expected = 0 ∧ up.au.queue.length < 16 ∧ later 0 up.au.advertised = false ∧ up.au.state = .idle
      ∧ (up.setEntry 7 e).inb[7].enabled = true
      ∧ (0 : LineIndex).toNat * 64 + 64 ≤ (up.setEntry 7 e).inb[7].length.toNat
      ∧ ¬(1 : LineIndex).toNat * 64 + 64 ≤ (up.setEntry 7 e).inb[7].length.toNat
      ∧ (after .badCrcFrame (up.setAu { up.au with state := .blocked })).au.state ≠ .idle := by decide +kernel

theorem test_meets_DataNotAccepted :
    later 1 up.rc.expected = true ∧ later 32767 up.rc.expected = true ∧ later up.rc.expected 65535 = true
      ∧ later up.rc.expected 32769 = true ∧ (after .badCrcFrame up).rc.nakOutstanding = true
      ∧ later 0 (up.setAu { up.au with advertised := 65535 }).au.advertised = true := by decide +kernel

theorem test_meets_ViolationsEndSession :
    (0 : BitVec 4) ≠ 1 ∧ 7 < (8 : BitVec 4).toNat ∧ 2 ^ 22 ≤ (0x400000 : BitVec 24).toNat
      ∧ (2 : BitVec 4) = 2 ∧ (1 : Mask) ≠ BitVec.allOnes 64
      ∧ later 2 (queued up).ts.sentHigh = true ∧ later 65535 (queued up).ts.ackedThrough = false
      ∧ (1 : Seq) ≠ 0 ∧ 3 < (4 : Byte).toNat := by decide +kernel

theorem test_meets_AckResult :
    later 65535 (queued up).ts.sentHigh = false ∧ later 65535 (queued up).ts.ackedThrough = false
      ∧ later 1 (queued up).ts.sentHigh = false ∧ later 1 (queued up).ts.ackedThrough = true
      ∧ (queued up).fu.handshake ≠ .waiting ∧ (queued up).lc.state = .up
      ∧ (queued up).rq.records.find? (fun r => decide (r.seq = 1)) = some (rcd 1 .sent)
      ∧ (withWin .active 0 (queued up)).out[7].state = .active := by decide +kernel

theorem queued_quiet : QuietWhileDown (queued up) := quietWhileDown_up rfl nofun

theorem test_meets_AckResult_quiet : QuietWhileDown (queued up) ∧ QuietWhileDown busy := ⟨queued_quiet, busy_quiet⟩

/-- Four PORT fences, the first two on record 1, and a line request that waits. -/
def waiting (s : State) : State :=
  s.setFu
    { s.fu with
      fences := [⟨1, .port 0, false⟩, ⟨1, .port 1, false⟩, ⟨2, .port 2, false⟩, ⟨2, .port 3, false⟩], handshake := .waiting }

theorem test_meets_FencesCompleteResult :
    let s := waiting (queued up)
    s.fu.handshake = .waiting ∧ s.fu.fences.takeWhile (fun f => atOrBefore f.ticket 1) ≠ []
      ∧ s.fu.fences.takeWhile (fun f => atOrBefore f.ticket 0) = []
      ∧ later 1 s.ts.sentHigh = false ∧ later 1 s.ts.ackedThrough = true
      ∧ s.rq.records.filter (fun r => later r.seq 1) = [] ++ [rcd 2 .ready]
      ∧ (waiting ((queued up).setTs { (queued up).ts with sentHigh := 2 })).rq.records.filter (fun r => later r.seq 2) = []
      ∧ (after (.ackReceived 7 1 17 0 0) s).fu.handshake = .pending
      ∧ (queued up).fu.handshake ≠ .waiting
      ∧ (withWin .active 0 s).rq.records.find? (fun r => decide (r.seq = 1)) = some (rcd 1 .sent)
      ∧ (withWin .active 0 s).out[7].state = .active := by decide +kernel

theorem test_meets_FencesCompleteResult_laws :
    LinesFollowHandshake (waiting (queued up)) ∧ QuietWhileDown (waiting (queued up)) := by
  unfold LinesFollowHandshake
  exact ⟨by decide +kernel, quietWhileDown_up rfl nofun⟩

theorem test_meets_SegmentCompletes :
    let s := (engine .draining 1024 (some 1) (withWin .resync 1 (queued up))).setDm (BitVec.twoPow 4096 4095)
    s.lc.state = .up ∧ later 1 s.ts.sentHigh = false ∧ later 1 s.ts.ackedThrough = true ∧ s.re.state = .draining
      ∧ s.out[7].state = .resync ∧ atOrBefore 1 1 = true
      ∧ (∀ v : WinId, v ≠ 7 → s.out[v].state ≠ .resync) ∧ s.dm.getLsbD (s.out[7].mapOffset + 1) = true
      ∧ s.out[7].dirtyCount = 1 := by decide +kernel

/-- The last mark of window 7 clears while window 6 is in RESYNC too: the engine takes a segment of window 6. -/
theorem test_meets_SegmentCompletes_two :
    let other := { window .resync 1 with base := 0x40000, mapOffset := 0 }
    let s := ((engine .draining 1024 (some 1) (withWin .resync 1 (queued up))).setWin 6 other).setDm
      (BitVec.twoPow 4096 4095 ||| BitVec.twoPow 4096 0)
    let t := after (.ackReceived 7 1 17 0 0) s
    s.out[6].state = .resync ∧ s.out[7].state = .resync ∧ s.out[7].dirtyCount = 1 ∧ t.out[7].state = .active
      ∧ t.re.current.map (fun g => (g.window, g.index)) = some (6, 0) ∧ t.out[6].cursor = 1 := by decide +kernel

theorem test_meets_RoundsResult :
    let s := queued up
    later 3 (s.ts.sentHigh + 1) = true ∧ atOrBefore 65535 s.ts.ackedThrough = true ∧ s.ts.sentHigh + 1 = 2
      ∧ atOrBefore 2 s.ts.ackedThrough = false ∧ later 0 (s.ts.sentHigh + 1) = false
      ∧ atOrBefore 0 s.ts.ackedThrough = false ∧ s.ts.rounds < s.params.retryLimit.toNat
      ∧ s.params.retryLimit.toNat ≤ (s.setTs { s.ts with rounds := 8 }).ts.rounds
      ∧ s.ts.ackTimer.isSome = true ∧ (∃ r ∈ s.rq.records, r.state = .sent) ∧ up.ts.ackTimer = none := by decide +kernel

theorem test_meets_TransmitDataResult :
    let s := queued up
    s.lanes.frame = none ∧ s.lanes.goodbye = none ∧ s.lanes.owed = []
      ∧ s.rq.records = [rcd 0 .sent, rcd 1 .sent] ++ rcd 2 .ready :: [] ∧ (rcd 2 .ready).seq = s.rq.sendPtr
      ∧ (∀ r' ∈ [rcd 0 .sent, rcd 1 .sent] ++ [], r'.seq ≠ (rcd 2 .ready).seq) ∧ atOrBefore 2 s.ts.sendLimit = true
      ∧ (owe (.nak 0) s).lanes.owed ≠ [] ∧ (at_ .hello).lc.state ≠ .up
      ∧ later 2 (s.setTs { s.ts with sendLimit := 1 }).ts.sendLimit = true := by decide +kernel

theorem test_meets_TransmitControlResult :
    (owe (.ack 0 16 (some .range)) up).lanes.owed = .ack 0 16 (some .range) :: []
      ∧ (up.setAu { up.au with state := .blocked }).au.state = .blocked ∧ up.au.queue = [] ∧ up.au.state ≠ .blocked
      ∧ (owe (.nak 0) up).lanes.owed = .nak 0 :: [] ∧ (owe (.helloAck 7) up).lanes.owed = .helloAck 7 :: []
      ∧ (owe .hello (at_ .hello)).lanes.owed = .hello :: [] ∧ (at_ .hello).au.queue = []
      ∧ (after .livenessExpiry up).lanes.goodbye = none
      ∧ (after (.undefinedFrame 0 7) up).lanes.goodbye = some (7, .protocol)
      ∧ (after (.undefinedFrame 0 7) up).lc.state ≠ .up
      ∧ (up.setLanes { up.lanes with goodbye := some (6, .command) }).lc.state = .up
      ∧ (at_ .training).lanes.frame = none := by decide +kernel

/-- An owed GOODBYE begins in DOWN, and is not sent once the link trains. -/
theorem test_goodbye_begins_in_down :
    let down := after (.undefinedFrame 0 7) up
    (after .transmitGoodbye down).lanes.frame = some (.goodbye 7 .protocol)
      ∧ (after .holdoffTimerExpiry down).lanes.goodbye = none
      ∧ after .transmitGoodbye (after .holdoffTimerExpiry down) = after .holdoffTimerExpiry down := by decide +kernel

/-- An apply queue of two entries of window 7, the second of them outside the inbound entry. -/
def twoEntries (st : ApplyState) (s : State) : State :=
  let e : ApplyEntry :=
    { seq := 0, kind := .write, window := 7, line := 0, mask := 1, data := Vector.replicate 64 0, reject := none }
  (s.setAu { s.au with queue := [e, { e with seq := 1, line := 1 }], state := st }).setEntry 7
    { base := 0, length := 64, enabled := true, guard := true }

/-- A copy read of window 7's segment in a state, and the downstream port as it is then. -/
def reading (r : ReadState) (s : State) : State :=
  let s1 := engine .copying 3 none (withWin .resync 1 s)
  (s1.setRe { s1.re with read := r, reservation := true }).setDa
    { port := some (if r = .granted then ⟨.cp, readAt 0⟩ else ⟨.fg, readAt 0⟩), fg := none, ap := none
      cp := if r = .requested then some (readAt 0) else none, copyFloor := 0 }

/-- An abandoned read, by a halt, a disable and a session end: withdrawn if requested, to be dropped if granted. -/
theorem test_meets_ReadAbandoned :
    let asked := reading .requested up
    let granted := reading .granted up
    asked.re.current.map (·.window) = some 7 ∧ asked.out[7].state = .resync ∧ asked.re.read = .requested
      ∧ granted.re.read = .granted
      ∧ ([ask (.winHalt 7) asked, ask (.winDisable 7) asked, ask .resetMirror asked, after .livenessExpiry asked].map
        fun t => (t.re.read, t.re.reservation, t.da.cp)) = List.replicate 4 (.absent, false, none)
      ∧ ([ask (.winHalt 7) granted, ask (.winDisable 7) granted, ask .resetMirror granted, after .livenessExpiry granted].map
        fun t => (t.re.read, t.re.readDropped)) = List.replicate 4 (.granted, true) := by decide +kernel

/-- A session end keeps the queue of a unit that is writing, and lets one that was BLOCKED take its next heads. -/
theorem test_meets_ApplyEnded :
    let ended (st : ApplyState) := (after .livenessExpiry (twoEntries st up)).au
    (twoEntries .writing up).au.state = .writing ∧ (twoEntries .blocked up).au.queue.map (twoEntries .blocked up).fits = [true, false]
      ∧ (ended .writing).queue = (twoEntries .writing up).au.queue ∧ (ended .writing).state = .writing
      ∧ (ended .blocked).queue = (twoEntries .blocked up).au.queue ∧ (ended .blocked).state = .writing
      ∧ up.au.queue = [] := by decide +kernel

/-- RESET_MIRROR in HELLO with a HELLO withheld, and with an apply write granted. -/
theorem test_meets_ResetMirrorResult_apply :
    let s := twoEntries .writing (at_ .hello)
    s.lc.state = .hello ∧ s.au.queue ≠ [] ∧ .hello ∉ s.lanes.owed ∧ s.au.state = .writing ∧ s.da.ap = none
      ∧ (ask .resetMirror s).lanes.owed = [.hello] ∧ (ask .resetMirror s).au.writeIgnored = true := by decide +kernel

theorem test_meets_TransmitControlResult_head :
    let s := owe (.ack 65535 15 (some .range)) (twoEntries .blocked up)
    s.lanes.owed = .ack 65535 15 (some .range) :: [] ∧ s.au.state = .blocked ∧ s.au.queue ≠ []
      ∧ s.au.queue.map s.fits = [true, false] ∧ (after .transmitAck s).au.state = .writing := by decide +kernel

theorem test_meets_FrameEndTakesNext :
    (after .transmitData (queued up)).lanes.frame ≠ none ∧ up.lanes.frame = none
      ∧ (after (.undefinedFrame 0 7) (after .transmitData (queued up))).lanes.goodbye ≠ none
      ∧ (after .livenessExpiry (after .transmitData (queued up))).lanes.goodbye = none
      ∧ (owe (.ack 0 16 none) (after .transmitData (queued up))).lanes.owed = .ack 0 16 none :: []
      ∧ (owe (.helloAck 9) (after .transmitHello (owe .hello (at_ .hello)))).lanes.owed = .helloAck 9 :: []
      ∧ (after .transmitHello (owe .hello (at_ .hello))).lanes.frame ≠ none ∧ (at_ .hello).au.queue = [] := by decide +kernel

theorem test_meets_ApplyWriteCompleteResult :
    let e : ApplyEntry :=
      { seq := 0, kind := .write, window := 7, line := 0, mask := 1, data := Vector.replicate 64 0, reject := none }
    let s := (up.setAu { up.au with queue := [e], state := .writing }).setDa { up.da with port := some ⟨.ap, writeAt 0 1⟩ }
    s.da.port = some ⟨.ap, writeAt 0 1⟩ ∧ s.au.writeIgnored = false ∧ s.au.state = .writing ∧ s.au.queue = [e]
      ∧ s.lc.state = .up ∧ s.au.unreported + 1 < s.params.ackBatch.toNat ∧ s.params.ackDelay ≠ 0
      ∧ s.params.ackBatch.toNat ≤ (s.setAu { s.au with unreported := 7 }).au.unreported + 1
      ∧ (after (.applyWriteComplete .ok) s).au.queue = [] := by decide +kernel

theorem test_meets_ApplyWriteCompleteResult_next :
    let port (s : State) := (twoEntries .writing s).setDa { up.da with port := some ⟨.ap, writeAt 0 1⟩ }
    (∀ e ∈ (port up).au.queue, e.reject = none) ∧ (port up).au.queue.tail.map (port up).fits = [false]
      ∧ (after (.applyWriteComplete .ok) (port up)).au.state = .blocked
      ∧ (port (at_ .down)).lc.state ≠ .up
      ∧ (after (.applyWriteComplete .ok) (port (at_ .down))).au.drained = true
      ∧ (port (at_ .hello)).lc.state = .hello ∧ .hello ∉ (port (at_ .hello)).lanes.owed
      ∧ (((port up).setAu { (port up).au with writeIgnored := true })).au.writeIgnored = true := by decide +kernel

/-- After an apply write the port goes to the next head under promotion, and else to the foreground request. -/
theorem test_meets_ApplyWriteCompleteResult_grant :
    let s := (twoEntries .writing up).setDa { up.da with port := some ⟨.ap, writeAt 0 1⟩, fg := some (readAt 0) }
    let five := (List.range 5).flatMap (fun _ => s.au.queue.take 1)
    let run (promotion : Bool) :=
      (after (.applyWriteComplete .ok)
        (s.setAu { s.au with queue := s.au.queue.take 1 ++ five, promotion := promotion })).da.port.map (·.client)
    run true = some .ap ∧ run false = some .fg := by decide +kernel

theorem test_meets_CopyReadCompleteResult :
    let s := (engine .copying 1023 none (withWin .resync 1 up)).setDa { up.da with port := some ⟨.cp, readAt 0x2FFC0⟩ }
    s.da.port = some ⟨.cp, readAt 0x2FFC0⟩ ∧ s.re.readDropped = false ∧ s.out[7].state = .resync
      ∧ s.re.state = .copying ∧ 1023 + 1 = s.segBytes / 64 ∧ up.re.current = none := by decide +kernel

theorem test_meets_SelectionResult :
    let s := (withWin .resync 1 up).setDm (BitVec.twoPow 4096 4095)
    let select := s.setRe { s.re with state := .select, lastServed := 0 }
    select.re.state = .select ∧ select.out[7].state = .resync ∧ (7 : WinId) = select.re.lastServed + 1 + 6
      ∧ (∀ i : WinId, i < 6 → select.out[select.re.lastServed + 1 + i].state ≠ .resync)
      ∧ 1 < select.out[7].length ∧ 1 = (select.out[7].cursor + 1) % select.out[7].length
      ∧ select.dm.getLsbD (select.out[7].mapOffset + 1) = true
      ∧ (∀ j, j < 1 → select.dm.getLsbD (select.out[7].mapOffset + (select.out[7].cursor + j) % select.out[7].length) = false)
      ∧ (∀ w : WinId, up.out[w].state ≠ .resync) ∧ up.re.state ≠ .select
      ∧ busy.re.state = .copying ∧ busy.re.read = .absent ∧ 3 < busy.segLines ∧ up.re.current = none
      ∧ 64 ≤ (busy.setRq { busy.rq with records := List.replicate 64 (rcd 0 .sent) }).rq.records.length := by
  decide +kernel

theorem test_meets_SelectionResult_command :
    let s := asking (.winResync 7) ((withWin .degraded 1 up).setDm (BitVec.twoPow 4096 4095))
    s.out[7].state = .degraded ∧ s.lc.state = .up ∧ s.out[7].dirtyCount ≠ 0 ∧ (∀ v : WinId, s.out[v].state ≠ .resync)
      ∧ s.cu = none ∧ s.re.state = .idle ∧ s.re.read = .absent ∧ s.re.reservation = false ∧ s.rq.records = []
      ∧ 64 ≤ s.segBytes ∧ s.dm.getLsbD (s.out[7].mapOffset + 1) = true ∧ s.dm.getLsbD (s.out[7].mapOffset + 0) = false
      ∧ s.da.port = none ∧ s.da.fg = none ∧ s.da.ap = none
      ∧ (capturing .degraded .localWrite up).da.port.isSome = true := by decide +kernel

theorem test_meets_SlotWaitResult :
    let wait (st : WinState) (n : Nat) : State :=
      let s := (capturing st .slotWait up).setRq { up.rq with records := List.replicate n (rcd 0 .sent) }
      s.setCu (s.cu.map (fun c => { c with reservation := false }))
    (∀ st ∈ [WinState.active, .degraded, .halted, .off], (wait st 64).out[7].state = st)
      ∧ (wait .active 64).cu.map (fun c => (c.phase, c.reservation, c.stallTimer.isSome)) = some (.slotWait, false, true)
      ∧ (wait .active 64).mp.txn = some ⟨writeAt 0x1FFC0 1, .capture 7 1023, false⟩
      ∧ (wait .active 63).rq.records.length < 64 ∧ 64 ≤ (wait .active 64).rq.records.length
      ∧ (rcd 0 .sent).state ≠ .opened ∧ (rcd 0 .opened).kind = .write ∧ (rcd 0 .opened).line = 1023
      ∧ up.cu = none ∧ (capturing .active .localWrite up).cu.any (fun c => decide (c.phase ≠ .slotWait)) = true
      ∧ (wait .active 64).da.port.isSome = true ∧ (wait .active 64).lc.state = .up := by decide +kernel

/-- An ACK that takes record 0 from a full queue lets a waiting write go on. -/
theorem test_slotWait_goes_on :
    let s := ((capturing .active .slotWait up).setRq
      { up.rq with records := rcd 0 .sent :: List.replicate 63 (rcd 1 .ready) }).setTs (queued up).ts
    let full := s.setCu (s.cu.map (fun c => { c with reservation := false }))
    later 0 full.ts.sentHigh = false ∧ later 0 full.ts.ackedThrough = true
      ∧ (after (.ackReceived 7 0 16 0 0) full).cu.map (fun c => (c.phase, c.path, c.reservation))
        = some (.localWrite, some .record, true) := by decide +kernel

end Sys2Proof.Tests
end

section
/-! PROOF. The family 00_scope: a step takes the front command (R1, "Time"), every command answers a next state and leaves
the queue alone, and the numbers and frames of R1, R210 and R211. -/

namespace Sys2Proof.Proofs.Scope

open Sys2Proof Sys2Proof.Machine

/-! ### The blocks beside the queue

`blocks` lists every field that a command may change. `Only blocks s t` then says that the queue of commands is the same
in both states, and the frames of Laws/Only.lean give it for each operation. -/

/-- Every field of the state but the queue of commands. -/
def blocks : List StateField :=
  [.drawn, .pins, .port, .params, .out, .inb, .rq, .cu, .mp, .da, .lc, .lanes, .ts, .rc, .au, .dm, .re, .fu, .al,
   .counters]

@[simp] theorem mem_blocks (f : StateField) : f ∈ blocks ↔ f ≠ .pending := by
  cases f <;> decide

/-- An outcome that is a next state with the same queue. -/
theorem answers_of_only {s t : State} (h : Only blocks s t) :
    ∃ u, (.next t : Step) = .next u ∧ u.pending = s.pending :=
  ⟨t, rfl, h .pending (by simp)⟩

/-! ### Frames of the operations that Laws/Only.lean does not name -/

theorem only_receiveByte {b : Byte} {command : Option Byte} {args : List Byte} {s s' : State} :
    Only blocks s (receiveByte b command args s') ↔ Only blocks s s' := by
  cases command with
  | none => simp [receiveByte]
  | some code =>
    simp only [receiveByte]
    split
    · exact only_completeRequest fun f hf => (mem_blocks f).2 hf
    · simp

/-- A byte on the maintenance port, in each state of the port (R194 to R198). -/
theorem only_portByte {b : Byte} {s s' : State} : Only blocks s (portByte b s') ↔ Only blocks s s' := by
  unfold portByte
  split
  · rfl
  · cases s'.port <;> simp [only_receiveByte]

/-- A frame handed on in the session, stale, or discarded (R54, R64). -/
theorem only_inSession {epoch : Byte} {handle : State → State} {s s' : State}
    (h : ∀ t, Only blocks s (handle t) ↔ Only blocks s t) :
    Only blocks s (inSession epoch handle s') ↔ Only blocks s s' := by
  simp [inSession, h]

/-- The pin-reset state is made from the queue it finds (R167). -/
theorem only_pinReset {s : State} {drawn : Nat} {pins : Pins} {nodeId : BitVec 4} {offer : Option Txn} :
    Only blocks s (State.pinReset s.pending drawn pins nodeId offer) := by
  intro f outside
  obtain rfl : f = .pending := by simpa using outside
  rfl

theorem only_releaseReset {nodeId : BitVec 4} {s : State} : Only blocks s (releaseReset nodeId s) := by
  unfold releaseReset
  split <;> simp [only_pinReset]

/-! ### Every command -/

/-- A maintenance command's row is `onRequest` of its request, whether or not the port holds it (R197). -/
theorem onRequest_answers (r : Request) (crc : Byte) (s : State) :
    ∃ t, (.next (onRequest r crc s) : Step) = .next t ∧ t.pending = s.pending :=
  answers_of_only ((only_onRequest fun f hf => (mem_blocks f).2 hf).2 (Only.refl _ s))

/-- Every row is a next state, and the frame of the operation it runs leaves the queue out. -/
theorem exec_answers (c : Instr) (s : State) : ∃ t, exec c s = .next t ∧ t.pending = s.pending := by
  have same : Only blocks s s := Only.refl _ s
  cases c with
  | winConfig | winEnable | winDisable | winResync | winHalt | winResume | winMark | winStatus | inConfig | inEnable
  | inDisable | inStatus | linkEnable | linkDisable | linkStatus | fence | fenceLog | alertRead | alertEnable
  | causeRead | causeClear | countersRead | getParam | setParam | resetMirror =>
    exact onRequest_answers _ _ s
  | unknownCommand | mcsNFall | mcsNRise => exact answers_of_only (by simp [same])
  | maintenanceByteComplete => exact answers_of_only (only_portByte.2 same)
  | resetNAssert => exact answers_of_only (by simp [same, assertReset, only_pinReset])
  | resetNRelease => exact answers_of_only (by simp [same, only_releaseReset])
  | fenceReqRise | fenceReqFall => exact answers_of_only (by simp [same])
  | localWriteComplete | stallTimerExpiry | confirmTimerExpiry =>
    exact answers_of_only (by cases s.cu <;> simp [same])
  | upstreamOffer | passThroughComplete | mergeTimerExpiry => exact answers_of_only (by simp [same])
  | aligned | lost | trainingTimerExpiry | holdoffTimerExpiry | helloIntervalExpiry | helloReceived
  | helloAckReceived | livenessExpiry | keepaliveExpiry | goodbyeReceived | undefinedFrame | badCrcFrame =>
    exact answers_of_only (by simp [same])
  | dataReceived | ackReceived | nakReceived =>
    exact answers_of_only ((only_inSession fun t => by simp).2 same)
  | ackTimerExpiry => exact answers_of_only (by simp [same])
  | transmitData | transmitAck | transmitNak | transmitHello | transmitHelloAck | transmitGoodbye | frameEnd =>
    exact answers_of_only (by simp [same])
  | applyWriteComplete | ackDelayExpiry | copyReadComplete => exact answers_of_only (by simp [same])

/-- Settles O1: the step reads the front of the queue, and putting the rest back overwrites the whole queue. -/
theorem stepRunsFrontCommand : Obligations.StepRunsFrontCommand := by
  intro c rest s
  rfl

/-- Settles O2, row by row of the opcode table. -/
theorem everyCommandAnswersNext : Obligations.EveryCommandAnswersNext := exec_answers

/-! ### Numbers (R1) -/

theorem atOrBefore_iff_not_later (b a : Seq) : atOrBefore b a = true ↔ later b a = false := by
  simp [atOrBefore_eq]

theorem atOrBefore_self (a : Seq) : atOrBefore a a = true :=
  (atOrBefore_iff_not_later a a).2 (later_self a)

theorem epochSucc_last : epochSucc 255 = 1 := if_pos rfl

theorem epochSucc_of_ne {e : Epoch} (h : e ≠ 255) : epochSucc e = e + 1 := if_neg h

/-! ### Check values (R211) -/

/-- The nine bytes "123456789" of the check values. -/
def checkBytes : List Byte := [0x31, 0x32, 0x33, 0x34, 0x35, 0x36, 0x37, 0x38, 0x39]

theorem crc32_checkBytes : crc32 checkBytes = 0xCBF43926 := by decide +kernel

theorem crc8_checkBytes : crc8 checkBytes = 0xF4 := by decide +kernel

theorem crc8_zero : crc8 [0x00] = 0x00 := by decide +kernel

/-! ### Lengths on the wire (R210) -/

@[simp] theorem bytes16_length (v : BitVec 16) : (bytes16 v).length = 2 := rfl

@[simp] theorem bytes24_length (v : BitVec 24) : (bytes24 v).length = 3 := rfl

@[simp] theorem maskBytes_length (m : Mask) : (maskBytes m).length = 8 := rfl

@[simp] theorem crc32Bytes_length (bytes : List Byte) : (crc32Bytes bytes).length = 4 := rfl

/-- A frame is its body and four CRC-32 bytes (R210, R211). -/
@[simp] theorem frame_bytes_length (f : Frame) : f.bytes.length = f.body.length + 4 := by
  simp [Frame.bytes]

theorem data_length (epoch : Epoch) (seq : Seq) (kind : RecordKind) (window : WinId) (line : LineIndex) (mask : Mask)
    (bytes : LineData) : (Frame.data epoch seq kind window line mask bytes).bytes.length = 84 := by
  simp [Frame.body]

theorem ack_length (epoch : Epoch) (through limit : Seq) (reject : Option RejectReason) :
    (Frame.ack epoch through limit reject).bytes.length = 13 := by
  simp [Frame.body]

theorem nak_length (epoch : Epoch) (expected : Seq) : (Frame.nak epoch expected).bytes.length = 8 := by
  simp [Frame.body]

theorem hello_length (proposal : Epoch) (nodeId : BitVec 4) (limit : Seq) :
    (Frame.hello proposal nodeId limit).bytes.length = 9 := by
  simp [Frame.body]

theorem helloAck_length (agreed : Epoch) (nodeId : BitVec 4) : (Frame.helloAck agreed nodeId).bytes.length = 7 := by
  simp [Frame.body]

theorem goodbye_length (epoch : Epoch) (reason : DownCause) : (Frame.goodbye epoch reason).bytes.length = 7 := by
  simp [Frame.body]

/-! ### Damaged frames (R211) -/

/-- A frame of at least five bytes is judged by its last four against the CRC-32 of the rest (R211). -/
theorem receive_append {body crc : List Byte} (hbody : body ≠ []) (hcrc : crc.length = 4) :
    receive (body ++ crc) = if crc = crc32Bytes body then receiveBody body else .badCrcFrame := by
  have long : ¬(body ++ crc).length < 5 := by
    have := List.length_pos_of_ne_nil hbody
    simp only [List.length_append]
    omega
  have cut : (body ++ crc).length - 4 = body.length := by simp [hcrc]
  simp only [receive, if_neg long, cut, List.take_left, List.drop_left]

/-- A frame whose last four bytes are not its CRC-32 is a bad frame, a body of no bytes included (R210, R211). -/
theorem receive_bad_crc {body crc : List Byte} (hcrc : crc.length = 4) (hbad : crc ≠ crc32Bytes body) :
    receive (body ++ crc) = .badCrcFrame := by
  by_cases hbody : body = []
  · subst hbody
    simp [receive, hcrc]
  · rw [receive_append hbody hcrc, if_neg hbad]

/-- Settles O11, part by part: numbers, check values, lengths, damaged frames. -/
theorem numbersAndFrames : Obligations.NumbersAndFrames :=
  ⟨⟨fun a b => later_iff b a, fun a b => atOrBefore_iff_not_later b a, atOrBefore_self, epochSucc_last,
      fun _ h => epochSucc_of_ne h⟩,
    ⟨crc32_checkBytes, crc8_checkBytes, crc8_zero⟩,
    ⟨data_length, ack_length, nak_length, hello_length, helloAck_length, goodbye_length⟩,
    fun _ _ hcrc hbad => receive_bad_crc hcrc hbad⟩

end Sys2Proof.Proofs.Scope
end

section
/-! PROOF. The family 01_mirror_windows, part 1: what one event can do. Every row of the table is a chain of the moves
listed in `Move`, each with the guards under which the model takes it. A law of the spec is then kept by every step once
each move keeps it. -/

namespace Sys2Proof.Proofs.MirrorWindows

open Sys2Proof Sys2Proof.Machine

/-! ### Changes that no law of this family looks at closely -/

/-- Every record of `new` is of the window and line of a record of `old`. -/
def RecordsFrom (old new : List Record) : Prop := ∀ r ∈ new, ∃ q ∈ old, q.window = r.window ∧ q.line = r.line

/-- A change that leaves the windows, the dirty map, the link, the arbiter, the engine and the capture alone, takes no record
of a new window or line, and lets no bounded list grow beyond its bound. -/
structure Quiet (s t : State) : Prop where
  only : Only [.drawn, .pins, .port, .rq, .mp, .lanes, .ts, .rc, .au, .fu, .al, .counters] s t
  txn : t.mp.txn = s.mp.txn
  records : RecordsFrom s.rq.records t.rq.records
  queue : t.au.queue.length ≤ max 16 s.au.queue.length
  unjudged : ∀ e ∈ t.au.queue, e ∈ s.au.queue ∨ e.reject = none
  fences : t.fu.fences.length ≤ max 4 s.fu.fences.length
  log : t.fu.log.length ≤ max 8 s.fu.log.length

theorem recordsFrom_refl (l : List Record) : RecordsFrom l l := fun r h => ⟨r, h, rfl, rfl⟩

theorem recordsFrom_subset {l l' : List Record} (h : ∀ r ∈ l', r ∈ l) : RecordsFrom l l' :=
  fun r hr => ⟨r, h r hr, rfl, rfl⟩

theorem RecordsFrom.trans {a b c : List Record} (h : RecordsFrom a b) (h' : RecordsFrom b c) : RecordsFrom a c := by
  intro r hr
  obtain ⟨q, hq, window, line⟩ := h' r hr
  obtain ⟨p, hp, window', line'⟩ := h q hq
  exact ⟨p, hp, window'.trans window, line'.trans line⟩

theorem recordsFrom_map {l : List Record} {f : Record → Record}
    (h : ∀ r, (f r).window = r.window ∧ (f r).line = r.line) : RecordsFrom l (l.map f) := by
  intro r hr
  obtain ⟨q, hq, rfl⟩ := List.mem_map.1 hr
  exact ⟨q, hq, (h q).1.symm, (h q).2.symm⟩

theorem recordsFrom_closedTail (l : List Record) : RecordsFrom l (closedTail l) := by
  intro r hr
  obtain ⟨q, hq, same, _⟩ := mem_closedTail hr
  exact ⟨q, hq, by rw [same], by rw [same]⟩

variable {s t u : State}

theorem Quiet.trans (h : Quiet s t) (h' : Quiet t u) : Quiet s u where
  only := h.only.trans h'.only
  txn := h'.txn.trans h.txn
  records := h.records.trans h'.records
  queue := by have := h.queue; have := h'.queue; omega
  unjudged e he := (h'.unjudged e he).elim (h.unjudged e) Or.inr
  fences := by have := h.fences; have := h'.fences; omega
  log := by have := h.log; have := h'.log; omega

/-- A change of the blocks that no law of this family speaks of. -/
theorem quiet_of_only (h : Only [.drawn, .pins, .port, .lanes, .ts, .rc, .al, .counters] s t) : Quiet s t := by
  have mp : t.mp = s.mp := h .mp (by decide)
  have rq : t.rq = s.rq := h .rq (by decide)
  have au : t.au = s.au := h .au (by decide)
  have fu : t.fu = s.fu := h .fu (by decide)
  refine ⟨h.mono (by decide), by rw [mp], by rw [rq]; exact recordsFrom_refl _, ?_, ?_, ?_, ?_⟩
  · rw [au]; omega
  · rw [au]; exact fun e he => Or.inl he
  · rw [fu]; omega
  · rw [fu]; omega

theorem Quiet.raise {c : Cause} (h : Quiet s t) : Quiet s (raise c t) := h.trans (quiet_of_only (by simp [Only.refl]))

theorem Quiet.owe {o : Owed} (h : Quiet s t) : Quiet s (owe o t) := h.trans (quiet_of_only (by simp [Only.refl]))

theorem Quiet.applyQueueEmptied (h : Quiet s t) : Quiet s (applyQueueEmptied t) :=
  h.trans (quiet_of_only (by simp [Only.refl]))

theorem Quiet.refl (s : State) : Quiet s s := quiet_of_only (Only.refl _ s)

theorem quiet_setRq {x : ReplayQueue} (h : RecordsFrom s.rq.records x.records) : Quiet s (s.setRq x) where
  only := by simp [Only.refl]
  txn := rfl
  records := h
  queue := by simp
  unjudged e he := Or.inl he
  fences := by simp
  log := by simp

theorem quiet_setMp {x : MemoryPath} (h : x.txn = s.mp.txn) : Quiet s (s.setMp x) where
  only := by simp [Only.refl]
  txn := h
  records := recordsFrom_refl _
  queue := by simp
  unjudged e he := Or.inl he
  fences := by simp
  log := by simp

theorem quiet_setAu {x : ApplyUnit} (queue : x.queue.length ≤ max 16 s.au.queue.length)
    (unjudged : ∀ e ∈ x.queue, e ∈ s.au.queue ∨ e.reject = none) : Quiet s (s.setAu x) where
  only := by simp [Only.refl]
  txn := rfl
  records := recordsFrom_refl _
  queue := queue
  unjudged := unjudged
  fences := by simp
  log := by simp

/-- A change of the apply unit that takes entries of its queue at most away. -/
theorem quiet_setAu_suffix {x : ApplyUnit} (h : x.queue <:+ s.au.queue) : Quiet s (s.setAu x) :=
  quiet_setAu (by have := h.length_le; omega) fun _ he => Or.inl (h.mem he)

theorem Quiet.setAu_suffix {x : ApplyUnit} (h : Quiet s t) (queue : x.queue <:+ t.au.queue) : Quiet s (t.setAu x) :=
  h.trans (quiet_setAu_suffix queue)

theorem Quiet.setAu_kept {x : ApplyUnit} (h : Quiet s t) (queue : x.queue = t.au.queue) : Quiet s (t.setAu x) :=
  h.setAu_suffix (queue ▸ List.suffix_rfl)

theorem quiet_setFu {x : FenceUnit} (fences : x.fences.length ≤ max 4 s.fu.fences.length)
    (log : x.log.length ≤ max 8 s.fu.log.length) : Quiet s (s.setFu x) where
  only := by simp [Only.refl]
  txn := rfl
  records := recordsFrom_refl _
  queue := by simp
  unjudged e he := Or.inl he
  fences := fences
  log := log

theorem quiet_ite {c : Prop} [Decidable c] {a b : State} (ha : Quiet s a) (hb : Quiet s b) :
    Quiet s (if c then a else b) := by
  split
  · exact ha
  · exact hb

/-! ### The fence unit's quiet changes (R142 to R152) -/

theorem pushLog_length_le (log : List LogEntry) (e : LogEntry) : (pushLog log e).length ≤ 8 := by
  simp only [pushLog_eq, lastEntries, List.length_drop]
  omega

theorem quiet_deliver {source ticket done degraded} : Quiet s (deliver source ticket done degraded s) := by
  cases source with
  | line => exact quiet_setFu (by simp) (by simp)
  | port tag =>
    have log := pushLog_length_le s.fu.log ⟨tag, ticket, done, degraded⟩
    have logged : Quiet s (s.setFu { s.fu with log := pushLog s.fu.log ⟨tag, ticket, done, degraded⟩ }) :=
      quiet_setFu (by simp) (by simp only; omega)
    exact logged.raise

theorem quiet_closeTail : Quiet s (closeTail s) := quiet_setRq (recordsFrom_closedTail _)

/-- A fence that is issued joins the list of the tail's state, or is delivered. -/
theorem issueFence_fences_le (source : FenceSource) :
    (issueFence source s).fu.fences.length ≤ s.fu.fences.length + 1 := by
  rw [issueFence_fences]
  split <;> simp

theorem quiet_issueFence {source : FenceSource} (h : (issueFence source s).fu.fences.length ≤ max 4 s.fu.fences.length) :
    Quiet s (issueFence source s) := by
  unfold issueFence at h ⊢
  dsimp only at h ⊢
  split
  next => exact quiet_closeTail.trans quiet_deliver
  next r tail =>
    rw [tail] at h
    exact quiet_closeTail.trans (quiet_setFu (by simpa using h) (by simp))

/-- A place in the list is free for a fence that is issued (R140). -/
theorem quiet_issueFence_of_room {source : FenceSource} (h : s.fu.fences.length < 4) : Quiet s (issueFence source s) :=
  quiet_issueFence (by have := issueFence_fences_le (s := s) source; omega)

theorem quiet_foldl {α : Type} {f : State → α → State} (h : ∀ t a, Quiet t (f t a)) (l : List α) (s : State) :
    Quiet s (l.foldl f s) :=
  List.foldlRecOn l f (motive := Quiet s) (Quiet.refl s) fun t kept a _ => kept.trans (h t a)

theorem quiet_failAll {list : List Fence} : Quiet s (failAll list s) := by
  have results := quiet_foldl (fun t (f : Fence) => quiet_deliver (s := t) (source := f.source) (ticket := some f.ticket)
    (done := false) (degraded := f.degraded)) list s
  have emptied := results.trans (quiet_setFu (x := { (list.foldl (fun t f =>
    deliver f.source (some f.ticket) false f.degraded t) s).fu with fences := [] }) (by simp) (by simp))
  unfold failAll
  exact quiet_ite (emptied.trans quiet_deliver) emptied

theorem quiet_failFences {before : List Fence} : Quiet s (failFences before s) := by
  unfold failFences
  exact quiet_ite quiet_failAll
    (Quiet.trans (t := s.setDrawn (s.drawn + 1)) (quiet_of_only (by simp [Only.refl])) quiet_failAll)

/-- A completion takes the front fence, and at most puts the waiting line request in its place (R145, R150). -/
theorem completeFront_steps (f : Fence) (h : s.fu.fences ≠ []) :
    Quiet s (completeFront f s) ∧ (completeFront f s).fu.fences.length ≤ s.fu.fences.length
      ∧ s.fu.fences.length ≤ (completeFront f s).fu.fences.length + 1 := by
  have tail : s.fu.fences.tail.length + 1 = s.fu.fences.length := by
    have := List.length_pos_of_ne_nil h
    rw [List.length_tail]
    omega
  have taken : Quiet s (s.setFu { s.fu with fences := s.fu.fences.tail }) :=
    quiet_setFu (by simp) (by simp)
  unfold completeFront
  generalize delivered : deliver f.source (some f.ticket) true f.degraded
    (s.setFu { s.fu with fences := s.fu.fences.tail }) = d
  have fences : d.fu.fences = s.fu.fences.tail := by simp [← delivered]
  have quiet : Quiet s d := by rw [← delivered]; exact taken.trans quiet_deliver
  have here : d.fu.fences.length ≤ s.fu.fences.length ∧ s.fu.fences.length ≤ d.fu.fences.length + 1 := by
    rw [fences]; omega
  unfold issueWaiting
  split
  next =>
    have issued := issueFence_fences_le (s := d) .line
    have kept : d.fu.fences.length ≤ (issueFence .line d).fu.fences.length := by
      rw [issueFence_fences]; split <;> simp
    refine ⟨?_, by rw [fences] at issued; omega, by omega⟩
    unfold issueFence at issued ⊢
    dsimp only at issued ⊢
    have closed : Quiet s (closeTail d) := quiet.trans quiet_closeTail
    split
    next => exact closed.trans quiet_deliver
    next r last =>
      rw [last] at issued
      refine ⟨(by simpa using closed.only : Only _ s _), closed.txn, closed.records, closed.queue, closed.unjudged, ?_,
        by simpa using closed.log⟩
      simp only [State.setFu_fu, closeTail_fu, fences, List.length_append, List.length_singleton]
      omega
  all_goals exact ⟨quiet, here⟩

theorem quiet_completeRun (a : Seq) (list : List Fence) (s : State) (h : list.length ≤ s.fu.fences.length) :
    Quiet s (completeRun a list s) := by
  induction list generalizing s with
  | nil => exact Quiet.refl s
  | cons f rest ih =>
    have some_ : s.fu.fences ≠ [] := by rintro none; simp [none] at h
    obtain ⟨quiet, _, left⟩ := completeFront_steps f some_
    unfold completeRun
    refine quiet_ite (quiet.trans (ih _ ?_)) (Quiet.refl s)
    simp only [List.length_cons] at h
    omega

theorem quiet_completeFences {a : Seq} : Quiet s (completeFences a s) := quiet_completeRun a _ s le_rfl

/-! ### The apply unit's quiet changes (R105 to R118) -/

theorem quiet_oweAck : Quiet s (oweAck s) := by
  unfold oweAck
  exact quiet_ite
    ((quiet_setAu_suffix (x := { s.au with unreported := 0, ackDelay := none }) List.suffix_rfl).trans
      (quiet_of_only (by simp [Only.refl])))
    (Quiet.refl s)

theorem quiet_reportFinish : Quiet s (reportFinish s) := by
  unfold reportFinish
  refine quiet_ite ?_ (Quiet.refl s)
  have reported : Quiet s (s.setAu { s.au with
      unreported := s.au.unreported + 1
      ackDelay := if s.au.unreported = 0 then some s.params.ackDelay.toNat else s.au.ackDelay }) :=
    quiet_setAu_suffix List.suffix_rfl
  exact quiet_ite (reported.trans quiet_oweAck) reported

theorem quiet_reportReject {reason} : Quiet s (reportReject reason s) := by
  have counted : Quiet s (raise .rejectSent (bump .rejectsSent s)) := quiet_of_only (by simp [Only.refl])
  unfold reportReject
  dsimp only
  exact quiet_ite (counted.setAu_kept (by rfl)).owe counted

theorem quiet_finishEntry {e : ApplyEntry} : Quiet s (finishEntry e s) := by
  unfold finishEntry
  dsimp only
  generalize taken : s.setAu _ = s1
  have first : Quiet s s1 := by rw [← taken]; exact quiet_setAu_suffix (List.tail_suffix _)
  have close (v : State) (h : Quiet s1 v) : Quiet s (if v.au.queue.isEmpty then
      applyQueueEmptied (v.setAu { v.au with drained := if v.isUp then v.au.drained else true }) else v) :=
    quiet_ite (Quiet.applyQueueEmptied ((first.trans h).setAu_kept (by rfl))) (first.trans h)
  cases e.reject with
  | none => exact close _ quiet_reportFinish
  | some reason => exact close _ quiet_reportReject

end Sys2Proof.Proofs.MirrorWindows
end

section
namespace Sys2Proof.Proofs.MirrorWindows

open Sys2Proof Sys2Proof.Machine

/-! ### Guards of the moves -/

/-- A link controller that is not UP afterwards was not UP before, keeps its epoch, and starts no session timer. -/
def LinkGuard (old new : LinkController) : Prop :=
  new.state ≠ .up → old.state ≠ .up ∧ new.epoch = old.epoch
    ∧ (new.liveness = old.liveness ∨ new.liveness = none) ∧ (new.keepalive = old.keepalive ∨ new.keepalive = none)

/-- The arbiter before a grant: the copy client's request is untouched, and the port can have been freed by an owner other
than the copy client. -/
structure AskGuard (old new : Arbiter) : Prop where
  cp : new.cp = old.cp
  floor : new.copyFloor = old.copyFloor
  port : new.port = old.port ∨ (new.port = none ∧ ∀ x, old.port ≠ some ⟨.cp, x⟩)

/-- An arbiter that nobody asks anything new: requests of FG and AP can have been withdrawn, and copy_floor reset. -/
structure CalmGuard (old new : Arbiter) : Prop where
  port : new.port = old.port
  cp : new.cp = old.cp
  fg : new.fg = old.fg ∨ new.fg = none
  ap : new.ap = old.ap ∨ new.ap = none
  floor : new.copyFloor = old.copyFloor ∨ new.copyFloor = 0

/-- An enabled window, or that of the current segment, may enter a state (R16 to R28): a halt cause comes with HALTED only (R2), a mirrored state needs a session
or a window that is mirrored already, and the marks decide between ACTIVE and RESYNC (R17). -/
structure EnterGuard (s : State) (w : WinId) (new : WinState) (halt : Option HaltCause) : Prop where
  enabled : (s.win w).state ≠ .off ∨ s.holdsSegment w = true
  stays : new ≠ .off
  cause : halt.isSome = true ↔ new = .halted
  session : new.mirrored = true → s.lc.state = .up ∨ (s.win w).state.mirrored = true
  active : new = .active → (s.win w).dirtyCount = 0
  resync : new = .resync → (s.win w).dirtyCount ≠ 0

/-- Set requests for several segments of a window, in order (R122). -/
def markAll (w : WinId) (ks : List Nat) (s : State) : State := ks.foldl (fun t k => markSegment w k t) s

/-- A window that has been marked in ACTIVE leaves it, towards RESYNC or to DEGRADED (R19, R24). -/
def leaveActive (towardsResync : Bool) (w : WinId) (s : State) : State :=
  if (s.win w).state = .active then
    if towardsResync then toResync w s else enterWindow w .degraded none s
  else s

/-- What a set request is made for: a segment of the window, or the segment of the line of a capture in that window. -/
def MarkGuard (s : State) (w : WinId) (k : Nat) : Prop :=
  k < (s.win w).length
    ∨ ∃ c, s.cu = some c ∧ c.window = w ∧ s.captureState c ≠ .off ∧ k = s.segmentOf c.line

/-! ### The moves -/

/-- One move of the machine within an event. -/
inductive Move (s : State) : State → Prop
  | quiet {t : State} (h : Quiet s t) : Move s t
  | link (x : LinkController) (h : LinkGuard s.lc x) : Move s (s.setLc x)
  | leave (cause : DownCause) (peer : Option DownCause) (h : s.lc.state = .up) :
      Move s (endWindows (discardAll (leaveUp cause peer s)))
  | ask (d : Arbiter) (h : AskGuard s.da d) : Move s (grant (s.setDa d))
  | calm (d : Arbiter) (h : CalmGuard s.da d) : Move s (s.setDa d)
  | complete (r : Result) (bytes : Option LineData) : Move s (completeUpstream r bytes s)
  | drop : Move s (s.setCu none)
  | hold (c c' : Capture) (held : s.cu = some c) (window : c'.window = c.window) (line : c'.line = c.line) :
      Move s (s.setCu (some c'))
  | pass (x : Txn) (h : s.mp.txn = none) : Move s (s.setMp { s.mp with txn := some ⟨x, .passThrough, false⟩ })
  | capture (x : Txn) (c : Capture) (h : s.mp.txn = none) (enabled : (s.win c.window).state ≠ .off)
      (inside : s.lineInside c.window c.line) :
      Move s ((s.setMp { s.mp with txn := some ⟨x, .capture c.window c.line, false⟩ }).setCu (some c))
  | enter (w : WinId) (new : WinState) (halt : Option HaltCause) (h : EnterGuard s w new halt) :
      Move s (enterWindow w new halt s)
  | mark (towardsResync : Bool) (w : WinId) (ks : List Nat) (enabled : (s.win w).state ≠ .off)
      (h : ∀ k ∈ ks, MarkGuard s w k) : Move s (leaveActive towardsResync w (markAll w ks s))
  | select : Move s (selectSegment s)
  | read : Move s (startRead s)
  | segment (g : Segment) (up : s.lc.state = .up) (held : s.re.current = some g) (drains : s.re.state = .draining) :
      Move s (segmentDone g s)
  | record (c : Capture) (r : Record) (held : s.cu = some c) (mirrored : (s.captureState c).mirrored = true)
      (window : r.window = c.window) (line : r.line = c.line) : Move s (append r s)
  | config (w : WinId) (x : OutWindow) (off : (s.win w).state = .off)
      (same : x.state = (s.win w).state ∧ x.haltCause = (s.win w).haltCause ∧ x.dirtyCount = (s.win w).dirtyCount)
      (range : x.mapOffset + x.length ≤ 4096) : Move s (s.setWin w x)
  | enable (full : Bool) (w : WinId) (off : (s.win w).state = .off) (length : (s.win w).length ≠ 0)
      (records : ∀ r ∈ s.rq.records, r.window ≠ w) (clear : s.outboundConflict w = false) :
      Move s (enableState w (enableMarks full w s))
  | disable (w : WinId) (h : (s.win w).state ≠ .off) : Move s (releaseCapture w (turnOff w s))
  | clear : Move s (resetEngine (clearWindows (releaseAny s)))
  | inbound (i : WinId) (x : InWindow)
      (h : x.enabled = false ∨ (x = { s.entry i with enabled := true } ∧ s.inboundConflict i = false)) :
      Move s (s.setEntry i x)
  | params (p : Params)
      (h : p.segmentSize = s.params.segmentSize
        ∨ ((∀ w, (s.win w).state = .off) ∧ p.segmentSize.toNat ∈ [4, 8, 16, 32, 64])) : Move s (s.setParams p)

/-- A chain of moves. -/
abbrev Moves : State → State → Prop := Relation.ReflTransGen Move

variable {s t u : State}

theorem Moves.move (h : Moves s t) (m : Move t u) : Moves s u := Relation.ReflTransGen.tail h m

theorem Moves.quiet (h : Moves s t) (q : Quiet t u) : Moves s u := h.move (.quiet q)

theorem Moves.only (h : Moves s t) (o : Only [.drawn, .pins, .port, .lanes, .ts, .rc, .al, .counters] t u) : Moves s u :=
  h.quiet (quiet_of_only o)

theorem Moves.ite {c : Prop} [Decidable c] {a b : State} (ha : c → Moves s a) (hb : ¬c → Moves s b) :
    Moves s (if c then a else b) := by
  split
  · exact ha ‹_›
  · exact hb ‹_›

theorem Moves.foldl {α : Type} {f : State → α → State} (l : List α) (h : Moves s t)
    (each : ∀ u, ∀ a ∈ l, Moves s u → Moves s (f u a)) : Moves s (l.foldl f t) :=
  List.foldlRecOn l f (motive := Moves s) h fun u kept a ha => each u a ha kept

/-! ### Raising, counting, owing -/

theorem Moves.raise {c : Cause} (h : Moves s t) : Moves s (raise c t) := h.only (by simp [Only.refl])

theorem Moves.bump {c : Counter} (h : Moves s t) : Moves s (bump c t) := h.only (by simp [Only.refl])

theorem Moves.owe {o : Owed} (h : Moves s t) : Moves s (owe o t) := h.only (by simp [Only.refl])

theorem Moves.setLanes {x : Lanes} (h : Moves s t) : Moves s (t.setLanes x) := h.only (by simp [Only.refl])

theorem Moves.setTs {x : Scheduler} (h : Moves s t) : Moves s (t.setTs x) := h.only (by simp [Only.refl])

theorem Moves.setPins {x : Pins} (h : Moves s t) : Moves s (t.setPins x) := h.only (by simp [Only.refl])

theorem Moves.setPort {x : Port} (h : Moves s t) : Moves s (t.setPort x) := h.only (by simp [Only.refl])

theorem Moves.setDrawn {x : Nat} (h : Moves s t) : Moves s (t.setDrawn x) := h.only (by simp [Only.refl])

theorem Moves.setLc {x : LinkController} (h : Moves s t) (g : LinkGuard t.lc x) : Moves s (t.setLc x) := h.move (.link x g)

/-! ### The arbiter and the memory path -/

theorem Moves.presentFg {x : Txn} (h : Moves s t) : Moves s (presentFg x t) := h.move (.ask _ ⟨rfl, rfl, .inl rfl⟩)

theorem Moves.presentAp {x : Txn} (h : Moves s t) : Moves s (presentAp x t) := h.move (.ask _ ⟨rfl, rfl, .inl rfl⟩)

theorem Moves.releasePort (h : Moves s t) (owner : ∀ x, t.da.port ≠ some ⟨.cp, x⟩) : Moves s (releasePort t) :=
  h.move (.ask _ ⟨rfl, rfl, .inr ⟨rfl, owner⟩⟩)

theorem Moves.completeUpstream {r : Result} {bytes : Option LineData} (h : Moves s t) :
    Moves s (completeUpstream r bytes t) := h.move (.complete r bytes)

theorem Moves.forward (h : Moves s t) : Moves s (forward t) := by
  unfold Machine.forward
  split
  · exact h
  · exact h.presentFg

/-- The slot check drops the capture or moves it on within its window and line, and presents its write or lets it wait. -/
theorem slotCheck_cases (c : Capture) (s : State) :
    ∃ y : Option Capture, (∀ c', y = some c' → c'.window = c.window ∧ c'.line = c.line)
      ∧ (slotCheck c s = s.setCu y ∨ slotCheck c s = forward (s.setCu y)) := by
  unfold slotCheck
  cases s.captureState c with
  | off => exact ⟨none, by simp, .inr rfl⟩
  | degraded => exact ⟨_, by rintro c' ⟨⟩; exact ⟨rfl, rfl⟩, .inr rfl⟩
  | halted => exact ⟨_, by rintro c' ⟨⟩; exact ⟨rfl, rfl⟩, .inr rfl⟩
  | active | resync =>
    simp only [slotCheckMirrored]
    repeat' split
    · exact ⟨_, by rintro c' ⟨⟩; exact ⟨rfl, rfl⟩, .inr rfl⟩
    · exact ⟨_, by rintro c' ⟨⟩; exact ⟨rfl, rfl⟩, .inr rfl⟩
    · exact ⟨_, by rintro c' ⟨⟩; exact ⟨rfl, rfl⟩, .inl rfl⟩

/-- A capture that is held, and whatever becomes of it within its window and line. -/
theorem Moves.setCu {c : Capture} {y : Option Capture} (h : Moves s t) (held : t.cu = some c)
    (same : ∀ c', y = some c' → c'.window = c.window ∧ c'.line = c.line) : Moves s (t.setCu y) := by
  cases y with
  | none => exact h.move .drop
  | some c' => exact h.move (.hold c c' held (same c' rfl).1 (same c' rfl).2)

theorem Moves.slotCheck {c : Capture} (h : Moves s t) (held : t.cu = some c) : Moves s (slotCheck c t) := by
  obtain ⟨y, same, waits | onward⟩ := slotCheck_cases c t
  · rw [waits]; exact h.setCu held same
  · rw [onward]; exact (h.setCu held same).forward

theorem Moves.recheckSlot (h : Moves s t) : Moves s (recheckSlot t) := by
  unfold Machine.recheckSlot
  split
  next => exact h
  next c held => exact .ite (fun _ => h.slotCheck held) fun _ => h

theorem Moves.captureUnrecorded {c : Capture} (h : Moves s t) (held : t.cu = some c) : Moves s (captureUnrecorded c t) :=
  (h.setCu held (by rintro c' ⟨⟩; exact ⟨rfl, rfl⟩)).forward

theorem Moves.advanceEngine (h : Moves s t) : Moves s (advanceEngine t) := (h.move .select).tail .read

theorem Moves.settle (h : Moves s t) : Moves s (settle t) := h.recheckSlot.advanceEngine

/-! ### Accepting an upstream transaction (R156, R157) -/

/-- The line index of a captured write lies inside the window that contains the write's line (R156, R158). -/
theorem captureLine_inside {x : Txn} {w : WinId}
    (h : lineInExtent (lineAddr x) (s.win w).base.toNat (s.extentSize (s.win w)) = true) :
    s.lineInside w (BitVec.ofNat 22 ((x.addr.toNat - (s.win w).base.toNat) / 64)) := by
  simp only [lineInExtent, Bool.and_eq_true, decide_eq_true_eq] at h
  simp only [lineAddr, State.extentSize, Params.segmentBytes] at h
  simp only [State.lineInside, State.segBytes, BitVec.toNat_ofNat]
  change _ < (s.win w).length * _
  have small := Nat.mod_le ((x.addr.toNat - (s.win w).base.toNat) / 64) (2 ^ 22)
  omega

theorem windowAt_spec {line : Nat} {w : WinId} (h : s.windowAt line = some w) :
    (s.win w).state ≠ .off ∧ lineInExtent line (s.win w).base.toNat (s.extentSize (s.win w)) = true := by
  have found := List.find?_some h
  simpa [OutWindow.isEnabled] using found

/-- A write that is classified as a CAPTURE lies in an enabled window (R157). -/
theorem classify_capture {x : Txn} {w : WinId} {line : LineIndex} (h : classify s x = .capture w line) :
    (s.win w).state ≠ .off ∧ s.lineInside w line := by
  unfold classify at h
  split at h
  · cases h
  · split at h
    · cases h
    · split at h
      next => cases h
      next v found =>
        split at h
        · cases h
        · obtain ⟨rfl, rfl⟩ := TxnClass.capture.inj h
          obtain ⟨enabled, extent⟩ := windowAt_spec found
          exact ⟨enabled, captureLine_inside extent⟩

theorem Moves.acceptTxn {x : Txn} (h : Moves s t) (free : t.mp.txn = none) : Moves s (acceptTxn x t) := by
  have offered : Moves s (t.setMp { t.mp with offer := none }) := h.quiet (quiet_setMp rfl)
  unfold Machine.acceptTxn
  dsimp only
  refine .ite (fun _ => ?_) fun _ => ?_
  · split
    next => exact offered.completeUpstream.raise.bump
    next => exact (offered.move (.pass x free)).presentFg
    next w line captured =>
      obtain ⟨enabled, inside⟩ := classify_capture captured
      obtain ⟨y, same, waits | onward⟩ := slotCheck_cases (Capture.start w line)
        ((t.setMp { t.mp with offer := none }).setMp
          { (t.setMp { t.mp with offer := none }).mp with txn := some ⟨x, .capture w line, false⟩ })
      all_goals
        have taken := (offered.move (.capture x (Capture.start w line) free enabled inside)).setCu (y := y) rfl same
      · rw [waits]; exact taken
      · rw [onward]; exact taken.forward
  · unfold completeMalformed
    split
    · exact offered.completeUpstream.setDrawn
    · exact offered.completeUpstream

theorem Moves.acceptOffer (h : Moves s t) : Moves s (acceptOffer t) := by
  unfold Machine.acceptOffer
  split
  · exact h
  · refine .ite (fun _ => h) fun free => h.acceptTxn ?_
    simp only [Bool.or_eq_true, not_or, Bool.not_eq_true, Option.isSome_eq_false_iff] at free
    simpa using free.2

/-! ### The apply unit (R107 to R118) -/

theorem Moves.setAu {x : ApplyUnit} (h : Moves s t) (queue : x.queue = t.au.queue) : Moves s (t.setAu x) :=
  h.quiet (quiet_setAu_suffix (queue ▸ List.suffix_rfl))

theorem Moves.takeEntries (n : Nat) (h : Moves s t) : Moves s (takeEntries n t) := by
  induction n generalizing t with
  | zero => exact h
  | succ n ih =>
    unfold Machine.takeEntries
    split
    · exact h
    · refine .ite (fun _ => ?_) fun _ => h
      split
      · exact ih (h.quiet quiet_finishEntry)
      · exact (h.setAu (by rfl)).presentAp

theorem Moves.takeHead (h : Moves s t) : Moves s (takeHead t) := h.takeEntries _

/-! ### The session end (R67, R68) -/

theorem Moves.endCapture (h : Moves s t) : Moves s (endCapture t) := by
  unfold Machine.endCapture
  split
  · exact h
  · split
    · exact h.completeUpstream
    all_goals exact h.setCu ‹_› (by rintro c' ⟨⟩; exact ⟨rfl, rfl⟩)

theorem Moves.endApply (h : Moves s t) : Moves s (endApply t) := (h.setAu (by rfl)).takeHead

theorem Moves.announced {before : List Fence} (h : Moves s t) :
    Moves s (Machine.endApply (Machine.endCapture (failFences before (endScheduler t)))) :=
  (h.setTs.quiet quiet_failFences).endCapture.endApply

theorem Moves.sessionEnd {cause : DownCause} {peer : Option DownCause} (h : Moves s t) :
    Moves s (sessionEnd cause peer t) := by
  unfold Machine.sessionEnd
  refine .ite (fun up => ?_) fun _ => h
  have ended : Moves s (endWindows (discardAll (leaveUp cause peer t))) :=
    h.move (.leave cause peer (by simpa [State.isUp] using up))
  exact ended.announced.settle.acceptOffer

/-! ### Windows (R16 to R28) -/

theorem Moves.toResync {w : WinId} (h : Moves s t) (enabled : (t.win w).state ≠ .off)
    (session : t.lc.state = .up ∨ (t.win w).state.mirrored = true) : Moves s (toResync w t) := by
  unfold Machine.toResync
  refine .ite (fun none => ?_) fun some => ?_
  · exact h.move (.enter w .active .none ⟨.inl enabled, by simp, by simp, fun _ => session, fun _ => none, by simp⟩)
  · exact h.move (.enter w .resync .none ⟨.inl enabled, by simp, by simp, fun _ => session, by simp, fun _ => some⟩)

theorem Moves.enterHalted {w : WinId} {cause : HaltCause} (h : Moves s t) (enabled : (t.win w).state ≠ .off) :
    Moves s (enterWindow w .halted (some cause) t) :=
  h.move (.enter w .halted (some cause) ⟨.inl enabled, by simp, by simp, by simp [WinState.mirrored], by simp, by simp⟩)

theorem Moves.enterDegraded {w : WinId} (h : Moves s t) (enabled : (t.win w).state ≠ .off) :
    Moves s (enterWindow w .degraded none t) :=
  h.move (.enter w .degraded none ⟨.inl enabled, by simp, by simp, by simp [WinState.mirrored], by simp, by simp⟩)

theorem captureFailure_eq (w : WinId) (s : State) : captureFailure w s = leaveActive (s.win w).autoResync w s := rfl

theorem discardFailure_eq (w : WinId) (s : State) : discardFailure w s = leaveActive false w s := by
  simp [discardFailure, leaveActive]

theorem markLine_eq (w : WinId) (line : LineIndex) (s : State) : markLine w line s = markAll w [s.segmentOf line] s := rfl

theorem Moves.markCapture {c : Capture} {r : Result} (h : Moves s t) (held : t.cu = some c)
    (enabled : t.captureState c ≠ .off) : Moves s (markCapture c r t) := by
  have window : (t.win c.window).state ≠ .off := by
    unfold State.captureState at enabled
    split at enabled
    · exact absurd rfl enabled
    · exact enabled
  unfold Machine.markCapture
  rw [captureFailure_eq, markLine_eq]
  have guard : ∀ k ∈ [t.segmentOf c.line], MarkGuard t c.window k := by
    simp only [List.mem_singleton, forall_eq]
    exact Or.inr ⟨c, held, rfl, enabled, rfl⟩
  exact (h.move (.mark _ _ _ window guard)).completeUpstream

end Sys2Proof.Proofs.MirrorWindows
end

section
namespace Sys2Proof.Proofs.MirrorWindows

open Sys2Proof Sys2Proof.Machine

variable {s t u : State}

/-! ### The window commands (R6 to R22) -/

theorem off_of_not_enabled {x : OutWindow} (h : ¬x.isEnabled = true) : x.state = .off := by
  simpa [OutWindow.isEnabled] using h

theorem enabled_iff {x : OutWindow} : x.isEnabled = true ↔ x.state ≠ .off := by simp [OutWindow.isEnabled]

theorem isUp_iff : s.isUp = true ↔ s.lc.state = .up := by simp [State.isUp]

theorem moves_winConfig {base length mapOffset policy autoResync} {w : WinId} :
    Moves s (winConfigAt base length mapOffset policy autoResync w s).2.2 := by
  unfold winConfigAt
  dsimp only
  repeat' split
  next => exact .refl
  next enabled _ _ _ _ _ _ good =>
    simp only [Bool.and_eq_true, decide_eq_true_eq] at good
    exact .single (.config w _ (off_of_not_enabled enabled) ⟨rfl, rfl, rfl⟩ good.2)
  all_goals exact .refl

theorem moves_winEnable {mode} {w : WinId} : Moves s (winEnableAt mode w s).2.2 := by
  unfold winEnableAt
  dsimp only
  repeat' split
  next => exact .refl
  next => exact .refl
  next => exact .refl
  next off records _ full _ good =>
    simp only [Bool.or_eq_true, decide_eq_true_eq, not_or] at off
    simp only [List.any_eq_true, decide_eq_true_eq, not_exists, not_and] at records
    simp only [Bool.and_eq_true, Bool.not_eq_true'] at good
    exact (Moves.move .refl (.enable full w (off_of_not_enabled off.1) off.2 records good.2)).settle
  next => exact .refl

theorem moves_winDisable {w : WinId} : Moves s (winDisableAt w s).2.2 := by
  unfold winDisableAt
  split
  next enabled => exact (Moves.move .refl (.disable w (enabled_iff.1 enabled))).settle
  next => exact .refl

theorem moves_winResync {w : WinId} : Moves s (winResyncAt w s).2.2 := by
  unfold winResyncAt
  split
  next => exact .refl
  next => exact .refl
  next => exact .refl
  next => exact .refl
  next degraded =>
    split
    next up => exact (Moves.toResync .refl (by simp [degraded]) (.inl (isUp_iff.1 up))).settle
    next => exact .refl

theorem moves_winHalt {w : WinId} : Moves s (winHaltAt w s).2.2 := by
  unfold winHaltAt
  split
  · exact .refl
  · exact .refl
  all_goals
    rename_i state
    exact (Moves.enterHalted .refl (by simp [state])).settle

theorem moves_winResume {w : WinId} : Moves s (winResumeAt w s).2.2 := by
  unfold winResumeAt
  split
  next halted =>
    have degraded : Moves s (enterWindow w .degraded none s) := Moves.enterDegraded .refl (by simp [halted])
    refine Moves.settle (.ite (fun go => ?_) fun _ => degraded)
    simp only [Bool.and_eq_true] at go
    exact degraded.toResync (by simp [enterWindow_win]) (.inl (isUp_iff.1 go.2))
  all_goals exact .refl

theorem markAll_win_state (w : WinId) (ks : List Nat) (s : State) (v : WinId) :
    ((markAll w ks s).win v).state = (s.win v).state :=
  List.foldlRecOn ks _ (motive := fun t : State => (t.win v).state = (s.win v).state) rfl fun t same k _ => by
    rw [markSegment_win]
    split
    next h => rw [← same, h.1]
    next => exact same

theorem markRun_eq (w : WinId) (first count : Nat) (s : State) :
    markRun w first count s = markAll w ((List.range count).map (first + ·)) s := by
  simp [markRun, markAll, List.foldl_map]

theorem moves_winMark {first count} {w : WinId} : Moves s (winMarkAt first count w s).2.2 := by
  unfold winMarkAt
  dsimp only
  split
  next enabled =>
    split
    next => exact .refl
    next good =>
      simp only [Bool.or_eq_true, decide_eq_true_eq, not_or, Nat.not_lt] at good
      have inside : ∀ k ∈ (List.range count.toNat).map (first.toNat + ·), MarkGuard s w k := by
        intro k named
        obtain ⟨i, hi, rfl⟩ := List.mem_map.1 named
        have := List.mem_range.1 hi
        exact Or.inl (by omega)
      have marked : Moves s (leaveActive true w (markRun w first.toNat count.toNat s)) := by
        rw [markRun_eq]
        exact .single (.mark true w _ (enabled_iff.1 enabled) inside)
      rw [leaveActive, markRun_eq, markAll_win_state, ← markRun_eq] at marked
      exact marked.settle
  next => exact .refl

/-! ### The inbound entries (R12 to R14) -/

theorem moves_inConfig {base length guard} {i : WinId} : Moves s (inConfigAt base length guard i s).2.2 := by
  unfold inConfigAt
  dsimp only
  repeat' split
  next => exact .refl
  next => exact .refl
  next disabled _ _ _ _ => exact .single (.inbound i _ (.inl (by simpa using disabled)))
  next => exact .refl

theorem moves_inEnable {i : WinId} : Moves s (inEnableAt i s).2.2 := by
  unfold inEnableAt
  dsimp only
  repeat' split
  next => exact .refl
  next => exact .refl
  next clear => exact .single (.inbound i _ (.inr ⟨rfl, by simpa using clear⟩))

theorem moves_inDisable {i : WinId} : Moves s (inDisableAt i s).2.2 := .single (.inbound i _ (.inl rfl))

/-! ### The link (R55, R56) -/

theorem Moves.enterTraining (h : Moves s t) (down : t.lc.state ≠ .up) : Moves s (enterTraining t) :=
  h.setLanes.setLc (by exact fun _ => ⟨down, rfl, .inl rfl, .inl rfl⟩)

theorem Moves.dropHandshake (h : Moves s t) : Moves s (dropHandshake t) := h.setLanes

theorem Moves.enterDown (h : Moves s t) (down : t.lc.state ≠ .up) : Moves s (enterDown t) :=
  (h.setLc (by exact fun _ => ⟨down, rfl, .inl rfl, .inl rfl⟩)).dropHandshake

theorem Moves.enterFault (h : Moves s t) (down : t.lc.state ≠ .up) : Moves s (enterFault t) :=
  (h.setLc (by exact fun _ => ⟨down, rfl, .inr rfl, .inr rfl⟩)).dropHandshake.raise

theorem Moves.oweHello (h : Moves s t) : Moves s (oweHello t) := .ite (fun _ => h.owe) fun _ => h

theorem Moves.linkOff (h : Moves s t) (down : t.lc.state ≠ .up) : Moves s (linkOff t) :=
  (h.setLc (by exact fun _ => ⟨down, rfl, .inr rfl, .inr rfl⟩)).dropHandshake

theorem moves_linkEnable : Moves s (linkEnableRun s).2.2 := by
  have enabled : Moves s (s.setLc { s.lc with enabled := true }) :=
    Moves.setLc .refl fun down => ⟨down, rfl, .inl rfl, .inl rfl⟩
  exact .ite (fun off => enabled.enterTraining (by simp [off])) fun _ => enabled

theorem moves_linkDisable : Moves s (linkDisableRun s).2.2 := by
  have disabled : Moves s (s.setLc { s.lc with enabled := false }) :=
    Moves.setLc .refl fun down => ⟨down, rfl, .inl rfl, .inl rfl⟩
  unfold linkDisableRun
  dsimp only
  split
  next => exact disabled.sessionEnd
  next => exact disabled
  all_goals
    rename_i state
    exact disabled.linkOff (by simp [state])

/-! ### Fences, alerts, counters and words (R147, R148, R185 to R192, R203, R204) -/

theorem moves_fence {tag} : Moves s (fenceRun tag s).2.2 := by
  unfold fenceRun
  split
  next => exact .refl
  next room => exact Moves.quiet .refl (quiet_issueFence_of_room (by simpa [Config.fenceSlots] using room))

theorem moves_fenceLog {clear} : Moves s (fenceLogRun clear s).2.2 := by
  unfold fenceLogRun
  split
  next => exact .refl
  next => exact .ite (fun _ => Moves.quiet .refl (quiet_setFu (by simp) (by simp))) fun _ => .refl

theorem moves_setParam {word value} : Moves s (setParamRun word value s).2.2 := by
  unfold setParamRun
  repeat' split
  next => exact .refl
  next p _ writable good =>
    refine .single (.params _ ?_)
    cases p
    case segmentSize =>
      right
      simp only [State.writable, ParamWord.isLinkWord, Bool.false_eq_true, if_false, if_true, List.all_eq_true,
        Bool.not_eq_true'] at writable
      simp only [ParamWord.inRange, Bool.and_eq_true, List.contains_iff_mem] at good
      refine ⟨fun w => off_of_not_enabled ?_, good.1⟩
      simp [writable (s.win w) (by simp [State.win])]
    all_goals exact Or.inl rfl
  next => exact .refl
  next => exact .refl

/-! ### RESET_MIRROR (R207) -/

theorem Moves.setDa {d : Arbiter} (h : Moves s t) (calm : CalmGuard t.da d) : Moves s (t.setDa d) := h.move (.calm d calm)

theorem Moves.applyQueueEmptied (h : Moves s t) : Moves s (applyQueueEmptied t) := h.only (by simp [Only.refl])

theorem Moves.resetApply (h : Moves s t) : Moves s (resetApply t) := by
  have withdrawn : Moves s (withdrawAp t) := h.setDa ⟨rfl, rfl, .inl rfl, .inr rfl, .inl rfl⟩
  have emptied : Moves s ((withdrawAp t).setAu
      { t.au with
        queue := [], state := .idle, unreported := 0, ackDelay := none, promotion := false, drained := true
        writeIgnored := t.au.writeIgnored || (decide (t.au.state = .writing) && t.da.ap.isNone) }) :=
    withdrawn.quiet (quiet_setAu_suffix (List.nil_suffix))
  exact .ite (fun _ => emptied.setLanes) fun _ => emptied.setLanes.applyQueueEmptied

theorem Moves.resetBlocks (h : Moves s t) : Moves s (resetBlocks t) := by
  have cleared : Moves s (resetEngine (clearWindows (releaseAny t))) := h.move .clear
  have discarded : Moves s (discardRecords (resetEngine (clearWindows (releaseAny t)))) :=
    cleared.quiet (quiet_setRq (recordsFrom_subset (by simp)))
  exact (discarded.endCapture.recheckSlot.resetApply.setDa (by exact ⟨rfl, rfl, .inl rfl, .inl rfl, .inr rfl⟩)).quiet quiet_failAll

/-! ### Every command -/

theorem moves_onWindow {b : Byte} {run : WinId → State → Execution} (h : ∀ w, Moves s (run w s).2.2) :
    Moves s (onWindow b run s).2.2 := by
  unfold onWindow
  split
  · exact .refl
  · exact h _

theorem moves_runRequest (r : Request) : Moves s (runRequest r s).2.2 := by
  cases r with
  | winConfig => exact moves_onWindow fun _ => moves_winConfig
  | winEnable => exact moves_onWindow fun _ => moves_winEnable
  | winDisable => exact moves_onWindow fun _ => moves_winDisable
  | winResync => exact moves_onWindow fun _ => moves_winResync
  | winHalt => exact moves_onWindow fun _ => moves_winHalt
  | winResume => exact moves_onWindow fun _ => moves_winResume
  | winMark => exact moves_onWindow fun _ => moves_winMark
  | winStatus => exact moves_onWindow fun _ => .refl
  | inConfig => exact moves_onWindow fun _ => moves_inConfig
  | inEnable => exact moves_onWindow fun _ => moves_inEnable
  | inDisable => exact moves_onWindow fun _ => moves_inDisable
  | inStatus => exact moves_onWindow fun _ => .refl
  | linkEnable => exact moves_linkEnable
  | linkDisable => exact moves_linkDisable
  | linkStatus => exact .refl
  | fence => exact moves_fence
  | fenceLog => exact moves_fenceLog
  | alertRead => exact Moves.only .refl (by simp [runRequest, alertReadRun, Only.refl])
  | alertEnable =>
    simp only [runRequest, alertEnableRun]
    split
    · exact Moves.only .refl (by simp [accept, Only.refl])
    · exact .refl
  | causeRead =>
    simp only [runRequest, causeReadRun]
    split <;> exact .refl
  | causeClear =>
    simp only [runRequest, causeClearRun]
    repeat' split
    · exact .refl
    · exact Moves.only .refl (by simp [accept, Only.refl])
    · exact .refl
  | countersRead =>
    simp only [runRequest, countersReadRun]
    split
    · exact .refl
    · exact Moves.only .refl (by simp [Only.refl])
  | getParam =>
    simp only [runRequest, getParamRun]
    split <;> exact .refl
  | setParam => exact moves_setParam
  | resetMirror => exact (Moves.resetBlocks .refl).sessionEnd.acceptOffer

theorem moves_completeRequest {r : Request} {crc : Byte} : Moves s (completeRequest r crc s) := by
  unfold completeRequest respond shiftOut
  exact .ite (fun _ => (moves_runRequest r).setPort.setPins) fun _ => Moves.setPins (Moves.setPort .refl)

end Sys2Proof.Proofs.MirrorWindows
end

section
namespace Sys2Proof.Proofs.MirrorWindows

open Sys2Proof Sys2Proof.Machine

variable {s t u : State}

/-! ### The maintenance port (R194 to R199) -/

theorem Moves.shiftOut {b : Byte} (h : Moves s t) : Moves s (shiftOut b t) := h.setPins

theorem moves_onRequest {r : Request} {crc : Byte} : Moves s (onRequest r crc s) :=
  .ite (fun _ => moves_completeRequest) fun _ => .refl

theorem moves_portByte {b : Byte} : Moves s (portByte b s) := by
  unfold portByte
  refine .ite (fun _ => .refl) fun _ => ?_
  split
  next => exact .refl
  next => exact Moves.shiftOut .refl
  next =>
    unfold receiveByte
    split
    next => exact .ite (fun _ => (Moves.setPort .refl).shiftOut) fun _ => (Moves.setPort .refl).shiftOut
    next =>
      split
      · exact moves_completeRequest
      · exact (Moves.setPort .refl).shiftOut
  next => exact Moves.shiftOut .refl
  next => exact (Moves.setPort .refl).shiftOut
  next => exact Moves.shiftOut .refl

theorem Quiet.setRc {x : Checker} (h : Quiet s t) : Quiet s (t.setRc x) := h.trans (quiet_of_only (by simp [Only.refl]))

theorem Moves.setRc {x : Checker} (h : Moves s t) : Moves s (t.setRc x) := h.only (by simp [Only.refl])

/-! ### The capture unit's events (R36, R44 to R48) -/

/-- A capture that goes on after `captureState` found its window enabled and mirrored. -/
theorem Moves.recordWrite {c : Capture} (h : Moves s t) (held : t.cu = some c)
    (mirrored : (t.captureState c).mirrored = true) : Moves s (recordWrite c t) := by
  have appended : Moves s ((append (writeRecord c t) t).setDrawn (t.drawn + 1)) :=
    (h.move (.record c _ held mirrored rfl rfl)).setDrawn
  unfold Machine.recordWrite
  split
  · exact appended.completeUpstream
  · exact appended.setCu (by simpa using held) (by rintro c' ⟨⟩; exact ⟨rfl, rfl⟩)

/-- A merge changes the tail within its window and line (R35). -/
theorem quiet_merge {mask : Mask} {data : LineData} : Quiet s (merge mask data s) := by
  rcases List.eq_nil_or_concat' s.rq.records with none | ⟨older, r, tail⟩
  · have same : merge mask data s = s := by simp [merge, none]
    rw [same]
    exact .refl s
  · have merged := merge_rq mask data tail
    have put : merge mask data s = s.setRq (merge mask data s).rq := by simp [merge, tail]
    rw [put, merged]
    refine quiet_setRq ?_
    rw [tail]
    intro q hq
    rcases List.mem_append.1 hq with old | new
    · exact ⟨q, by simp [old], rfl, rfl⟩
    · rw [List.mem_singleton.1 new]
      exact ⟨r, by simp, rfl, rfl⟩

theorem Moves.mirrorWrite {c : Capture} (h : Moves s t) (held : t.cu = some c)
    (mirrored : (t.captureState c).mirrored = true) : Moves s (mirrorWrite c t) := by
  have enabled : t.captureState c ≠ .off := by rintro off; simp [off, WinState.mirrored] at mirrored
  unfold Machine.mirrorWrite
  refine .ite (fun _ => (h.quiet quiet_merge).completeUpstream) fun _ => .ite (fun _ => h.recordWrite held mirrored)
    fun _ => ?_
  have counted : Moves s (Machine.bump .stallExpiries t) := h.bump
  exact counted.markCapture (by simpa using held) (by simpa [State.captureState, State.win] using enabled)

theorem moves_localWriteDone {c : Capture} {r : Result} (held : s.cu = some c) : Moves s (localWriteDone c r s) := by
  cases r with
  | ok =>
    simp only [localWriteDone, localWriteOk]
    split
    next => exact Moves.completeUpstream .refl
    next state => exact Moves.markCapture .refl held (by simp [state])
    next state => exact Moves.markCapture .refl held (by simp [state])
    all_goals
      rename_i state
      exact .ite (fun _ => Moves.markCapture .refl held (by simp [state])) fun _ =>
        Moves.mirrorWrite .refl held (by simp [state, WinState.mirrored])
  | err =>
    simp only [localWriteDone, localWriteErr]
    split
    next => exact Moves.completeUpstream .refl
    all_goals
      rename_i state
      have counted : Moves s (bump .localErrors (raise .localMemoryError s)) := (Moves.raise .refl).bump
      refine counted.markCapture (by simpa using held) ?_
      have same : (bump .localErrors (raise .localMemoryError s)).captureState c = s.captureState c := rfl
      simp [same, state]

/-! ### Who holds the port (R173, R177) -/

theorem markCapture_da_port {c : Capture} {r : Result} : (markCapture c r s).da.port = s.da.port := by
  unfold markCapture captureFailure toResync
  repeat' split
  all_goals simp [enterWindow_da_port]

theorem localWriteDone_da_port {c : Capture} {r : Result} : (localWriteDone c r s).da.port = s.da.port := by
  have recorded : (recordWrite c s).da.port = s.da.port := by
    unfold recordWrite; split <;> simp
  unfold localWriteDone localWriteOk localWriteErr mirrorWrite
  repeat' split
  all_goals simp [markCapture_da_port, recorded]

theorem presentCp_da_port {x : Txn} (busy : s.da.port.isSome = true) : (presentCp x s).da.port = s.da.port := by
  rw [presentCp, grant_busy (by simpa using busy)]; rfl

theorem startRead_da_port (busy : s.da.port.isSome = true) : (startRead s).da.port = s.da.port := by
  unfold startRead
  repeat' split
  all_goals first | rfl | exact presentCp_da_port (by simpa using busy)

theorem forward_da_port (busy : s.da.port.isSome = true) : (forward s).da.port = s.da.port := by
  unfold forward
  split
  · rfl
  · rw [presentFg, grant_busy (by simpa using busy)]; rfl

theorem slotCheck_da_port {c : Capture} (busy : s.da.port.isSome = true) : (slotCheck c s).da.port = s.da.port := by
  obtain ⟨y, _, waits | onward⟩ := slotCheck_cases c s
  · rw [waits]; rfl
  · rw [onward]; exact forward_da_port (s := s.setCu y) busy

/-- What follows an event leaves the access that holds the port (R177). -/
theorem settle_da_port (busy : s.da.port.isSome = true) : (settle s).da.port = s.da.port := by
  have rechecked : (recheckSlot s).da.port = s.da.port := by
    unfold recheckSlot
    repeat' split
    all_goals first | rfl | exact slotCheck_da_port busy
  have selected : (selectSegment (recheckSlot s)).da.port = s.da.port := by simpa using rechecked
  unfold settle advanceEngine
  rw [startRead_da_port (by rw [selected]; exact busy), selected]

theorem portClient_ne {c : Client} (h : s.portClient = some c) (other : c ≠ .cp) (x : Txn) :
    s.da.port ≠ some ⟨.cp, x⟩ := by
  rintro port
  simp [State.portClient, port] at h
  exact other h.symm

theorem portClient_busy {c : Client} (h : s.portClient = some c) : s.da.port.isSome = true := by
  cases port : s.da.port <;> simp [State.portClient, port] at h ⊢

/-! ### The rows of the memory ports -/

theorem moves_offerUpstream {x : Txn} : Moves s (offerUpstream x s) := by
  unfold offerUpstream
  split
  · exact .refl
  · exact Moves.acceptOffer (Moves.quiet .refl (quiet_setMp rfl))

theorem moves_passThroughDone {r : Result} {bytes : LineData} (owner : s.portClient = some .fg) :
    Moves s (passThroughDone r bytes s) := by
  have completed : Moves s (completeUpstream r (readBytes s bytes) s) := Moves.completeUpstream .refl
  exact (completed.releasePort fun x => by simpa using portClient_ne owner (by decide) x).acceptOffer

theorem moves_localWriteEnds {c : Capture} {r : Result} (held : s.cu = some c) (owner : s.portClient = some .fg) :
    Moves s (acceptOffer (releasePort (settle (localWriteDone c r s)))) := by
  refine ((moves_localWriteDone held).settle.releasePort fun x => ?_).acceptOffer
  rw [settle_da_port (by rw [localWriteDone_da_port]; exact portClient_busy owner), localWriteDone_da_port]
  exact portClient_ne owner (by decide) x

theorem moves_confirmExpired {c : Capture} (held : s.cu = some c) : Moves s (confirmExpired c s) := by
  have dropped : Moves s (dropWaiter s) :=
    Moves.quiet .refl (quiet_setRq (recordsFrom_map (by simp)))
  unfold confirmExpired
  dsimp only
  split
  next => exact dropped.completeUpstream
  all_goals
    rename_i state
    exact dropped.markCapture held (by simp [state])

/-! ### The rows of the link controller (R57 to R69) -/

theorem moves_lanesLost : Moves s (lanesLost s) := by
  unfold lanesLost
  split
  next hello => exact Moves.enterDown .refl (by simp [hello])
  next => exact Moves.sessionEnd .refl
  all_goals exact .refl

theorem Moves.retryHello (h : Moves s t) (down : t.lc.state ≠ .up) : Moves s (retryHello t) :=
  .ite (fun _ => h.oweHello) fun _ => h.enterDown down

theorem moves_helloArrives {proposal nodeId : Byte} {limit : Seq} : Moves s (helloArrives proposal nodeId limit s) := by
  unfold helloArrives
  split
  next hello =>
    have down : s.lc.state ≠ .up := by simp [hello]
    exact .ite (fun _ => Moves.enterFault .refl down) fun _ =>
      (Moves.setLc .refl (by exact fun _ => ⟨down, rfl, .inl rfl, .inl rfl⟩)).owe
  next =>
    unfold helloInUp
    repeat' split
    · exact .refl
    · exact Moves.owe .refl
    · exact .refl
  all_goals exact .refl

theorem Moves.resumeWindows (h : Moves s t) (up : t.lc.state = .up) : Moves s (resumeWindows t) := by
  have both : Moves s (Machine.resumeWindows t) ∧ (Machine.resumeWindows t).lc.state = .up := by
    unfold Machine.resumeWindows
    generalize List.finRange 8 = windows
    refine List.foldlRecOn windows (fun t w => resumeWindow w t)
      (motive := fun u : State => Moves s u ∧ u.lc.state = .up) ⟨h, up⟩ fun u kept w _ => ?_
    unfold resumeWindow
    split
    next degraded => exact ⟨kept.1.toResync (by simp [degraded.1]) (.inl kept.2), by simpa using kept.2⟩
    next => exact kept
  exact both.1

theorem moves_reachUp {agreed : Epoch} {limit : Seq} : Moves s (reachUp agreed limit s) := by
  have linked : Moves s (linkUp agreed s) :=
    ((Moves.setLanes .refl).setLc (by exact fun down => absurd rfl down)).bump.raise
  have numbered : Moves s ((linkUp agreed s).setRq { (linkUp agreed s).rq with nextSeq := 0, sendPtr := 0 }) :=
    linked.quiet (quiet_setRq (recordsFrom_refl _))
  have started : Moves s (startSession limit (linkUp agreed s)) := numbered.setTs.setRc.setAu (by rfl)
  exact (started.resumeWindows rfl).settle

theorem moves_helloAck {agreed nodeId : Byte} (hello : s.lc.state = .hello) : Moves s (helloAckInHello agreed nodeId s) := by
  have down : s.lc.state ≠ .up := by simp [hello]
  unfold helloAckInHello
  refine .ite (fun _ => Moves.enterFault .refl down) fun _ => ?_
  split
  · exact .refl
  · refine .ite (fun _ => moves_reachUp) fun _ => ?_
    exact (Moves.setLc .refl (by exact fun _ => ⟨down, rfl, .inl rfl, .inl rfl⟩)).retryHello down

theorem moves_inSession {epoch : Byte} {handle : State → State}
    (h : ∀ u, u.lc.state = .up → Moves s u → Moves s (handle u)) : Moves s (inSession epoch handle s) := by
  refine .ite (fun up => .ite (fun _ => ?_) fun _ => Moves.bump .refl) fun _ => .refl
  have live := isUp_iff.1 up
  exact h _ live (Moves.setLc .refl fun down => absurd live down)

/-! ### The rows of the receive checker (R99 to R103, R81 to R91) -/

theorem Moves.oweNak (h : Moves s t) : Moves s (oweNak t) := .ite (fun _ => h) fun _ => h.only (by simp [Only.refl])

theorem moves_badCrc : Moves s (badCrcArrives s) := by
  unfold badCrcArrives
  split
  · exact (Moves.bump .refl).raise.oweNak
  · exact (Moves.bump .refl).raise
  all_goals exact .refl

theorem dataEntry_reject {seq : Seq} {kind window : BitVec 4} {line : BitVec 24} {mask : Mask} {data : LineData}
    {e : ApplyEntry} (h : dataEntry seq kind window line mask data = some e) : e.reject = none := by
  unfold dataEntry at h
  repeat' split at h
  all_goals cases h
  rfl

/-- An accepted DATA frame joins a queue that has room for it (R101, R105). -/
theorem quiet_joinQueue {e : ApplyEntry} (fresh : e.reject = none) (room : s.au.queue.length < 16) :
    Quiet s (joinQueue e s) := by
  have joined : Quiet s (s.setAu { s.au with
      queue := s.au.queue ++ [e]
      promotion := s.au.promotion || decide (Config.promoteAt ≤ s.au.queue.length + 1) }) := by
    refine quiet_setAu ?_ fun e' there => ?_
    · simp only [List.length_append, List.length_singleton]; omega
    · rcases List.mem_append.1 there with old | new
      · exact Or.inl old
      · rw [List.mem_singleton.1 new]; exact Or.inr fresh
  exact joined.setRc

theorem Moves.dataArrives {seq : Seq} {kind window : BitVec 4} {line : BitVec 24} {mask : Mask} {data : LineData}
    (h : Moves s t) : Moves s (dataArrives seq kind window line mask data t) := by
  unfold Machine.dataArrives
  split
  next => exact h.sessionEnd
  next e entry =>
    unfold judgeData
    refine .ite (fun _ => .ite (fun _ => h.bump.raise) fun fits => ?_)
      fun _ => .ite (fun _ => h.bump.oweNak) fun _ => h.bump.quiet quiet_oweAck
    have room : t.au.queue.length < 16 := by
      simp [State.overruns, Config.applySlots] at fits; omega
    exact (h.quiet (quiet_joinQueue (dataEntry_reject entry) room)).takeHead

theorem Moves.ackReject {reason : Option RejectReason} {window : Option WinId} (h : Moves s t) :
    Moves s (ackReject reason window t) := by
  unfold Machine.ackReject
  repeat' split
  · exact h
  · exact h.bump
  · unfold rejectWindow
    have counted : Moves s (Machine.bump .rejectsReceived t) := h.bump
    split
    · exact counted
    · exact counted
    all_goals
      rename_i state
      exact counted.enterHalted (by simp [state])

theorem Moves.applyAck {a limit : Seq} {reason : Byte} (h : Moves s t) (up : t.lc.state = .up) :
    Moves s (applyAck a limit reason t) := by
  unfold Machine.applyAck
  have limited (v : State) (hv : Moves s v) : Moves s (ackLimit limit v) := .ite (fun _ => hv.setTs) fun _ => hv
  dsimp only
  split
  next =>
    have progressed : Moves s (ackProgress a t) :=
      (h.quiet (quiet_setRq (x := (removeHead a t).rq)
        (recordsFrom_subset (by rw [removeHead_rq]; exact fun r hr => List.mem_of_mem_filter hr)))).setTs
    have rejected := (limited _ progressed).ackReject (reason := rejectOf reason) (window := t.windowOfSeq a)
    have up2 : (Machine.ackReject (rejectOf reason) (t.windowOfSeq a) (ackLimit limit (ackProgress a t))).lc.state = .up := by
      unfold Machine.ackReject ackLimit ackProgress
      repeat' split
      all_goals simpa using up
    generalize Machine.ackReject (rejectOf reason) (t.windowOfSeq a) (ackLimit limit (ackProgress a t)) = v at rejected up2
    unfold handOn
    have fenced : Moves s (completeFences a v) := rejected.quiet quiet_completeFences
    have confirmed : Moves s (if t.waiterRemoved a then confirmDone (completeFences a v) else completeFences a v) := by
      refine .ite (fun _ => ?_) fun _ => fenced
      unfold confirmDone
      repeat' split
      · exact fenced
      · exact fenced.completeUpstream
      · exact fenced
    have rechecked := confirmed.recheckSlot
    have up3 : (Machine.recheckSlot (if t.waiterRemoved a then confirmDone (completeFences a v)
        else completeFences a v)).lc.state = .up := by
      unfold confirmDone
      repeat' split
      all_goals simpa using up2
    refine Moves.acceptOffer (Moves.advanceEngine ?_)
    unfold compareSegment
    split
    · exact rechecked
    next g held => exact .ite (fun drains => rechecked.move (.segment g up3 held drains.1)) fun _ => rechecked
  next => exact (limited _ h).ackReject

theorem Moves.startRound {e : Seq} (h : Moves s t) : Moves s (startRound e t) := by
  unfold Machine.startRound
  refine .ite (fun _ => ?_) fun _ => h.sessionEnd
  have pointed : Moves s (t.setRq { t.rq with sendPtr := e }) := h.quiet (quiet_setRq (recordsFrom_refl _))
  exact pointed.setTs.bump

theorem Moves.nakArrives {e : Seq} (h : Moves s t) : Moves s (nakArrives e t) := by
  unfold Machine.nakArrives
  refine .ite (fun _ => h.bump.sessionEnd) fun _ => .ite (fun _ => h.bump) fun _ => .ite (fun _ => ?_)
    fun _ => h.bump.startRound
  exact .ite (fun _ => h.bump.quiet (quiet_setRq (recordsFrom_refl _))) fun _ => h.bump

/-! ### The rows of the lanes (R77 to R80, R104, R110) -/

theorem Moves.beginFrame {f : Frame} (h : Moves s t) : Moves s (beginFrame f t) := by
  unfold Machine.beginFrame
  exact .ite (fun up => h.setLanes.setLc (by exact fun down => absurd (isUp_iff.1 up) down)) fun _ => h.setLanes

theorem Moves.beginOwed (h : Moves s t) : Moves s (beginOwed t) := by
  have popped : Moves s (popOwed t) := h.setLanes
  unfold Machine.beginOwed
  split
  next => exact h
  next through limit reject _ =>
    unfold beginAck unblock advertise
    have begun : Moves s (if later limit (Machine.beginFrame (.ack t.lc.epoch through limit reject) (popOwed t)).au.advertised
        then (Machine.beginFrame (.ack t.lc.epoch through limit reject) (popOwed t)).setAu
          { (Machine.beginFrame (.ack t.lc.epoch through limit reject) (popOwed t)).au with advertised := limit }
        else Machine.beginFrame (.ack t.lc.epoch through limit reject) (popOwed t)) :=
      .ite (fun _ => popped.beginFrame.setAu (by rfl)) fun _ => popped.beginFrame
    exact .ite (fun _ => (begun.setAu (by rfl)).takeHead) fun _ => begun
  next => exact popped.beginFrame.bump
  next =>
    exact popped.beginFrame.setLc (by exact fun down => ⟨down, rfl, .inl rfl, .inl rfl⟩)
  next => exact popped.beginFrame

theorem Moves.beginType {f : FrameType} (h : Moves s t) : Moves s (beginType f t) := by
  have data : Moves s (beginData t) := by
    unfold beginData
    split
    next => exact h
    next r _ =>
      have sent : Moves s (t.setRq { t.rq with records := markSent r.seq t.rq.records, sendPtr := r.seq + 1 }) :=
        h.quiet (quiet_setRq (recordsFrom_map fun q => by split <;> exact ⟨rfl, rfl⟩))
      exact sent.setTs.beginFrame
  have goodbye : Moves s (beginGoodbye t) := by
    unfold beginGoodbye
    split
    · exact h
    · exact h.setLanes.beginFrame
  cases f
  · exact data
  all_goals first | exact goodbye | exact h.beginOwed

/-! ### The rows of the fence lines and of pin reset (R150 to R152, R167, R168) -/

theorem moves_requestLine (h : Moves s t) : Moves s (requestLine t) := by
  unfold requestLine
  split
  · exact .ite (fun room => h.quiet (quiet_issueFence_of_room (by simpa [Config.fenceSlots] using room)))
      fun _ => h.quiet (quiet_setFu (by simp) (by simp))
  all_goals exact h

theorem moves_releaseLine (h : Moves s t) : Moves s (releaseLine t) := by
  unfold releaseLine
  split
  · exact h
  · exact h.quiet (quiet_setFu (by simp) (by simp))
  · refine h.quiet (quiet_setFu ?_ (by simp))
    exact (List.length_filter_le ..).trans (le_max_right _ _)
  · exact h.quiet (quiet_setFu (by simp) (by simp))

theorem moves_releaseReset {nodeId : BitVec 4} :
    Moves (State.pinReset s.pending s.drawn { s.pins with resetAsserted := false, msdo := none } nodeId s.mp.offer)
      (releaseReset nodeId s) :=
  .ite (fun _ => .refl) fun _ => (Moves.setPort .refl).setPins

end Sys2Proof.Proofs.MirrorWindows
end

section
namespace Sys2Proof.Proofs.MirrorWindows

open Sys2Proof Sys2Proof.Machine

variable {s t u : State}

/-! ### The completion of a copy read (R130, R131, R136)

The engine handles the result while the access still holds the port. `CopyTaken` is that handling; what follows it are
moves, and then the port is granted again. -/

/-- The engine has taken the result of its copy read, whose access still holds the port. -/
inductive CopyTaken (s : State) : State → Prop
  | ended : CopyTaken s (endRead s)
  | copied (g : Segment) (bytes : LineData) (held : s.re.current = some g) (kept : s.re.readDropped = false) :
      CopyTaken s (copyOk g bytes s)

/-- What one command does: a chain of moves, in a copy read's completion after the engine has taken the result and before
the port is granted again, or a pin reset and what follows it. -/
inductive Runs (s : State) : State → Prop
  | moves {t : State} (h : Moves s t) : Runs s t
  | reset {t : State} (drawn : Nat) (pins : Pins) (nodeId : BitVec 4) (offer : Option Txn)
      (h : Moves (State.pinReset s.pending drawn pins nodeId offer) t) : Runs s t
  | copy {m u : State} (owner : s.portClient = some .cp) (taken : CopyTaken s m) (h : Moves m u) : Runs s (releasePort u)

/-- The engine's handling of a copy read is the taking of its result, and in the error case the halt of the window. -/
theorem copyReadDone_taken (r : Result) (bytes : LineData) (s : State) :
    ∃ m, CopyTaken s m ∧ Moves m (copyReadDone r bytes s) := by
  unfold copyReadDone
  split
  next => exact ⟨_, .ended, .refl⟩
  next g held =>
    split
    next => exact ⟨_, .ended, .refl⟩
    next kept =>
      split
      next => exact ⟨_, .copied g bytes held (by simpa using kept), .refl⟩
      next =>
        refine ⟨_, .ended, ?_⟩
        have counted : Moves (endRead s) (bump .localErrors (raise .localMemoryError (endRead s))) :=
          (Moves.raise .refl).bump
        refine counted.move (.enter g.window .halted (some .copyReadError)
          ⟨.inr ?_, by simp, by simp, by simp [WinState.mirrored], by simp, by simp⟩)
        simp [State.holdsSegment, endRead, held]

/-! ### Every row of the table -/

theorem runs_next (h : Moves s u) (e : (.next u : Step) = .next t) : Runs s t := by
  cases e
  exact .moves h

/-- Every command does moves, or completes a copy read. -/
theorem exec_runs {c : Instr} (e : exec c s = .next t) : Runs s t := by
  cases c with
  | winConfig | winEnable | winDisable | winResync | winHalt | winResume | winMark | winStatus | inConfig | inEnable
  | inDisable | inStatus | linkEnable | linkDisable | linkStatus | fence | fenceLog | alertRead | alertEnable
  | causeRead | causeClear | countersRead | getParam | setParam | resetMirror => exact runs_next moves_onRequest e
  | unknownCommand code =>
    refine runs_next (u := refuseCommand code s) ?_ e
    unfold refuseCommand
    split
    · exact .ite (fun _ => .refl) fun _ => (Moves.setPort .refl).shiftOut
    · exact .refl
  | mcsNFall =>
    refine runs_next (u := chipSelect s) (.ite (fun _ => Moves.setPins .refl) fun _ => ?_) e
    split
    · exact (Moves.setPins .refl).setPort.shiftOut
    · exact Moves.setPins .refl
  | mcsNRise =>
    exact runs_next (u := chipRelease s) (.ite (fun _ => Moves.setPins .refl) fun _ => (Moves.setPins .refl).setPort) e
  | resetNAssert =>
    simp only [exec, execResetNAssert, Host.Outcome.next.injEq] at e
    rw [← e]
    split
    · exact .moves .refl
    · exact .reset _ _ _ _ .refl
  | resetNRelease =>
    simp only [exec, execResetNRelease, Host.Outcome.next.injEq] at e
    rw [← e]
    split
    · exact .reset _ _ _ _ moves_releaseReset.acceptOffer
    · exact .moves .refl
  | fenceReqRise =>
    exact runs_next (.ite (fun _ => .refl) fun _ => .ite (fun _ => Moves.setPins .refl)
      fun _ => moves_requestLine (Moves.setPins .refl)) e
  | fenceReqFall =>
    exact runs_next (.ite (fun _ => .ite (fun _ => Moves.setPins .refl) fun _ => moves_releaseLine (Moves.setPins .refl))
      fun _ => .refl) e
  | upstreamOffer => exact runs_next moves_offerUpstream e
  | passThroughComplete => exact runs_next (.ite (fun owner => moves_passThroughDone owner.1) fun _ => .refl) e
  | localWriteComplete =>
    refine runs_next ?_ e
    split
    next => exact .refl
    next c held => exact .ite (fun owner => moves_localWriteEnds held owner.1) fun _ => .refl
  | stallTimerExpiry =>
    refine runs_next ?_ e
    split
    next => exact .refl
    next c held =>
      have counted : Moves s (bump .stallExpiries s) := Moves.bump .refl
      exact .ite (fun _ => (counted.captureUnrecorded (by simpa using held)).advanceEngine) fun _ => .refl
  | confirmTimerExpiry =>
    refine runs_next ?_ e
    split
    next => exact .refl
    next c held => exact .ite (fun _ => (moves_confirmExpired held).settle.acceptOffer) fun _ => .refl
  | mergeTimerExpiry => exact runs_next (.ite (fun _ => Moves.quiet .refl quiet_closeTail) fun _ => .refl) e
  | aligned =>
    refine runs_next (.ite (fun training => ?_) fun _ => .refl) e
    have down : s.lc.state ≠ .up := by simp [training]
    exact (Moves.setLc .refl (by exact fun _ => ⟨down, rfl, .inl rfl, .inl rfl⟩)).oweHello
  | lost => exact runs_next moves_lanesLost e
  | trainingTimerExpiry =>
    exact runs_next (.ite (fun training => Moves.enterDown .refl (by simp [training.1])) fun _ => .refl) e
  | holdoffTimerExpiry =>
    exact runs_next (.ite (fun down => Moves.enterTraining .refl (by simp [down.1])) fun _ => .refl) e
  | helloIntervalExpiry =>
    refine runs_next (.ite (fun hello => ?_) fun _ => .refl) e
    have down : s.lc.state ≠ .up := by simp [hello.1]
    exact (Moves.setLc .refl (by exact fun _ => ⟨down, rfl, .inl rfl, .inl rfl⟩)).retryHello down
  | helloReceived => exact runs_next moves_helloArrives e
  | helloAckReceived => exact runs_next (.ite (fun hello => moves_helloAck hello) fun _ => .refl) e
  | livenessExpiry => exact runs_next (.ite (fun _ => Moves.sessionEnd .refl) fun _ => .refl) e
  | keepaliveExpiry =>
    refine runs_next (.ite (fun up => ?_) fun _ => .refl) e
    exact (Moves.setLc .refl (by exact fun down => absurd (isUp_iff.1 up.1) down)).quiet quiet_oweAck
  | goodbyeReceived =>
    exact runs_next (.ite (fun _ => .ite (fun _ => Moves.sessionEnd .refl) fun _ => Moves.bump .refl) fun _ => .refl) e
  | undefinedFrame => exact runs_next (.ite (fun _ => .refl) fun _ => Moves.sessionEnd .refl) e
  | badCrcFrame => exact runs_next moves_badCrc e
  | dataReceived => exact runs_next (moves_inSession fun _ _ h => h.dataArrives) e
  | ackReceived =>
    exact runs_next (moves_inSession fun _ up h => .ite (fun _ => h.applyAck up) fun _ => h.sessionEnd) e
  | nakReceived => exact runs_next (moves_inSession fun _ _ h => h.nakArrives) e
  | ackTimerExpiry => exact runs_next (.ite (fun _ => Moves.startRound .refl) fun _ => .refl) e
  | transmitData | transmitAck | transmitNak | transmitHello | transmitHelloAck | transmitGoodbye =>
    exact runs_next (.ite (fun _ => Moves.beginType .refl) fun _ => .refl) e
  | frameEnd =>
    refine runs_next (.ite (fun _ => ?_) fun _ => .refl) e
    have ended : Moves s (s.setLanes { s.lanes with frame := none }) := Moves.setLanes .refl
    unfold takeNext
    split
    · exact ended
    · exact ended.beginType
  | applyWriteComplete r =>
    refine runs_next (.ite (fun owner => ?_) fun _ => .refl) e
    have busy := portClient_busy owner
    have done : Moves s (applyWriteDone r s) ∧ (applyWriteDone r s).da.port = s.da.port := by
      unfold applyWriteDone finishWrite
      repeat' split
      · exact ⟨Moves.setAu .refl (by rfl), rfl⟩
      · exact ⟨.refl, rfl⟩
      · exact ⟨(Moves.quiet .refl quiet_finishEntry).takeHead, by
          rw [takeHead, takeEntries_da_port _ _ (by simpa using busy)]; simp⟩
      · have failed : Moves s (applyError s) := (Moves.raise .refl).bump
        exact ⟨(failed.quiet quiet_finishEntry).takeHead, by
          rw [takeHead, takeEntries_da_port _ _ (by simpa [applyError] using busy)]; simp [applyError]⟩
      · exact ⟨.refl, rfl⟩
    refine done.1.releasePort fun x => ?_
    rw [done.2]
    exact portClient_ne owner (by decide) x
  | ackDelayExpiry => exact runs_next (.ite (fun _ => Moves.quiet .refl quiet_oweAck) fun _ => .refl) e
  | copyReadComplete r bytes =>
    simp only [exec, execCopyReadComplete, Host.Outcome.next.injEq] at e
    rw [← e]
    split
    next owner =>
      obtain ⟨m, taken, moves⟩ := copyReadDone_taken r bytes s
      exact .copy owner taken moves.settle
    next => exact .moves .refl
  | maintenanceByteComplete => exact runs_next moves_portByte e

/-! ### What every step keeps -/

/-- A law that every move and the pin's reset keep, that the taking of a copy read's result keeps in its weak form, and that the grant after it
restores, is kept by every step. The weak form holds while the access of a completed copy read is still on the port. -/
theorem step_keeps {P weak : State → Prop} (queue : ∀ s x, P s → P (s.setPending x))
    (reset : ∀ pending drawn pins nodeId offer, P (State.pinReset pending drawn pins nodeId offer))
    (move : ∀ {s t}, Move s t → P s → P t) (moveWeak : ∀ {s t}, Move s t → weak s → weak t)
    (taken : ∀ {s t}, s.portClient = some .cp → CopyTaken s t → P s → weak t)
    (released : ∀ {s}, weak s → P (releasePort s)) (s t : State) (h : P s) (e : step s = .next t) : P t := by
  have chain {Q : State → Prop} (each : ∀ {s t}, Move s t → Q s → Q t) {a b : State} (m : Moves a b) (ha : Q a) : Q b :=
    Relation.ReflTransGen.head_induction_on m (motive := fun a _ => Q a → Q b) id (fun m _ ih ha => ih (each m ha)) ha
  unfold step at e
  split at e
  · cases e; exact h
  · rename_i rest _
    have start := queue s rest h
    cases exec_runs e with
    | moves m => exact chain move m start
    | reset drawn pins nodeId offer m => exact chain move m (reset ..)
    | copy owner t m => exact released (chain moveWeak m (taken owner t start))

/-- A law that says nothing of the engine's read on the port needs no weak form. -/
theorem step_keeps' {P : State → Prop} (queue : ∀ s x, P s → P (s.setPending x))
    (reset : ∀ pending drawn pins nodeId offer, P (State.pinReset pending drawn pins nodeId offer)) (move : ∀ {s t}, Move s t → P s → P t)
    (taken : ∀ {s t}, CopyTaken s t → P s → P t) (released : ∀ {s}, P s → P (releasePort s)) (s t : State) (h : P s)
    (e : step s = .next t) : P t :=
  step_keeps queue reset move move (fun _ => taken) released s t h e

end Sys2Proof.Proofs.MirrorWindows
end

section
/-! PROOF. The family 01_mirror_windows, part 2: the bounds of O6 and the state outside UP of O7. -/

namespace Sys2Proof.Proofs.MirrorWindows

open Sys2Proof Sys2Proof.Machine

variable {s t u : State} {w : WinId}

/-! ### Window transitions and the bounds

`Walk` is what any chain of window transitions and set requests leaves at the blocks that the bounds speak of. -/

/-- The law of `WindowsFit` for one entry. -/
def EntryFits (x : OutWindow) : Prop :=
  (x.haltCause.isSome = true ↔ x.state = .halted) ∧ x.mapOffset + x.length ≤ 4096

theorem windowsFit_iff : WindowsFit s ↔ ∀ w, EntryFits (s.win w) := Iff.rfl

structure Walk (s t : State) : Prop where
  au : t.au = s.au
  lc : t.lc = s.lc
  fences : t.fu.fences.length = s.fu.fences.length
  log : t.fu.log = s.fu.log
  da : t.da = s.da ∨ t.da = { s.da with cp := none, copyFloor := 0 }
  fit : WindowsFit s → WindowsFit t

theorem Walk.refl (s : State) : Walk s s := ⟨rfl, rfl, rfl, rfl, .inl rfl, id⟩

theorem Walk.trans (h : Walk s t) (h' : Walk t u) : Walk s u where
  au := h'.au.trans h.au
  lc := h'.lc.trans h.lc
  fences := h'.fences.trans h.fences
  log := h'.log.trans h.log
  da := by
    rcases h.da with a | a <;> rcases h'.da with b | b <;> simp [b, a]
  fit := h'.fit ∘ h.fit

theorem Walk.foldl {α : Type} {f : State → α → State} (h : Walk s t) (each : ∀ t a, Walk t (f t a)) (l : List α) :
    Walk s (l.foldl f t) :=
  List.foldlRecOn l f (motive := Walk s) h fun t kept a _ => kept.trans (each t a)

theorem walk_of_only (h : Only [.drawn, .pins, .port, .params, .inb, .rq, .cu, .mp, .lanes, .ts, .rc, .dm, .re, .al,
    .counters] s t) : Walk s t := by
  have out : t.out = s.out := h .out (by decide)
  have fu : t.fu = s.fu := h .fu (by decide)
  refine ⟨h .au (by decide), h .lc (by decide), by rw [fu], by rw [fu], .inl (h .da (by decide)), fun fit v => ?_⟩
  rw [out]
  exact fit v

theorem walk_setWin {x : OutWindow} (h : EntryFits (s.win w) → EntryFits x) : Walk s (s.setWin w x) := by
  refine ⟨rfl, rfl, rfl, rfl, .inl rfl, fun fit v => ?_⟩
  have entry : EntryFits ((s.setWin w x).win v) := by
    rw [win_setWin]
    split
    · exact h (fit w)
    · exact fit v
  exact entry

theorem abandon_da : (abandon s).da = s.da ∨ (abandon s).da = { s.da with cp := none, copyFloor := 0 } := by
  unfold abandon
  cases s.re.read
  · exact .inl rfl
  · exact .inr rfl
  · exact .inl rfl

theorem walk_abandon : Walk s (abandon s) := by
  refine ⟨by simp, by simp, by simp, by simp, abandon_da, fun fit v => ?_⟩
  rw [abandon_out]
  exact fit v

theorem tellEngine_da {old new : WinState} :
    (tellEngine w old new s).da = s.da ∨ (tellEngine w old new s).da = { s.da with cp := none, copyFloor := 0 } := by
  unfold tellEngine
  repeat' split
  · exact .inl rfl
  · exact .inl rfl
  · exact abandon_da
  · exact .inl rfl

/-- A window's entry into a state keeps its configuration, and withdraws at most a copy request (R28, R135). -/
theorem walk_enterWindow {new : WinState} {halt : Option HaltCause} (cause : halt.isSome = true ↔ new = .halted) :
    Walk s (enterWindow w new halt s) where
  au := by simp
  lc := by simp
  fences := by rw [enterWindow_fu]; split <;> simp
  log := by rw [enterWindow_fu]; split <;> simp
  da := by
    unfold enterWindow
    dsimp only
    have told (v : State) (same : v.da = s.da) : (tellEngine w (s.win w).state new v).da = s.da
        ∨ (tellEngine w (s.win w).state new v).da = { s.da with cp := none, copyFloor := 0 } := by
      rw [← same]; exact tellEngine_da
    refine told _ ?_
    split <;> simp [State.setWin]
  fit fit v := by
    have entry : EntryFits ((enterWindow w new halt s).win v) := by
      rw [enterWindow_win]
      split
      · exact ⟨cause, (fit w).2⟩
      · exact fit v
    exact entry

theorem walk_toResync : Walk s (toResync w s) := by
  unfold toResync
  split <;> exact walk_enterWindow (by simp)

theorem walk_leaveActive {towardsResync : Bool} : Walk s (leaveActive towardsResync w s) := by
  unfold leaveActive
  repeat' split
  · exact walk_toResync
  · exact walk_enterWindow (by simp)
  · exact .refl s

theorem walk_markSegment {k : Nat} : Walk s (markSegment w k s) := by
  have redirtied (v : State) (h : Walk s v) : Walk s (redirty w k v) := h.trans (walk_of_only (by simp [Only.refl]))
  unfold markSegment
  dsimp only
  repeat' split
  · exact redirtied _ (.refl s)
  · exact redirtied _ (Walk.trans (t := s.setDm _) (walk_of_only (by simp [Only.refl])) (walk_setWin id))
  · exact .refl s

theorem walk_discardAll : Walk s (discardAll s) := by
  have one (t : State) (r : Record) : Walk t (discardOne t r) := by
    unfold discardOne
    split
    · rw [discardFailure_eq]
      exact Walk.trans walk_markSegment walk_leaveActive
    · exact .refl t
  rw [discardAll_eq]
  exact ((Walk.refl s).foldl one s.rq.records).trans (walk_of_only (by simp [Only.refl]))

theorem walk_endWindows : Walk s (endWindows s) := by
  refine (Walk.refl s).foldl (fun t v => ?_) _
  unfold endWindow
  split
  · exact walk_enterWindow (by simp)
  · exact .refl t

theorem walk_enable {full : Bool} : Walk s (enableState w (enableMarks full w s)) := by
  have marks : Walk s (enableMarks full w s) := by
    unfold enableMarks
    dsimp only
    split
    · exact Walk.trans (t := s.setDm _) (walk_of_only (by simp [Only.refl])) (walk_setWin id)
    · exact walk_setWin id
  refine marks.trans ?_
  unfold enableState
  repeat' split
  all_goals exact walk_enterWindow (by simp)

theorem walk_turnOff : Walk s (turnOff w s) := by
  have off : Walk s ((s.setDm (s.dm &&& ~~~(s.win w).rangeMask)).setWin w
      { s.win w with state := .off, haltCause := none, cursor := 0, dirtyCount := 0 }) :=
    Walk.trans (t := s.setDm _) (walk_of_only (by simp [Only.refl])) (walk_setWin fun fit => ⟨by simp, fit.2⟩)
  unfold turnOff
  dsimp only
  split
  · exact off.trans walk_abandon
  · exact off

theorem clearWindows_win {v : WinId} :
    (clearWindows s).win v = { s.win v with state := .off, haltCause := none, cursor := 0, dirtyCount := 0 } := by
  simp [clearWindows, State.win]

theorem walk_clear : Walk s (resetEngine (clearWindows (releaseAny s))) := by
  have released : Walk s (releaseAny s) := walk_of_only (by simp [Only.refl])
  have cleared : Walk (releaseAny s) (clearWindows (releaseAny s)) := by
    refine ⟨by simp [clearWindows], by simp [clearWindows], by simp [clearWindows], by simp [clearWindows],
      .inl (by simp [clearWindows]), fun fit v => ?_⟩
    have entry : EntryFits ((clearWindows (releaseAny s)).win v) := by
      rw [clearWindows_win]
      exact ⟨by simp, (fit v).2⟩
    exact entry
  refine (released.trans cleared).trans ?_
  unfold resetEngine
  dsimp only
  split
  · exact walk_abandon.trans (walk_of_only (by simp [Only.refl]))
  · exact walk_of_only (by simp [Only.refl])

theorem walk_clearSegment {k : Nat} : Walk s (clearSegment w k s) := by
  unfold clearSegment
  dsimp only
  split
  · exact Walk.trans (t := s.setDm _) (walk_of_only (by simp [Only.refl])) (walk_setWin id)
  · exact .refl s

theorem walk_segmentDone {g : Segment} : Walk s (segmentDone g s) := by
  have selects : Walk s (s.setRe { s.re with current := none, state := .select }) := walk_of_only (by simp [Only.refl])
  unfold segmentDone
  dsimp only
  split
  · exact selects
  · split
    · exact (selects.trans walk_clearSegment).trans (walk_enterWindow (by simp))
    · exact selects.trans walk_clearSegment

theorem walk_selectSegment : Walk s (selectSegment s) := by
  refine ⟨by simp, by simp, by simp, by simp, .inl (by simp), fun fit v => ?_⟩
  have entry : EntryFits ((selectSegment s).win v) := by
    rw [selectSegment_win]
    exact fit v
  exact entry

/-! ### The bounds (R2, R8, R105, R140, R147, R172 to R174) -/

theorem capacities_of_quiet (q : Quiet s t) (h : CapacitiesHold s) : CapacitiesHold t := by
  obtain ⟨queue, unjudged, fences, log⟩ := h
  have := q.queue
  have := q.fences
  have := q.log
  exact ⟨by omega, fun e he => (q.unjudged e he).elim (unjudged e) id, by omega, by omega⟩

theorem capacities_of_walk (walk : Walk s t) (h : CapacitiesHold s) : CapacitiesHold t := by
  unfold CapacitiesHold
  rw [walk.au, walk.fences, walk.log]
  exact h

theorem floor_of_walk (walk : Walk s t) (h : CopyFloorFits s) : CopyFloorFits t := by
  unfold CopyFloorFits at h ⊢
  rcases walk.da with same | withdrawn
  · rwa [same]
  · simp [withdrawn]

theorem unasked_of_walk (walk : Walk s t) (h : FreePortUnasked s) : FreePortUnasked t := by
  unfold FreePortUnasked at h ⊢
  rcases walk.da with same | withdrawn
  · rwa [same]
  · intro free
    rw [withdrawn] at free ⊢
    exact ⟨(h free).1, (h free).2.1, rfl⟩

/-- A grant keeps copy_floor in its bounds (R174). -/
theorem floor_grant (h : CopyFloorFits s) : CopyFloorFits (grant s) := by
  obtain same | ⟨client, x, _, _, _, given⟩ := grant_cases (s := s)
  · rwa [same]
  · obtain ⟨idle, small⟩ := h
    rw [given]
    have raised : (s.da.cp = none → s.da.floorRaised = 0) ∧ s.da.floorRaised ≤ 32 := by
      unfold Arbiter.floorRaised
      cases s.da.cp <;> simp [Config.copyFloorMax]
    cases client <;> simp [CopyFloorFits, readGranted, Arbiter.granted] <;> exact raised

theorem floor_startRead (h : CopyFloorFits s) : CopyFloorFits (startRead s) := by
  unfold startRead
  repeat' split
  · exact h
  · exact floor_grant ⟨by simp, h.2⟩
  · exact h

theorem unasked_startRead (h : FreePortUnasked s) : FreePortUnasked (startRead s) := by
  unfold startRead
  repeat' split
  · exact h
  · exact grant_unasked
  · exact h

/-- The bounds of O6 that every move keeps, whatever else holds. -/
structure Bounds (s t : State) : Prop where
  capacities : CapacitiesHold s → CapacitiesHold t
  floor : CopyFloorFits s → CopyFloorFits t
  windows : WindowsFit s → WindowsFit t
  unasked : FreePortUnasked s → FreePortUnasked t

theorem bounds_of_walk (walk : Walk s t) : Bounds s t :=
  ⟨capacities_of_walk walk, floor_of_walk walk, walk.fit, unasked_of_walk walk⟩

/-- A change that leaves the windows and the arbiter, and the lists of O6 within their bounds. -/
theorem bounds_of_lists (out : t.out = s.out) (da : t.da = s.da) (lists : CapacitiesHold s → CapacitiesHold t) :
    Bounds s t := by
  refine ⟨lists, ?_, ?_, ?_⟩
  · unfold CopyFloorFits; rw [da]; exact id
  · unfold WindowsFit; rw [out]; exact id
  · unfold FreePortUnasked; rw [da]; exact id

/-- A change of the arbiter alone, by a grant. -/
theorem bounds_ask {d : Arbiter} (h : AskGuard s.da d) : Bounds s (grant (s.setDa d)) where
  capacities := by simp [CapacitiesHold]
  floor fit := floor_grant (by simpa [CopyFloorFits, h.cp, h.floor] using fit)
  windows := by simp [WindowsFit]
  unasked _ := grant_unasked

theorem bounds_leaveUp {cause : DownCause} {peer : Option DownCause} : Bounds s (leaveUp cause peer s) :=
  bounds_of_lists (by simp) (by simp) (by simp [CapacitiesHold])

theorem Bounds.trans (h : Bounds s t) (h' : Bounds t u) : Bounds s u :=
  ⟨h'.capacities ∘ h.capacities, h'.floor ∘ h.floor, h'.windows ∘ h.windows, h'.unasked ∘ h.unasked⟩

theorem pinReset_win {pending drawn pins nodeId offer} :
    (State.pinReset pending drawn pins nodeId offer).win w = OutWindow.reset := by
  simp [State.win, State.pinReset]

theorem move_bounds (m : Move s t) : Bounds s t := by
  cases m with
  | quiet q => exact bounds_of_lists (q.only .out (by decide)) (q.only .da (by decide)) (capacities_of_quiet q)
  | link | complete | drop | hold | pass | capture | record | inbound | params =>
    exact bounds_of_lists (by simp [State.setEntry]) (by simp [State.setEntry]) (by simp [CapacitiesHold, State.setEntry])
  | leave => exact bounds_leaveUp.trans (bounds_of_walk (walk_discardAll.trans walk_endWindows))
  | ask d h => exact bounds_ask h
  | calm d h =>
    refine ⟨by simp [CapacitiesHold], fun fit => ?_, by simp [WindowsFit], fun free port => ?_⟩
    · obtain ⟨idle, small⟩ := fit
      simp only [CopyFloorFits, State.setDa_da, h.cp]
      rcases h.floor with same | zero
      · rw [same]; exact ⟨idle, small⟩
      · simp [zero]
    · simp only [State.setDa_da, h.port] at port
      obtain ⟨fg, ap, cp⟩ := free port
      simp only [State.setDa_da, h.cp]
      exact ⟨h.fg.elim (·.trans fg) id, h.ap.elim (·.trans ap) id, cp⟩
  | enter w new halt h => exact bounds_of_walk (walk_enterWindow h.cause)
  | mark towards w ks => exact bounds_of_walk (((Walk.refl s).foldl (fun _ _ => walk_markSegment) ks).trans walk_leaveActive)
  | select => exact bounds_of_walk walk_selectSegment
  | read =>
    exact ⟨by simp [CapacitiesHold], floor_startRead, by simp [WindowsFit], unasked_startRead⟩
  | segment g => exact bounds_of_walk walk_segmentDone
  | config w x off same range =>
    refine bounds_of_walk (walk_setWin fun fit => ⟨?_, range⟩)
    rw [same.1, same.2.1]
    exact fit.1
  | enable => exact bounds_of_walk walk_enable
  | disable w => exact bounds_of_walk ((walk_turnOff (w := w)).trans (walk_of_only (by simp [Only.refl])))
  | clear => exact bounds_of_walk walk_clear

theorem pinReset_bounds {pending drawn pins nodeId offer} :
    CapacitiesHold (State.pinReset pending drawn pins nodeId offer)
      ∧ CopyFloorFits (State.pinReset pending drawn pins nodeId offer)
      ∧ WindowsFit (State.pinReset pending drawn pins nodeId offer)
      ∧ FreePortUnasked (State.pinReset pending drawn pins nodeId offer) := by
  refine ⟨⟨?_, ?_, ?_, ?_⟩, ⟨fun _ => rfl, ?_⟩, fun v => ?_, fun _ => ⟨rfl, rfl, rfl⟩⟩
  · simp [State.pinReset, ApplyUnit.reset]
  · simp [State.pinReset, ApplyUnit.reset]
  · simp [State.pinReset]
  · simp [State.pinReset]
  · simp [State.pinReset]
  · have entry : EntryFits ((State.pinReset pending drawn pins nodeId offer).win v) := by
      rw [pinReset_win]
      exact ⟨by simp [OutWindow.reset], by simp [OutWindow.reset]⟩
    exact entry

theorem taken_bounds (m : CopyTaken s t) : Bounds s t := by
  cases m
  · exact bounds_of_lists rfl rfl id
  · exact bounds_of_lists rfl rfl id

theorem released_bounds : Bounds s (releasePort s) where
  capacities := by simp [CapacitiesHold]
  floor fit := floor_grant (by simpa [CopyFloorFits] using fit)
  windows := by simp [WindowsFit]
  unasked _ := grant_unasked

/-- Settles O6: every move keeps each of the four bounds. -/
theorem stepKeepsBounds : Obligations.StepKeepsBounds :=
  ⟨step_keeps' (fun _ _ => id) (fun _ _ _ _ _ => pinReset_bounds.1) (fun m => (move_bounds m).capacities)
      (fun m => (taken_bounds m).capacities) released_bounds.capacities,
    step_keeps' (fun _ _ => id) (fun _ _ _ _ _ => pinReset_bounds.2.1) (fun m => (move_bounds m).floor)
      (fun m => (taken_bounds m).floor) released_bounds.floor,
    step_keeps' (fun _ _ => id) (fun _ _ _ _ _ => pinReset_bounds.2.2.1) (fun m => (move_bounds m).windows)
      (fun m => (taken_bounds m).windows) released_bounds.windows,
    step_keeps' (fun _ _ => id) (fun _ _ _ _ _ => pinReset_bounds.2.2.2) (fun m => (move_bounds m).unasked)
      (fun m => (taken_bounds m).unasked) released_bounds.unasked⟩

end Sys2Proof.Proofs.MirrorWindows
end

section
namespace Sys2Proof.Proofs.MirrorWindows

open Sys2Proof Sys2Proof.Machine

variable {s t u : State} {w v : WinId}

/-! ### The engine at a window's entry into a state (R28, R126, R134) -/

/-- A window leaves RESYNC while the current segment is its own: the one case in which an entry abandons a segment (R134). -/
def Abandons (s : State) (w : WinId) (new : WinState) : Prop :=
  new ≠ .resync ∧ (s.win w).state = .resync ∧ s.holdsSegment w = true

theorem abandon_congr (re : t.re = s.re) (da : t.da = s.da) :
    (abandon t).re = (abandon s).re ∧ (abandon t).da = (abandon s).da := by
  unfold abandon
  rw [re]
  cases s.re.read <;> simp [withdrawCp, da]

/-- What a window's entry into a state does to the engine and the arbiter: the segment is abandoned, an IDLE engine comes to
SELECT, or nothing. -/
theorem enterWindow_engine {new : WinState} {halt : Option HaltCause} :
    (Abandons s w new ∧ (enterWindow w new halt s).re = (abandon s).re ∧ (enterWindow w new halt s).da = (abandon s).da)
      ∨ (¬Abandons s w new ∧ (enterWindow w new halt s).da = s.da
        ∧ ((enterWindow w new halt s).re = s.re
          ∨ (s.re.state = .idle ∧ (enterWindow w new halt s).re = { s.re with state := .select }))) := by
  unfold enterWindow tellEngine
  dsimp only
  generalize entered : (if new.behind = true then _ else _ : State) = a
  have re : a.re = s.re := by rw [← entered]; split <;> simp
  have da : a.da = s.da := by rw [← entered]; split <;> simp [State.setWin]
  by_cases towards : new = .resync
  · rw [if_pos towards]
    refine .inr ⟨fun h => h.1 towards, ?_⟩
    split
    next idle => exact ⟨by simpa using da, .inr ⟨re ▸ idle, by simp [re]⟩⟩
    next => exact ⟨da, .inl re⟩
  · rw [if_neg towards, re]
    split
    next leaves => exact .inl ⟨⟨towards, leaves⟩, abandon_congr re da⟩
    next stays => exact .inr ⟨fun h => stays h.2, da, .inl re⟩

theorem state_of_out (h : t.out = s.out) (v : WinId) : (t.win v).state = (s.win v).state := by rw [win_of_out h]

theorem holdsSegment_iff : s.holdsSegment w = true ↔ ∃ g, s.re.current = some g ∧ g.window = w := by
  simp [State.holdsSegment, Option.any_eq_true]

/-- The current segment belongs to a window in RESYNC (R17). -/
def SegmentResyncs (s : State) : Prop := ∀ g, s.re.current = some g → (s.win g.window).state = .resync

theorem segmentResyncs_of_none (h : s.re.current = none) : SegmentResyncs s := by
  intro g held
  rw [h] at held
  cases held

theorem segmentResyncs_congr (re : t.re.current = s.re.current) (states : ∀ v, (t.win v).state = (s.win v).state)
    (h : SegmentResyncs s) : SegmentResyncs t := by
  intro g held
  rw [states]
  exact h g (re ▸ held)

/-- Whatever window enters whatever state, the current segment stays with a window in RESYNC (R17, R134). -/
theorem segmentResyncs_enterWindow {new : WinState} {halt : Option HaltCause} (h : SegmentResyncs s) :
    SegmentResyncs (enterWindow w new halt s) := by
  rcases enterWindow_engine (s := s) (w := w) (new := new) (halt := halt) with ⟨_, re, _⟩ | ⟨stays, _, re⟩
  · exact segmentResyncs_of_none (by rw [re]; exact abandon_current.1)
  · intro g held
    have before : s.re.current = some g := by
      rcases re with re | ⟨_, re⟩ <;> simpa [re] using held
    rw [enterWindow_win]
    split
    next own =>
      by_contra not
      exact stays ⟨not, own ▸ h g before, holdsSegment_iff.2 ⟨g, before, own⟩⟩
    next => exact h g before

theorem segmentResyncs_foldl {α : Type} {f : State → α → State} (each : ∀ t a, SegmentResyncs t → SegmentResyncs (f t a))
    (l : List α) (h : SegmentResyncs s) : SegmentResyncs (l.foldl f s) :=
  List.foldlRecOn l f (motive := SegmentResyncs) h fun t kept a _ => each t a kept

theorem redirty_window {k : Nat} {g : Segment} (h : (redirty w k s).re.current = some g) :
    ∃ g', s.re.current = some g' ∧ g'.window = g.window := by
  unfold redirty at h
  split at h
  next none => simp [none] at h
  next g' held =>
    split at h
    · simp only [State.setRe_re, Option.some.injEq] at h
      exact ⟨g', held, by rw [← h]⟩
    · exact ⟨g, h, rfl⟩

theorem markSegment_state {k : Nat} : ((markSegment w k s).win v).state = (s.win v).state := by
  rw [markSegment_win]
  split
  next h => rw [h.1]
  next => rfl

theorem segmentResyncs_markSegment {k : Nat} (h : SegmentResyncs s) : SegmentResyncs (markSegment w k s) := by
  intro g held
  rw [markSegment_state]
  unfold markSegment at held
  dsimp only at held
  repeat' split at held
  · obtain ⟨g', before, same⟩ := redirty_window held
    exact same ▸ h g' before
  · obtain ⟨g', before, same⟩ := redirty_window held
    exact same ▸ h g' before
  · exact h g held

theorem segmentResyncs_leaveActive {towards : Bool} (h : SegmentResyncs s) : SegmentResyncs (leaveActive towards w s) := by
  unfold leaveActive toResync
  repeat' split
  all_goals first | exact segmentResyncs_enterWindow h | exact h

theorem segmentResyncs_discardAll (h : SegmentResyncs s) : SegmentResyncs (discardAll s) := by
  rw [discardAll_eq]
  refine segmentResyncs_congr (s := s.rq.records.foldl discardOne s) rfl (fun _ => rfl) (segmentResyncs_foldl ?_ _ h)
  intro t r ht
  unfold discardOne
  split
  · rw [discardFailure_eq]
    exact segmentResyncs_leaveActive (segmentResyncs_markSegment ht)
  · exact ht

theorem segmentResyncs_endWindows (h : SegmentResyncs s) : SegmentResyncs (endWindows s) := by
  refine segmentResyncs_foldl (fun t w ht => ?_) _ h
  unfold endWindow
  split
  · exact segmentResyncs_enterWindow ht
  · exact ht

theorem grant_current : (grant s).re.current = s.re.current := by
  rcases grant_re (s := s) with same | same <;> rw [same]

theorem startRead_current : (startRead s).re.current = s.re.current := by
  unfold startRead presentCp
  repeat' split
  · rfl
  · rw [grant_current]; rfl
  · rfl

theorem selectSegment_state : ((selectSegment s).win v).state = (s.win v).state := by rw [selectSegment_win]

theorem segmentResyncs_selectSegment (h : SegmentResyncs s) : SegmentResyncs (selectSegment s) := by
  intro g held
  rw [selectSegment_state]
  unfold selectSegment at held
  repeat' split at held
  · exact h g held
  · exact h g held
  next served _ _ _ =>
    simp only [takeSegment, State.setRe_re, Option.some.injEq] at held
    rw [← held]
    exact nextWindow_resync served
  all_goals exact h g held

/-! ### Outside UP (R39, R53, R65, R66) -/

/-- The law of `QuietWhileDown` but for the engine's part. -/
def NothingMirrored (s : State) : Prop := s.rq.records = [] ∧ ∀ w, (s.win w).state.mirrored = false

theorem mirrored_false_iff {x : WinState} : x.mirrored = false ↔ x ≠ .active ∧ x ≠ .resync := by
  cases x <;> simp [WinState.mirrored]

theorem quietWhileDown_iff : QuietWhileDown s ↔ (s.lc.state ≠ .up → NothingMirrored s) ∧ SegmentResyncs s := by
  unfold QuietWhileDown NothingMirrored SegmentResyncs
  simp only [mirrored_false_iff]
  exact Iff.rfl

theorem down_of_eq (lc : t.lc = s.lc) (records : t.rq.records = s.rq.records)
    (states : ∀ v, (t.win v).state = (s.win v).state) (h : s.lc.state ≠ .up → NothingMirrored s) :
    t.lc.state ≠ .up → NothingMirrored t := by
  intro down
  obtain ⟨none, off⟩ := h (lc ▸ down)
  exact ⟨records.trans none, fun v => by rw [states]; exact off v⟩

/-- A change of blocks that the law does not look at. -/
theorem quietDown_of_eq (lc : t.lc = s.lc) (records : t.rq.records = s.rq.records)
    (states : ∀ v, (t.win v).state = (s.win v).state) (current : t.re.current = s.re.current) (h : QuietWhileDown s) :
    QuietWhileDown t := by
  rw [quietWhileDown_iff] at h ⊢
  exact ⟨down_of_eq lc records states h.1, segmentResyncs_congr current states h.2⟩

/-- The law while the link is UP is that of the engine alone. -/
theorem quietDown_of_up (up : t.lc.state = .up) (h : SegmentResyncs t) : QuietWhileDown t :=
  quietWhileDown_iff.2 ⟨fun down => absurd up down, h⟩

theorem session_of_mirrored (h : QuietWhileDown s) (mirrored : (s.win w).state.mirrored = true) : s.lc.state = .up := by
  by_contra down
  have := ((quietWhileDown_iff.1 h).1 down).2 w
  simp [mirrored] at this

theorem captureState_mirrored {c : Capture} (h : (s.captureState c).mirrored = true) :
    (s.win c.window).state.mirrored = true := by
  unfold State.captureState at h
  split at h
  · cases h
  · exact h

theorem quietDown_enterWindow {new : WinState} {halt : Option HaltCause}
    (session : new.mirrored = true → s.lc.state = .up ∨ (s.win w).state.mirrored = true) (h : QuietWhileDown s) :
    QuietWhileDown (enterWindow w new halt s) := by
  refine quietWhileDown_iff.2 ⟨fun down => ?_, segmentResyncs_enterWindow (quietWhileDown_iff.1 h).2⟩
  have down' : s.lc.state ≠ .up := by simpa using down
  obtain ⟨none, off⟩ := (quietWhileDown_iff.1 h).1 down'
  refine ⟨by simpa using none, fun v => ?_⟩
  rw [enterWindow_win]
  split
  · by_contra mirrored
    rcases session (by simpa using mirrored) with up | before
    · exact down' up
    · simp [off] at before
  · exact off v

theorem quietDown_mark {towards : Bool} {ks : List Nat} (h : QuietWhileDown s) :
    QuietWhileDown (leaveActive towards w (markAll w ks s)) := by
  have marked : QuietWhileDown (markAll w ks s) := by
    refine List.foldlRecOn ks _ (motive := QuietWhileDown) h fun t ht k _ => ?_
    rw [quietWhileDown_iff] at ht ⊢
    exact ⟨down_of_eq (by simp) (by simp) (fun v => markSegment_state) ht.1, segmentResyncs_markSegment ht.2⟩
  generalize markAll w ks s = m at marked
  unfold leaveActive toResync
  split
  next active =>
    have mirrored : (m.win w).state.mirrored = true := by simp [active, WinState.mirrored]
    repeat' split
    all_goals exact quietDown_enterWindow (fun _ => .inr mirrored) marked
  next => exact marked

theorem quietDown_enable {full : Bool} (h : QuietWhileDown s) :
    QuietWhileDown (enableState w (enableMarks full w s)) := by
  have marks : QuietWhileDown (enableMarks full w s) := by
    refine quietDown_of_eq (by simp [enableMarks]; split <;> rfl) (by simp [enableMarks]; split <;> rfl) (fun v => ?_)
      (by simp [enableMarks]; split <;> rfl) h
    unfold enableMarks
    dsimp only
    split <;> rw [win_setWin] <;> split <;> rename_i own
    all_goals first | rw [own] | rfl
  generalize enableMarks full w s = m at marks
  unfold enableState
  split
  next up =>
    split <;> exact quietDown_enterWindow (fun _ => .inl (isUp_iff.1 up)) marks
  next => exact quietDown_enterWindow (by simp [WinState.mirrored]) marks

theorem turnOff_win : (turnOff w s).win v
    = if v = w then { s.win w with state := .off, haltCause := none, cursor := 0, dirtyCount := 0 } else s.win v := by
  unfold turnOff
  dsimp only
  split
  · exact (win_of_out abandon_out).trans (win_setWin _)
  · exact win_setWin _

/-- The window's own segment is abandoned, and that of another window stays (R11). -/
theorem turnOff_segment : (turnOff w s).re.current = none ∨ ((turnOff w s).re = s.re ∧ ¬s.holdsSegment w = true) := by
  unfold turnOff
  dsimp only
  split
  next => exact .inl abandon_current.1
  next other => exact .inr ⟨rfl, other⟩

theorem segmentResyncs_turnOff (h : SegmentResyncs s) : SegmentResyncs (turnOff w s) := by
  rcases turnOff_segment (s := s) (w := w) with none | ⟨re, other⟩
  · exact segmentResyncs_of_none none
  · intro g current
    rw [re] at current
    have apart : g.window ≠ w := fun own => other (holdsSegment_iff.2 ⟨g, current, own⟩)
    rw [turnOff_win, if_neg apart]
    exact h g current

theorem quietDown_turnOff (h : QuietWhileDown s) : QuietWhileDown (turnOff w s) := by
  have frame : Only [.out, .da, .dm, .re] s (turnOff w s) := by simp [Only.refl]
  rw [quietWhileDown_iff] at h ⊢
  refine ⟨fun down => ?_, segmentResyncs_turnOff h.2⟩
  rw [frame .lc (by decide)] at down
  obtain ⟨none, off⟩ := h.1 down
  refine ⟨by rw [frame .rq (by decide)]; exact none, fun v => ?_⟩
  rw [turnOff_win]
  split
  · rfl
  · exact off v

theorem resetEngine_current : (resetEngine s).re.current = none := by
  unfold resetEngine
  dsimp only
  split
  next => simpa using abandon_current.1
  next held => simpa using held

theorem move_quietDown (m : Move s t) (h : QuietWhileDown s) : QuietWhileDown t := by
  cases m with
  | quiet q =>
    rw [quietWhileDown_iff] at h ⊢
    have out := q.only .out (by decide)
    refine ⟨fun down => ?_, segmentResyncs_congr (by rw [q.only .re (by decide)]) (state_of_out out) h.2⟩
    rw [q.only .lc (by decide)] at down
    obtain ⟨none, off⟩ := h.1 down
    refine ⟨List.eq_nil_iff_forall_not_mem.2 fun r there => ?_, fun v => by rw [win_of_out out]; exact off v⟩
    obtain ⟨q', before, _⟩ := q.records r there
    simp [none] at before
  | link x guard =>
    rw [quietWhileDown_iff] at h ⊢
    exact ⟨fun down => h.1 (guard down).1, h.2⟩
  | leave cause peer =>
    have left : SegmentResyncs (leaveUp cause peer s) :=
      segmentResyncs_congr (by simp) (state_of_out (by simp)) (quietWhileDown_iff.1 h).2
    refine quietWhileDown_iff.2 ⟨fun _ => ⟨by simp, fun v => ?_⟩, segmentResyncs_endWindows (segmentResyncs_discardAll left)⟩
    rw [endWindows_win]
    split
    next => rfl
    next not => simpa using not
  | ask d => exact quietDown_of_eq (by simp) (by simp) (state_of_out (by simp)) (by rw [grant_current]; rfl) h
  | calm | complete | drop | hold | pass | capture | inbound | params => exact quietDown_of_eq rfl rfl (fun _ => rfl) rfl h
  | enter w new halt guard => exact quietDown_enterWindow guard.session h
  | mark => exact quietDown_mark h
  | select =>
    rw [quietWhileDown_iff] at h ⊢
    exact ⟨down_of_eq (by simp) (by simp) (fun v => selectSegment_state) h.1, segmentResyncs_selectSegment h.2⟩
  | read => exact quietDown_of_eq (by simp) (by simp) (state_of_out (by simp)) startRead_current h
  | segment g up =>
    have selects : SegmentResyncs (s.setRe { s.re with current := none, state := .select }) := segmentResyncs_of_none rfl
    have cleared : SegmentResyncs (clearSegment g.window g.index (s.setRe { s.re with current := none, state := .select })) :=
      segmentResyncs_of_none (by simp)
    unfold segmentDone
    dsimp only
    repeat' split
    · exact quietDown_of_up up selects
    · exact quietDown_of_up (by simpa using up) (segmentResyncs_enterWindow cleared)
    · exact quietDown_of_up (by simpa using up) cleared
  | record c r held mirrored =>
    have up := session_of_mirrored h (captureState_mirrored mirrored)
    exact quietDown_of_up (by simpa using up) (segmentResyncs_congr (by simp) (state_of_out (by simp))
      (quietWhileDown_iff.1 h).2)
  | config w x off same =>
    refine quietDown_of_eq (s := s) rfl rfl (fun v => ?_) rfl h
    rw [win_setWin]
    split
    next own => rw [same.1, own]
    next => rfl
  | enable full w => exact quietDown_enable h
  | disable w =>
    have frame : Only [.mp] (turnOff w s) (releaseCapture w (turnOff w s)) := by simp [Only.refl]
    exact quietDown_of_eq (frame .lc (by decide)) (by rw [frame .rq (by decide)]) (state_of_out (frame .out (by decide)))
      (by rw [frame .re (by decide)]) (quietDown_turnOff h)
  | clear =>
    have frame : Only [.da, .re] (clearWindows (releaseAny s)) (resetEngine (clearWindows (releaseAny s))) := by
      simp [Only.refl]
    have released : Only [.mp] s (releaseAny s) := by simp [Only.refl]
    refine quietWhileDown_iff.2 ⟨fun down => ⟨?_, fun v => ?_⟩, segmentResyncs_of_none resetEngine_current⟩
    · rw [walk_clear.lc] at down
      rw [frame .rq (by decide)]
      have records : (clearWindows (releaseAny s)).rq = s.rq := released .rq (by decide)
      rw [records]
      exact ((quietWhileDown_iff.1 h).1 down).1
    · rw [win_of_out (frame .out (by decide)), clearWindows_win]
      rfl

theorem pinReset_quietDown {pending drawn pins nodeId offer} :
    QuietWhileDown (State.pinReset pending drawn pins nodeId offer) := by
  refine quietWhileDown_iff.2 ⟨fun _ => ⟨rfl, fun v => ?_⟩, segmentResyncs_of_none rfl⟩
  rw [pinReset_win]
  rfl

theorem taken_quietDown (m : CopyTaken s t) (h : QuietWhileDown s) : QuietWhileDown t := by
  cases m with
  | ended => exact quietDown_of_eq rfl rfl (fun _ => rfl) rfl h
  | copied g bytes held =>
    have resync := (quietWhileDown_iff.1 h).2 g held
    have up := session_of_mirrored h (w := g.window) (by simp [resync, WinState.mirrored])
    refine quietDown_of_up (by simpa [copyOk, endRead] using up) fun g' held' => ?_
    simp only [copyOk, State.setRe_re, Option.some.injEq] at held'
    rw [← held']
    exact resync

theorem released_quietDown (h : QuietWhileDown s) : QuietWhileDown (releasePort s) :=
  quietDown_of_eq (by simp) (by simp) (state_of_out (by simp))
    (by unfold releasePort; rw [grant_current]; rfl) h

/-! ### The epoch and the session's timers (R53, R65, R66) -/

theorem epoch_of_eq (lc : t.lc = s.lc) (h : EpochFollowsLink s) : EpochFollowsLink t := by
  unfold EpochFollowsLink
  rw [lc]
  exact h

theorem move_epoch (m : Move s t) (h : EpochFollowsLink s) : EpochFollowsLink t := by
  cases m with
  | quiet q => exact epoch_of_eq (q.only .lc (by decide)) h
  | link x guard =>
    intro down
    obtain ⟨before, epoch, liveness, keepalive⟩ := guard down
    obtain ⟨zero, alive, kept⟩ := h before
    exact ⟨epoch.trans zero, liveness.elim (·.trans alive) id, keepalive.elim (·.trans kept) id⟩
  | leave cause peer =>
    intro _
    simp only [endWindows_lc, discardAll_lc, leaveUp_lc, and_self]
  | segment g => exact epoch_of_eq walk_segmentDone.lc h
  | enable full w => exact epoch_of_eq (walk_enable (w := w)).lc h
  | clear => exact epoch_of_eq walk_clear.lc h
  | disable w =>
    have frame : Only [.mp] (turnOff w s) (releaseCapture w (turnOff w s)) := by simp [Only.refl]
    exact epoch_of_eq ((frame .lc (by decide)).trans walk_turnOff.lc) h
  | mark towards w ks =>
    exact epoch_of_eq (((Walk.refl s).foldl (fun _ _ => walk_markSegment) ks).trans walk_leaveActive).lc h
  | ask | calm | complete | drop | hold | pass | capture | enter | select | read | record | config | inbound | params =>
    exact epoch_of_eq (by simp [State.setEntry]) h

theorem taken_epoch (m : CopyTaken s t) (h : EpochFollowsLink s) : EpochFollowsLink t := by
  cases m <;> exact epoch_of_eq (by simp [copyOk, endRead]) h

/-- Settles O7: every move keeps both laws. -/
theorem stepKeepsDownState : Obligations.StepKeepsDownState :=
  ⟨step_keeps' (fun _ _ => id) (fun _ _ _ _ _ _ => ⟨rfl, rfl, rfl⟩) move_epoch taken_epoch (epoch_of_eq (by simp)),
    step_keeps' (fun _ _ => id) (fun _ _ _ _ _ => pinReset_quietDown) move_quietDown taken_quietDown released_quietDown⟩

end Sys2Proof.Proofs.MirrorWindows
end

section
/-! PROOF. The family 01_mirror_windows, part 3: the dirty map of O9. -/

namespace Sys2Proof.Proofs.MirrorWindows

open Sys2Proof Sys2Proof.Machine

variable {s t u : State} {w v : WinId}

/-! ### The engine and the arbiter (R125, R128, R135)

`held` says that the access of a completed copy read is still on the port: between the engine's taking of the result and
the next grant. -/

/-- The law of `EngineFits` and the part of `SegmentsFit` that concerns the read. -/
structure EngineLaw (held : Bool) (s : State) : Prop where
  reserved : s.re.reservation = true ↔ s.re.read ≠ .absent
  requested : s.re.read = .requested → s.re.current.isSome = true
  draining : s.re.state = .draining → s.re.read = .absent
  asked : s.da.cp.isSome = true ↔ s.re.read = .requested
  port : (∃ x, s.da.port = some ⟨.cp, x⟩) ↔ held = true ∨ s.re.read = .granted
  ended : held = true → s.re.read ≠ .granted
  dropped : s.re.read = .granted → s.re.current = none → s.re.readDropped = true

variable {held : Bool}

theorem engineFits_iff : EngineLaw false s ↔ EngineFits s ∧ (s.re.read = .granted → s.re.current = none →
    s.re.readDropped = true) := by
  constructor
  · rintro ⟨reserved, requested, draining, asked, port, _, dropped⟩
    exact ⟨⟨reserved, requested, draining, asked, by simpa using port⟩, dropped⟩
  · rintro ⟨⟨reserved, requested, draining, asked, port⟩, dropped⟩
    exact ⟨reserved, requested, draining, asked, by simpa using port, by simp, dropped⟩

theorem EngineLaw.congr (h : EngineLaw held s) (re : t.re = s.re) (port : t.da.port = s.da.port)
    (cp : t.da.cp = s.da.cp) : EngineLaw held t := by
  obtain ⟨reserved, requested, draining, asked, owner, ended, dropped⟩ := h
  constructor <;> simp only [re, port, cp] <;> assumption

/-- A change of the engine that touches neither its read nor whether it has a segment, and does not take it to DRAINING. -/
theorem EngineLaw.setRe {x : ResyncEngine} (h : EngineLaw held s) (read : x.read = s.re.read)
    (reservation : x.reservation = s.re.reservation) (dropped : x.readDropped = s.re.readDropped)
    (current : x.current.isSome = s.re.current.isSome) (state : x.state ≠ .draining ∨ x.state = s.re.state) :
    EngineLaw held (s.setRe x) where
  reserved := by simpa [read, reservation] using h.reserved
  requested := by simpa [read, current] using h.requested
  draining drains := by
    simp only [State.setRe_re] at drains ⊢
    rw [read]
    exact state.elim (absurd drains) fun same => h.draining (same ▸ drains)
  asked := by simpa [read] using h.asked
  port := by simpa [read] using h.port
  ended := by simpa [read] using h.ended
  dropped granted none := by
    simp only [State.setRe_re] at granted none ⊢
    rw [dropped]
    refine h.dropped (read ▸ granted) ?_
    rw [none] at current
    simpa using current.symm

/-- Abandoning the current segment withdraws a requested read and drops the result of a granted one (R135). -/
theorem EngineLaw.abandon (h : EngineLaw held s) : EngineLaw held (abandon s) := by
  obtain ⟨reserved, requested, draining, asked, port, ended, dropped⟩ := h
  unfold Machine.abandon
  cases read : s.re.read <;> rw [read] at reserved asked port ended
  · constructor <;> simp_all
  · constructor <;> simp_all [withdrawCp]
  · constructor <;> simp_all

/-- A grant to the copy client makes its requested read a granted one (R125). -/
theorem EngineLaw.grant (h : EngineLaw held s) : EngineLaw held (grant s) := by
  obtain same | ⟨client, x, free, _, asks, given⟩ := grant_cases (s := s)
  · rwa [same]
  · obtain ⟨reserved, requested, draining, asked, port, ended, dropped⟩ := h
    rw [free] at port
    have idle : held = false ∧ s.re.read ≠ .granted := by simpa using port
    rw [given]
    cases client with
    | fg | ap =>
      constructor <;> simp_all [readGranted, Arbiter.granted]
    | cp =>
      have waits : s.re.read = .requested := asked.1 (by simp_all [Arbiter.request])
      constructor <;> simp_all [readGranted, Arbiter.granted]
      intro none
      simp [none] at requested

theorem EngineLaw.ask {d : Arbiter} (h : EngineLaw held s) (g : AskGuard s.da d) : EngineLaw held (Machine.grant (s.setDa d)) := by
  refine EngineLaw.grant ?_
  rcases g.port with same | ⟨free, owner⟩
  · exact h.congr rfl same g.cp
  · have idle : ¬(held = true ∨ s.re.read = .granted) := fun busy => (h.port.2 busy).elim owner
    obtain ⟨reserved, requested, draining, asked, port, ended, dropped⟩ := h
    exact ⟨reserved, requested, draining, by simpa [g.cp] using asked, by simpa [free] using idle, ended, dropped⟩

/-- The engine starts a read only where none is outstanding (R128). -/
theorem EngineLaw.startRead (h : EngineLaw held s) : EngineLaw held (startRead s) := by
  unfold Machine.startRead
  split
  next => exact h
  next g current =>
    split
    next may =>
      simp only [State.mayRead, Bool.and_eq_true, decide_eq_true_eq] at may
      obtain ⟨⟨⟨⟨copying, absent⟩, _⟩, _⟩, _⟩ := may
      refine EngineLaw.grant ?_
      obtain ⟨reserved, requested, draining, asked, port, ended, dropped⟩ := h
      constructor <;> simp_all
    next => exact h

theorem EngineLaw.releasePort (h : EngineLaw true s) : EngineLaw false (releasePort s) := by
  refine EngineLaw.grant ?_
  obtain ⟨reserved, requested, draining, asked, port, ended, dropped⟩ := h
  constructor <;> simp_all

/-- The read is over and its access is still on the port (R130, R131, R136). -/
theorem EngineLaw.endRead (h : EngineLaw false s) (owner : s.portClient = some .cp) : EngineLaw true (endRead s) := by
  obtain ⟨reserved, requested, draining, asked, port, ended, dropped⟩ := h
  have busy : ∃ x, s.da.port = some ⟨.cp, x⟩ := by
    unfold State.portClient at owner
    obtain ⟨⟨client, x⟩, there, rfl⟩ := Option.map_eq_some_iff.1 owner
    exact ⟨x, there⟩
  have granted := port.1 busy
  unfold Machine.endRead
  constructor <;> simp_all

theorem EngineLaw.enterWindow {new : WinState} {halt : Option HaltCause} (h : EngineLaw held s) :
    EngineLaw held (enterWindow w new halt s) := by
  rcases enterWindow_engine (s := s) (w := w) (new := new) (halt := halt) with ⟨_, re, da⟩ | ⟨_, da, re⟩
  · exact h.abandon.congr re (by rw [da]) (by rw [da])
  · rcases re with re | ⟨_, re⟩
    · exact h.congr re (by rw [da]) (by rw [da])
    · have wakes : EngineLaw held (s.setRe { s.re with state := .select }) := h.setRe rfl rfl rfl rfl (by simp)
      exact wakes.congr re (by rw [da]; rfl) (by rw [da]; rfl)

theorem EngineLaw.redirty {k : Nat} (h : EngineLaw held s) : EngineLaw held (redirty w k s) := by
  unfold Machine.redirty
  split
  next => exact h
  next g current =>
    split
    · exact h.setRe rfl rfl rfl (by simp [current]) (.inr rfl)
    · exact h

theorem EngineLaw.markSegment {k : Nat} (h : EngineLaw held s) : EngineLaw held (markSegment w k s) := by
  unfold Machine.markSegment
  dsimp only
  repeat' split
  · exact h.redirty
  · exact EngineLaw.redirty (h.congr rfl rfl rfl)
  · exact h

theorem EngineLaw.resetEngine (h : EngineLaw held s) : EngineLaw held (resetEngine s) := by
  unfold Machine.resetEngine
  dsimp only
  split
  · exact h.abandon.setRe rfl rfl rfl rfl (by simp)
  · exact h.setRe rfl rfl rfl rfl (by simp)

theorem EngineLaw.selectSegment (h : EngineLaw held s) : EngineLaw held (selectSegment s) := by
  unfold Machine.selectSegment
  repeat' split
  · exact h.setRe rfl rfl rfl rfl (by simp)
  · exact h.setRe rfl rfl rfl rfl (by simp)
  · obtain ⟨reserved, requested, draining, asked, port, ended, dropped⟩ := h
    constructor <;> simp_all [takeSegment, State.setWin]
  all_goals exact h

/-- A DRAINING engine leaves its segment with no read outstanding (R132). -/
theorem EngineLaw.leaveSegment (h : EngineLaw held s) (drains : s.re.state = .draining) :
    EngineLaw held (s.setRe { s.re with current := none, state := .select }) := by
  obtain ⟨reserved, requested, draining, asked, port, ended, dropped⟩ := h
  constructor <;> simp_all

/-! ### Window ranges (R2, R7) -/

/-- A dirty-map position lies in a window's map range (R2). -/
def OutWindow.Covers (x : OutWindow) (p : Nat) : Prop := x.mapOffset ≤ p ∧ p < x.mapOffset + x.length

theorem covers_iff {x : OutWindow} {p : Nat} : OutWindow.Covers x p ↔ ∃ k < x.length, x.position k = p := by
  constructor
  · rintro ⟨low, high⟩
    exact ⟨p - x.mapOffset, by omega, by simp [OutWindow.position]; omega⟩
  · rintro ⟨k, inside, rfl⟩
    simp only [OutWindow.position]
    exact ⟨by omega, by omega⟩

theorem rangeMask_getLsbD {x : OutWindow} {p : Nat} :
    x.rangeMask.getLsbD p = true ↔ p < 4096 ∧ OutWindow.Covers x p := by
  unfold OutWindow.rangeMask OutWindow.Covers
  rw [BitVec.getLsbD_shiftLeft, BitVec.getLsbD_ofNat, Nat.testBit_two_pow_sub_one]
  simp only [Bool.and_eq_true, Bool.not_eq_true', decide_eq_true_eq, decide_eq_false_iff_not]
  omega

/-- A configured range lies within the map (R8), so the mask is the range. -/
theorem rangeMask_covers {x : OutWindow} {p : Nat} (fit : x.mapOffset + x.length ≤ 4096) :
    x.rangeMask.getLsbD p = true ↔ OutWindow.Covers x p := by
  rw [rangeMask_getLsbD]
  exact and_iff_right_of_imp fun covers => covers.2.trans_le fit

/-- The two tables are configured as before (R2, R4). -/
structure SameConfig (s t : State) : Prop where
  base : ∀ v, (t.win v).base = (s.win v).base
  length : ∀ v, (t.win v).length = (s.win v).length
  offset : ∀ v, (t.win v).mapOffset = (s.win v).mapOffset
  size : t.params.segmentSize = s.params.segmentSize
  inb : t.inb = s.inb

/-- What a transition of windows among enabled states, or into OFF, leaves. -/
structure Shape (s t : State) : Prop extends SameConfig s t where
  enabled : ∀ v, (t.win v).state ≠ .off → (s.win v).state ≠ .off

theorem SameConfig.trans (h : SameConfig s t) (h' : SameConfig t u) : SameConfig s u where
  base v := (h'.base v).trans (h.base v)
  length v := (h'.length v).trans (h.length v)
  offset v := (h'.offset v).trans (h.offset v)
  size := h'.size.trans h.size
  inb := h'.inb.trans h.inb

theorem Shape.trans (h : Shape s t) (h' : Shape t u) : Shape s u :=
  ⟨h.toSameConfig.trans h'.toSameConfig, fun v => h.enabled v ∘ h'.enabled v⟩

theorem shape_of_out (out : t.out = s.out) (size : t.params.segmentSize = s.params.segmentSize) (inb : t.inb = s.inb) :
    Shape s t := by
  refine ⟨⟨?_, ?_, ?_, size, inb⟩, ?_⟩ <;> intro v <;> rw [win_of_out out]
  exact id

theorem SameConfig.segBytes (h : SameConfig s t) : t.segBytes = s.segBytes := by rw [State.segBytes, h.size, State.segBytes]

theorem apart_of_shape (h : Shape s t) (apart : WindowsApart s) : WindowsApart t := by
  have base (v : WinId) : t.out[v].base = s.out[v].base := h.base v
  have length (v : WinId) : t.out[v].length = s.out[v].length := h.length v
  have offset (v : WinId) : t.out[v].mapOffset = s.out[v].mapOffset := h.offset v
  have enabled (v : WinId) : t.out[v].state ≠ .off → s.out[v].state ≠ .off := h.enabled v
  constructor
  · intro v on
    simp only [State.outboundClear, base, length, offset, h.segBytes, h.inb]
    obtain ⟨others, inbound⟩ := apart.1 v (enabled v on)
    exact ⟨fun v' other on' => others v' other (enabled v' on'), inbound⟩
  · intro i on
    simp only [State.inboundClear, base, length, h.segBytes, h.inb]
    obtain ⟨outbound, others⟩ := apart.2 i (h.inb ▸ on)
    exact ⟨fun v' on' => outbound v' (enabled v' on'), others⟩

/-- The map ranges of two enabled windows share no position (R7). -/
theorem covers_apart (apart : WindowsApart s) (on : (s.win w).state ≠ .off) (on' : (s.win v).state ≠ .off) (other : v ≠ w)
    {p : Nat} (covers : OutWindow.Covers (s.win w) p) : ¬OutWindow.Covers (s.win v) p := by
  intro covers'
  exact ((apart.1 w on).1 v other on').2 p ⟨covers.1, covers.2, covers'.1, covers'.2⟩

/-! ### Counting marks (R121) -/

/-- Two predicates that differ at one place of a range, which the second has and the first has not, count one apart. -/
theorem countP_range_insert {n k : Nat} {f g : Nat → Bool} (inside : k < n) (clear : f k = false) (set : g k = true)
    (same : ∀ j, j ≠ k → g j = f j) : (List.range n).countP g = (List.range n).countP f + 1 := by
  induction n with
  | zero => omega
  | succ n ih =>
    simp only [List.range_succ, List.countP_append, List.countP_singleton]
    by_cases last : k = n
    · subst last
      have below : (List.range k).countP g = (List.range k).countP f :=
        List.countP_congr fun j hj => by rw [same j (List.mem_range.1 hj).ne]
      simp [below, clear, set]
    · rw [ih (by omega), same n (Ne.symm last)]
      omega

theorem marksIn_eq : s.marksIn w = (List.range (s.win w).length).countP fun k => s.dm.getLsbD ((s.win w).position k) := rfl

theorem marksIn_congr (length : (t.win w).length = (s.win w).length) (offset : (t.win w).mapOffset = (s.win w).mapOffset)
    (dm : ∀ p, OutWindow.Covers (s.win w) p → t.dm.getLsbD p = s.dm.getLsbD p) : t.marksIn w = s.marksIn w := by
  rw [marksIn_eq, marksIn_eq, length]
  refine List.countP_congr fun k hk => ?_
  have place : (t.win w).position k = (s.win w).position k := by simp [OutWindow.position, offset]
  rw [place, dm _ (covers_iff.2 ⟨k, List.mem_range.1 hk, rfl⟩)]

/-- One mark more in a window's range, at the position of segment `k`. -/
theorem marksIn_insert {k : Nat} (length : (t.win w).length = (s.win w).length)
    (offset : (t.win w).mapOffset = (s.win w).mapOffset) (inside : k < (s.win w).length)
    (clear : s.dm.getLsbD ((s.win w).position k) = false) (set : t.dm.getLsbD ((s.win w).position k) = true)
    (same : ∀ p, p ≠ (s.win w).position k → t.dm.getLsbD p = s.dm.getLsbD p) : t.marksIn w = s.marksIn w + 1 := by
  have place (j : Nat) : (t.win w).position j = (s.win w).position j := by simp [OutWindow.position, offset]
  rw [marksIn_eq, marksIn_eq, length]
  refine countP_range_insert inside clear (by rwa [place]) fun j other => ?_
  rw [place, same]
  simp only [OutWindow.position]
  omega

/-! ### The marks and the windows (R17, R121, R124) -/

/-- dirty_count is the number of marks, and every mark belongs to an enabled window. -/
def MarksFit (s : State) : Prop :=
  (∀ w, (s.win w).dirtyCount = if (s.win w).state = .off then 0 else s.marksIn w)
    ∧ ∀ p, s.dm.getLsbD p = true → ∃ w, (s.win w).state ≠ .off ∧ OutWindow.Covers (s.win w) p

/-- Nothing that counts marks has changed. -/
theorem MarksFit.congr (h : MarksFit s) (dm : t.dm = s.dm) (off : ∀ v, (t.win v).state = .off ↔ (s.win v).state = .off)
    (count : ∀ v, (t.win v).dirtyCount = (s.win v).dirtyCount)
    (range : ∀ v, (s.win v).state ≠ .off →
      (t.win v).length = (s.win v).length ∧ (t.win v).mapOffset = (s.win v).mapOffset) : MarksFit t := by
  refine ⟨fun v => ?_, fun p set => ?_⟩
  · rw [count, h.1 v]
    by_cases o : (s.win v).state = .off
    · rw [if_pos o, if_pos ((off v).2 o)]
    · rw [if_neg o, if_neg (fun o' => o ((off v).1 o')), marksIn_congr (range v o).1 (range v o).2 (fun p _ => by rw [dm])]
  · obtain ⟨v, on, covers⟩ := h.2 p (dm ▸ set)
    refine ⟨v, fun o => on ((off v).1 o), ?_⟩
    obtain ⟨length, offset⟩ := range v on
    unfold OutWindow.Covers
    rwa [length, offset]

/-- A change of marks within the range of one window `w`, which no other enabled window shares. -/
theorem MarksFit.local (h : MarksFit s)
    (apart : ∀ v, v ≠ w → (s.win v).state ≠ .off → ∀ p, OutWindow.Covers (s.win w) p → ¬OutWindow.Covers (s.win v) p)
    (others : ∀ v, v ≠ w → t.win v = s.win v)
    (length : (t.win w).length = (s.win w).length) (offset : (t.win w).mapOffset = (s.win w).mapOffset)
    (outside : ∀ p, ¬OutWindow.Covers (s.win w) p → t.dm.getLsbD p = s.dm.getLsbD p)
    (count : (t.win w).dirtyCount = if (t.win w).state = .off then 0 else t.marksIn w)
    (off : (t.win w).state = .off → ∀ p, OutWindow.Covers (s.win w) p → t.dm.getLsbD p = false) : MarksFit t := by
  refine ⟨fun v => ?_, fun p set => ?_⟩
  · by_cases own : v = w
    · subst own; exact count
    · rw [others v own, h.1 v]
      split
      next => rfl
      next on =>
        refine (marksIn_congr (by rw [others v own]) (by rw [others v own]) fun p covers => outside p fun own' => ?_).symm
        exact apart v own on p own' covers
  · by_cases covers : OutWindow.Covers (s.win w) p
    · refine ⟨w, fun o => ?_, ?_⟩
      · rw [off o p covers] at set
        cases set
      · unfold OutWindow.Covers
        rwa [length, offset]
    · obtain ⟨v, on, there⟩ := h.2 p (by rwa [← outside p covers])
      have other : v ≠ w := fun own => covers (own ▸ there)
      exact ⟨v, by rwa [others v other], by rwa [others v other]⟩

theorem MarksFit.enterWindow {new : WinState} {halt : Option HaltCause} (h : MarksFit s) (enabled : (s.win w).state ≠ .off)
    (stays : new ≠ .off) : MarksFit (enterWindow w new halt s) := by
  refine h.congr (by simp) (fun v => ?_) (fun v => ?_) fun v _ => ?_
  all_goals
    rw [enterWindow_win]
    split
  next own => subst own; exact ⟨fun e => absurd e stays, fun e => absurd e enabled⟩
  next => exact Iff.rfl
  next own => rw [own]
  next => rfl
  next own => exact ⟨by rw [own], by rw [own]⟩
  next => exact ⟨rfl, rfl⟩

theorem markSegment_off {k : Nat} (off : (s.win w).state = .off) : markSegment w k s = s := by
  simp [markSegment, OutWindow.isEnabled, off]

theorem markSegment_set {k : Nat} (set : s.dm.getLsbD ((s.win w).position k) = true) :
    (markSegment w k s).dm = s.dm ∧ (markSegment w k s).out = s.out := by
  unfold markSegment
  simp only [set, if_true]
  split <;> simp

theorem MarksFit.markSegment {k : Nat} (h : MarksFit s) (apart : WindowsApart s) (fit : WindowsFit s)
    (inside : k < (s.win w).length) : MarksFit (markSegment w k s) := by
  by_cases on : (s.win w).state = .off
  · rwa [markSegment_off on]
  by_cases set : s.dm.getLsbD ((s.win w).position k) = true
  · obtain ⟨dm, out⟩ := markSegment_set set
    refine h.congr dm ?_ ?_ ?_ <;> intro v <;> rw [win_of_out out]
    exact fun _ => ⟨rfl, rfl⟩
  · have clear : s.dm.getLsbD ((s.win w).position k) = false := by simpa using set
    have enabled : (s.win w).isEnabled = true := by simpa [OutWindow.isEnabled] using on
    have range : (s.win w).position k < 4096 := by
      have : (s.win w).mapOffset + (s.win w).length ≤ 4096 := (fit w).2
      simp only [OutWindow.position]
      omega
    have win (v : WinId) : (Machine.markSegment w k s).win v
        = if v = w then { s.win w with dirtyCount := (s.win w).dirtyCount + 1 } else s.win v := by
      rw [markSegment_win]
      simp [enabled, clear]
    have dm (p : Nat) : (Machine.markSegment w k s).dm.getLsbD p = (s.dm.getLsbD p || decide (p = (s.win w).position k)) := by
      rw [markSegment_dm]
      simp [enabled, range]
    have own := win w
    rw [if_pos rfl] at own
    refine h.local (w := w) (fun v other on' p covers => covers_apart apart on on' other covers)
      (fun v other => by rw [win, if_neg other]) (by rw [own]) (by rw [own]) (fun p outside => ?_) ?_ fun off => ?_
    · have other : p ≠ (s.win w).position k := fun e => outside (e ▸ covers_iff.2 ⟨k, inside, rfl⟩)
      simp [dm, other]
    · rw [marksIn_insert (s := s) (k := k) (by rw [own]) (by rw [own]) inside clear (by simp [dm])
        (fun p other => by simp [dm, other]), own, if_neg on]
      exact congrArg (· + 1) ((h.1 w).trans (if_neg on))
    · rw [own] at off
      exact absurd off on

theorem MarksFit.clearSegment {k : Nat} (h : MarksFit s) (apart : WindowsApart s) (on : (s.win w).state ≠ .off)
    (inside : k < (s.win w).length) : MarksFit (clearSegment w k s) := by
  unfold Machine.clearSegment
  dsimp only
  split
  next set =>
    generalize cleared : (s.setDm (s.dm &&& ~~~BitVec.twoPow 4096 ((s.win w).position k))).setWin w
      { s.win w with dirtyCount := (s.win w).dirtyCount - 1 } = a
    have range : (s.win w).position k < 4096 := by
      by_contra out
      rw [BitVec.getLsbD_of_ge _ _ (by omega)] at set
      cases set
    have win (v : WinId) : a.win v = if v = w then { s.win w with dirtyCount := (s.win w).dirtyCount - 1 } else s.win v := by
      rw [← cleared, win_setWin]
      rfl
    have dm (p : Nat) : a.dm.getLsbD p = (s.dm.getLsbD p && !decide (p = (s.win w).position k)) := by
      rw [← cleared]
      simp only [setWin_dm, State.setDm_dm, BitVec.getLsbD_and, BitVec.getLsbD_not, BitVec.getLsbD_twoPow]
      by_cases high : p < 4096
      · by_cases here : p = (s.win w).position k <;> simp [high, here, Ne.symm]
      · simp [BitVec.getLsbD_of_ge s.dm p (by omega)]
    have own := win w
    rw [if_pos rfl] at own
    refine h.local (w := w) (fun v other on' p covers => covers_apart apart on on' other covers)
      (fun v other => by rw [win, if_neg other]) (by rw [own]) (by rw [own]) (fun p outside => ?_) ?_ fun off => ?_
    · have other : p ≠ (s.win w).position k := fun e => outside (e ▸ covers_iff.2 ⟨k, inside, rfl⟩)
      simp [dm, other]
    · have less : s.marksIn w = a.marksIn w + 1 :=
        marksIn_insert (s := a) (k := k) (by rw [own]) (by rw [own]) (by rw [own]; exact inside)
          (by rw [own]; simp [dm, OutWindow.position]) (by rw [own]; exact set)
          (fun p other => by rw [own] at other; simp [dm]; exact fun _ => other)
      have count := (h.1 w).trans (if_neg on)
      rw [own, if_neg on]
      show (s.win w).dirtyCount - 1 = a.marksIn w
      omega
    · rw [own] at off
      exact absurd off on
  next => exact h

end Sys2Proof.Proofs.MirrorWindows
end

section
namespace Sys2Proof.Proofs.MirrorWindows

open Sys2Proof Sys2Proof.Machine

variable {s t u : State} {w v : WinId} {held : Bool}

/-! ### The law of the dirty map, in parts -/

/-- The records of an enabled window lie inside it (R9, R29). -/
def RecordsInside (s : State) : Prop := ∀ r ∈ s.rq.records, (s.win r.window).state ≠ .off → s.lineInside r.window r.line

/-- A capture belongs to the transaction in progress, which lies inside an enabled window while it is not released (R41,
R160). -/
def CaptureInside (s : State) : Prop :=
  ∀ c, s.cu = some c → ∃ x, s.mp.txn = some x ∧ x.cls = .capture c.window c.line
    ∧ (x.released = false → (s.win c.window).state ≠ .off ∧ s.lineInside c.window c.line)

/-- The current segment and its next read lie inside the segment's window (R125, R128). -/
def SegmentInside (s : State) : Prop :=
  ∀ g, s.re.current = some g → g.index < (s.win g.window).length
    ∧ (s.re.read ≠ .absent → s.re.readDropped = false → g.nextLine < s.segLines)

/-- The part of `DirtyMapFits` that says which states a window's marks allow (R17). -/
def StateFits (x : OutWindow) : Prop := (x.state = .active → x.dirtyCount = 0) ∧ (x.state = .resync → x.dirtyCount ≠ 0)

def StatesFit (s : State) : Prop := ∀ w, StateFits (s.win w)

/-- `MapLaw` without `StatesFit`, which fails for a moment while a window is marked. -/
structure Law (held : Bool) (s : State) : Prop where
  windows : WindowsFit s
  apart : WindowsApart s
  size : s.params.segmentSize.toNat ∈ [4, 8, 16, 32, 64]
  engine : EngineLaw held s
  marks : MarksFit s
  records : RecordsInside s
  capture : CaptureInside s
  resyncs : SegmentResyncs s
  inside : SegmentInside s

theorem dirtyMapFits_iff : DirtyMapFits s ↔ MarksFit s ∧ StatesFit s ∧ RecordsInside s ∧ CaptureInside s
    ∧ SegmentResyncs s ∧ SegmentInside s := by
  constructor
  · rintro ⟨counts, belong, states, records, capture, current⟩
    exact ⟨⟨counts, belong⟩, states, records, capture, fun g h => (current g h).1, fun g h => (current g h).2⟩
  · rintro ⟨⟨counts, belong⟩, states, records, capture, resyncs, inside⟩
    exact ⟨counts, belong, states, records, capture, fun g h => ⟨resyncs g h, inside g h⟩⟩

theorem mapLaw_iff : MapLaw s ↔ Law false s ∧ StatesFit s := by
  unfold MapLaw SegmentsFit
  rw [dirtyMapFits_iff]
  constructor
  · rintro ⟨windows, apart, engine, ⟨size, dropped⟩, marks, states, records, capture, resyncs, inside⟩
    exact ⟨⟨windows, apart, size, engineFits_iff.2 ⟨engine, dropped⟩, marks, records, capture, resyncs, inside⟩, states⟩
  · rintro ⟨⟨windows, apart, size, engine, marks, records, capture, resyncs, inside⟩, states⟩
    obtain ⟨engine, dropped⟩ := engineFits_iff.1 engine
    exact ⟨windows, apart, engine, ⟨size, dropped⟩, marks, states, records, capture, resyncs, inside⟩

/-! ### What leaves the parts -/

theorem lineInside_iff {line : LineIndex} : s.lineInside w line ↔ line.toNat * 64 < (s.win w).length * s.segBytes := Iff.rfl

/-- The segment of a line of a window is one of the window's segments (R29, R122). -/
theorem segmentOf_lt {line : LineIndex} (h : s.lineInside w line) : s.segmentOf line < (s.win w).length := by
  rw [lineInside_iff, mul_comm _ s.segBytes] at h
  exact Nat.div_lt_of_lt_mul h

theorem SameConfig.lineInside {line : LineIndex} (h : SameConfig s t) : t.lineInside w line ↔ s.lineInside w line := by
  rw [lineInside_iff, lineInside_iff, h.length, h.segBytes]

theorem RecordsInside.shape (h : RecordsInside s) (shape : Shape s t) (records : RecordsFrom s.rq.records t.rq.records) :
    RecordsInside t := by
  intro r there on
  obtain ⟨q, before, window, line⟩ := records r there
  have inside := h q before (window ▸ shape.enabled _ on)
  rw [window, line] at inside
  exact shape.lineInside.2 inside

theorem CaptureInside.config (h : CaptureInside s) (shape : SameConfig s t) (cu : t.cu = s.cu) (txn : t.mp.txn = s.mp.txn)
    (enabled : ∀ v, (s.win v).state ≠ .off → (t.win v).state ≠ .off) : CaptureInside t := by
  intro c there
  obtain ⟨x, taken, cls, inside⟩ := h c (cu ▸ there)
  refine ⟨x, txn.trans taken, cls, fun kept => ?_⟩
  obtain ⟨on, inside⟩ := inside kept
  exact ⟨enabled _ on, shape.lineInside.2 inside⟩

/-- The engine's segment afterwards is the one before, and its read is as it was; or there is none. -/
def SegmentKept (s t : State) : Prop :=
  t.re.current = none
    ∨ (t.re.read = s.re.read ∧ t.re.readDropped = s.re.readDropped ∧ ∀ g, t.re.current = some g →
        ∃ g', s.re.current = some g' ∧ g'.window = g.window ∧ g'.index = g.index ∧ g'.nextLine = g.nextLine)

theorem segmentKept_of_re (h : t.re = s.re) : SegmentKept s t := by
  unfold SegmentKept
  rw [h]
  exact .inr ⟨rfl, rfl, fun g there => ⟨g, there, rfl, rfl, rfl⟩⟩

theorem SegmentInside.kept (h : SegmentInside s) (shape : SameConfig s t) (kept : SegmentKept s t) : SegmentInside t := by
  intro g there
  rcases kept with none | ⟨read, dropped, before⟩
  · rw [none] at there
    cases there
  · obtain ⟨g', there', window, index, line⟩ := before g there
    obtain ⟨below, next⟩ := h g' there'
    rw [shape.length, ← window, ← index, ← line, read, dropped, State.segLines, shape.segBytes]
    exact ⟨below, next⟩

theorem segmentKept_enterWindow {new : WinState} {halt : Option HaltCause} : SegmentKept s (enterWindow w new halt s) := by
  rcases enterWindow_engine (s := s) (w := w) (new := new) (halt := halt) with ⟨_, re, _⟩ | ⟨_, _, re⟩
  · exact .inl (by rw [re]; exact abandon_current.1)
  · refine .inr ?_
    rcases re with re | ⟨_, re⟩ <;> rw [re] <;> exact ⟨rfl, rfl, fun g there => ⟨g, there, rfl, rfl, rfl⟩⟩

theorem segmentKept_redirty {k : Nat} : SegmentKept s (redirty w k s) := by
  unfold redirty
  split
  next => exact segmentKept_of_re rfl
  next g current =>
    split
    · refine .inr ⟨rfl, rfl, fun g' there => ⟨g, current, ?_⟩⟩
      simp only [State.setRe_re, Option.some.injEq] at there
      subst there
      exact ⟨rfl, rfl, rfl⟩
    · exact segmentKept_of_re rfl

theorem segmentKept_markSegment {k : Nat} : SegmentKept s (markSegment w k s) := by
  unfold markSegment
  dsimp only
  repeat' split
  · exact segmentKept_redirty
  · exact segmentKept_redirty (s := (s.setDm _).setWin w _)
  · exact segmentKept_of_re rfl

/-- What the laws of the dirty map look at is as before, but for the records and the capture. -/
theorem Law.frame (h : Law held s) (out : t.out = s.out) (dm : t.dm = s.dm)
    (size : t.params.segmentSize = s.params.segmentSize) (inb : t.inb = s.inb) (re : t.re = s.re)
    (engine : EngineLaw held t) (records : RecordsInside t) (capture : CaptureInside t) : Law held t where
  windows := by unfold WindowsFit; rw [out]; exact h.windows
  apart := apart_of_shape (shape_of_out out size inb) h.apart
  size := size ▸ h.size
  engine := engine
  marks := h.marks.congr dm (fun v => by rw [win_of_out out]) (fun v => by rw [win_of_out out])
    fun v _ => by rw [win_of_out out]; exact ⟨rfl, rfl⟩
  records := records
  capture := capture
  resyncs := segmentResyncs_congr (by rw [re]) (state_of_out out) h.resyncs
  inside := h.inside.kept (shape_of_out out size inb).toSameConfig (segmentKept_of_re re)

/-- Only blocks that the laws do not look at have changed. -/
theorem Law.only (h : Law held s) (o : Only [.drawn, .pins, .port, .lanes, .lc, .ts, .rc, .au, .fu, .al, .counters] s t) :
    Law held t := by
  have out := o .out (by decide)
  have params := o .params (by decide)
  have shape : Shape s t := shape_of_out out (by rw [params]) (o .inb (by decide))
  refine h.frame out (o .dm (by decide)) (by rw [params]) (o .inb (by decide)) (o .re (by decide))
    (h.engine.congr (o .re (by decide)) (by rw [o .da (by decide)]) (by rw [o .da (by decide)])) ?_ ?_
  · exact h.records.shape shape (by rw [o .rq (by decide)]; exact recordsFrom_refl _)
  · exact h.capture.config shape.toSameConfig (o .cu (by decide)) (by rw [o .mp (by decide)])
      fun v on => by rwa [state_of_out out]

theorem statesFit_of_out (out : t.out = s.out) (h : StatesFit s) : StatesFit t := fun v => by
  rw [win_of_out out]; exact h v

/-! ### Window transitions -/

theorem shape_enterWindow {new : WinState} {halt : Option HaltCause} (enabled : (s.win w).state ≠ .off) :
    Shape s (enterWindow w new halt s) := by
  refine ⟨⟨?_, ?_, ?_, by simp, by simp⟩, ?_⟩ <;> intro v <;> rw [enterWindow_win] <;> split <;> rename_i own
  all_goals simp [own, enabled]

theorem Law.enterWindow {new : WinState} {halt : Option HaltCause} (h : Law held s) (enabled : (s.win w).state ≠ .off)
    (stays : new ≠ .off) (cause : halt.isSome = true ↔ new = .halted) : Law held (enterWindow w new halt s) where
  windows := (walk_enterWindow cause).fit h.windows
  apart := apart_of_shape (shape_enterWindow enabled) h.apart
  size := by simpa using h.size
  engine := h.engine.enterWindow
  marks := h.marks.enterWindow enabled stays
  records := h.records.shape (shape_enterWindow enabled) (by simpa using recordsFrom_refl _)
  capture := by
    refine h.capture.config (shape_enterWindow enabled).toSameConfig (by simp) (by simp) fun v on => ?_
    rw [enterWindow_win]
    split
    · exact stays
    · exact on
  resyncs := segmentResyncs_enterWindow h.resyncs
  inside := h.inside.kept (shape_enterWindow enabled).toSameConfig segmentKept_enterWindow

/-- Only the window that enters a state needs marks that allow it (R17). -/
theorem statesFit_enterWindow {new : WinState} {halt : Option HaltCause} (others : ∀ v, v ≠ w → StateFits (s.win v))
    (active : new = .active → (s.win w).dirtyCount = 0) (resync : new = .resync → (s.win w).dirtyCount ≠ 0) :
    StatesFit (enterWindow w new halt s) := by
  intro v
  rw [enterWindow_win]
  split
  · exact ⟨active, resync⟩
  · exact others v ‹_›

theorem shape_markSegment {k : Nat} : Shape s (markSegment w k s) := by
  refine ⟨⟨?_, ?_, ?_, by simp, by simp⟩, ?_⟩ <;> intro v <;> rw [markSegment_win] <;> split <;> rename_i marked
  all_goals simp [marked]

theorem Law.markSegment {k : Nat} (h : Law held s) (inside : k < (s.win w).length) : Law held (markSegment w k s) where
  windows := walk_markSegment.fit h.windows
  apart := apart_of_shape shape_markSegment h.apart
  size := by simpa using h.size
  engine := h.engine.markSegment
  marks := h.marks.markSegment h.apart h.windows inside
  records := h.records.shape shape_markSegment (by simpa using recordsFrom_refl _)
  capture := h.capture.config shape_markSegment.toSameConfig (by simp) (by simp) fun v on => by rwa [markSegment_state]
  resyncs := segmentResyncs_markSegment h.resyncs
  inside := h.inside.kept shape_markSegment.toSameConfig segmentKept_markSegment

/-- `StatesFit` but for window `w`, which may be ACTIVE with marks. -/
def StatesFitBut (w : WinId) (s : State) : Prop :=
  ∀ v, ((s.win v).state = .resync → (s.win v).dirtyCount ≠ 0)
    ∧ (v ≠ w → (s.win v).state = .active → (s.win v).dirtyCount = 0)

theorem statesFitBut_markSegment {k : Nat} (h : StatesFitBut w s) : StatesFitBut w (markSegment w k s) := by
  intro v
  rw [markSegment_win]
  split
  next marked => exact ⟨fun _ => by simp, fun other => absurd marked.1 other⟩
  next => exact h v

/-- A window that has been marked in ACTIVE leaves it (R17, R19, R24). -/
theorem law_leaveActive {towards : Bool} (h : Law held s) (states : StatesFitBut w s) :
    Law held (leaveActive towards w s) ∧ StatesFit (leaveActive towards w s) := by
  have others : ∀ v, v ≠ w → StateFits (s.win v) := fun v other => ⟨(states v).2 other, (states v).1⟩
  unfold leaveActive toResync
  split
  next active =>
    have enabled : (s.win w).state ≠ .off := by simp [active]
    repeat' split
    next none => exact ⟨h.enterWindow enabled (by simp) (by simp), statesFit_enterWindow others (fun _ => none) (by simp)⟩
    next some => exact ⟨h.enterWindow enabled (by simp) (by simp), statesFit_enterWindow others (by simp) fun _ => some⟩
    next => exact ⟨h.enterWindow enabled (by simp) (by simp), statesFit_enterWindow others (by simp) (by simp)⟩
  next other =>
    refine ⟨h, fun v => ?_⟩
    by_cases own : v = w
    · subst own; exact ⟨fun active => absurd active other, (states v).1⟩
    · exact others v own

theorem law_mark {towards : Bool} {ks : List Nat} (h : Law held s) (states : StatesFit s)
    (inside : ∀ k ∈ ks, k < (s.win w).length) :
    Law held (leaveActive towards w (markAll w ks s)) ∧ StatesFit (leaveActive towards w (markAll w ks s)) := by
  have marked : Law held (markAll w ks s) ∧ StatesFitBut w (markAll w ks s) ∧ Shape s (markAll w ks s) := by
    refine List.foldlRecOn ks _ (motive := fun t => Law held t ∧ StatesFitBut w t ∧ Shape s t)
      ⟨h, fun v => ⟨(states v).2, fun _ => (states v).1⟩, shape_of_out rfl rfl rfl⟩ ?_
    rintro t ⟨law, states, shape⟩ k there
    have below : k < (t.win w).length := by rw [shape.length]; exact inside k there
    exact ⟨law.markSegment below, statesFitBut_markSegment states, shape.trans shape_markSegment⟩
  exact law_leaveActive marked.1 marked.2.1

/-- The discard marks each record of an enabled window, which lies inside it (R39). -/
theorem law_discardAll (h : Law held s) (states : StatesFit s) : Law held (discardAll s) ∧ StatesFit (discardAll s) := by
  have discarded : (Law held (s.rq.records.foldl discardOne s) ∧ StatesFit (s.rq.records.foldl discardOne s))
      ∧ (s.rq.records.foldl discardOne s).rq = s.rq := by
    refine List.foldlRecOn s.rq.records discardOne
      (motive := fun t => (Law held t ∧ StatesFit t) ∧ t.rq = s.rq) ⟨⟨h, states⟩, rfl⟩ ?_
    rintro t ⟨⟨law, states⟩, rq⟩ r there
    refine ⟨?_, discardOne_rq.trans rq⟩
    unfold discardOne
    split
    next on =>
      rw [discardFailure_eq, markLine_eq]
      refine law_mark law states ?_
      simp only [List.mem_singleton, forall_eq]
      exact segmentOf_lt (law.records r (by rwa [rq]) (by simpa [OutWindow.isEnabled] using on))
    next => exact ⟨law, states⟩
  rw [discardAll_eq]
  obtain ⟨⟨law, states⟩, rq⟩ := discarded
  generalize s.rq.records.foldl discardOne s = d at law states rq
  refine ⟨law.frame rfl rfl rfl rfl rfl (law.engine.congr rfl rfl rfl) (fun r there => ?_) law.capture, states⟩
  cases there

theorem law_endWindows (h : Law held s) (states : StatesFit s) : Law held (endWindows s) ∧ StatesFit (endWindows s) := by
  refine List.foldlRecOn (List.finRange 8) _ (motive := fun t => Law held t ∧ StatesFit t) ⟨h, states⟩ ?_
  rintro t ⟨law, states⟩ w -
  unfold endWindow
  split
  next mirrored =>
    exact ⟨law.enterWindow (fun off => by simp [off, WinState.mirrored] at mirrored) (by simp) (by simp),
      statesFit_enterWindow (fun v _ => states v) (by simp) (by simp)⟩
  next => exact ⟨law, states⟩

end Sys2Proof.Proofs.MirrorWindows
end

section
namespace Sys2Proof.Proofs.MirrorWindows

open Sys2Proof Sys2Proof.Machine

variable {s t u : State} {w v : WinId} {held : Bool}

/-! ### The engine's own moves (R125 to R132) -/

theorem shape_selectSegment : Shape s (selectSegment s) := by
  refine ⟨⟨?_, ?_, ?_, by simp, by simp⟩, ?_⟩ <;> intro v <;> rw [selectSegment_win]
  exact id

theorem nextSegment_lt {k : Nat} (h : s.nextSegment w = some k) : k < (s.win w).length := by
  unfold State.nextSegment at h
  obtain ⟨i, inside, rfl⟩ := List.mem_map.1 (List.mem_of_find?_eq_some h)
  exact Nat.mod_lt _ (Nat.zero_lt_of_lt (List.mem_range.1 inside))

/-- The engine's selection takes a marked segment of a window in RESYNC, goes IDLE, or does nothing (R125, R127). -/
theorem selectSegment_cases : selectSegment s = s ∨ selectSegment s = s.setRe { s.re with state := .idle }
    ∨ ∃ w k, (s.win w).state = .resync ∧ k < (s.win w).length ∧ selectSegment s = takeSegment w k s := by
  unfold selectSegment
  repeat' split
  next => exact .inr (.inl rfl)
  next => exact .inr (.inl rfl)
  next served _ _ found => exact .inr (.inr ⟨_, _, nextWindow_resync served, nextSegment_lt found, rfl⟩)
  all_goals exact .inl rfl

/-- The engine takes a segment from its first line on (R127). -/
theorem SegmentInside.selectSegment (h : SegmentInside s) (size : s.params.segmentSize.toNat ∈ [4, 8, 16, 32, 64]) :
    SegmentInside (selectSegment s) := by
  obtain same | idle | ⟨w, k, _, below, taken⟩ := selectSegment_cases (s := s)
  · rwa [same]
  · rw [idle]
    exact h
  · intro g there
    rw [shape_selectSegment.length, State.segLines, shape_selectSegment.segBytes]
    simp only [taken, takeSegment, State.setRe_re, Option.some.injEq] at there
    subst there
    refine ⟨below, fun _ _ => ?_⟩
    simp only [List.mem_cons, List.not_mem_nil, or_false] at size
    simp only [State.segBytes]
    omega

theorem law_select (h : Law held s) (states : StatesFit s) : Law held (selectSegment s) ∧ StatesFit (selectSegment s) where
  left :=
    { windows := walk_selectSegment.fit h.windows
      apart := apart_of_shape shape_selectSegment h.apart
      size := by simpa using h.size
      engine := h.engine.selectSegment
      marks := h.marks.congr (by simp) (fun v => by rw [selectSegment_win]) (fun v => by rw [selectSegment_win])
        fun v _ => by rw [selectSegment_win]; exact ⟨rfl, rfl⟩
      records := h.records.shape shape_selectSegment (by simpa using recordsFrom_refl _)
      capture := h.capture.config shape_selectSegment.toSameConfig (by simp) (by simp) fun v on => by rwa [selectSegment_state]
      resyncs := segmentResyncs_selectSegment h.resyncs
      inside := h.inside.selectSegment h.size }
  right v := by rw [selectSegment_win]; exact states v

/-- A change of the arbiter, and of the engine's read alone. -/
theorem Law.read {after : Bool} (h : Law held s) (frame : Only [.da, .re] s t) (engine : EngineLaw after t)
    (resyncs : SegmentResyncs t) (inside : SegmentInside t) : Law after t := by
  have out := frame .out (by decide)
  have params := frame .params (by decide)
  have shape : Shape s t := shape_of_out out (by rw [params]) (frame .inb (by decide))
  refine ⟨?_, apart_of_shape shape h.apart, params ▸ h.size, engine, ?_, ?_, ?_, resyncs, inside⟩
  · unfold WindowsFit; rw [out]; exact h.windows
  · exact h.marks.congr (frame .dm (by decide)) (fun v => by rw [win_of_out out]) (fun v => by rw [win_of_out out])
      fun v _ => by rw [win_of_out out]; exact ⟨rfl, rfl⟩
  · exact h.records.shape shape (by rw [frame .rq (by decide)]; exact recordsFrom_refl _)
  · exact h.capture.config shape.toSameConfig (frame .cu (by decide)) (by rw [frame .mp (by decide)])
      fun v on => by rwa [state_of_out out]

theorem only_grant_setDa {d : Arbiter} : Only [.da, .re] s (grant (s.setDa d)) := by simp [Only.refl]

/-- A grant turns a requested read into a granted one, whose line is the engine's next line as before. -/
theorem SegmentInside.grant (h : SegmentInside s) (asked : s.da.cp.isSome = true ↔ s.re.read = .requested) :
    SegmentInside (grant s) := by
  obtain same | ⟨client, x, _, _, asks, given⟩ := grant_cases (s := s)
  · rwa [same]
  · rw [given]
    cases client with
    | fg | ap => exact h
    | cp =>
      intro g there
      have waits : s.re.read = .requested := asked.1 (by simp_all [Arbiter.request])
      obtain ⟨below, next⟩ := h g there
      exact ⟨below, fun _ => next (by simp [waits])⟩

theorem Law.ask {d : Arbiter} (h : Law held s) (g : AskGuard s.da d) : Law held (grant (s.setDa d)) :=
  h.read only_grant_setDa (h.engine.ask g)
    (segmentResyncs_congr grant_current (state_of_out (by simp)) h.resyncs)
    (SegmentInside.grant (s := s.setDa d) h.inside (by simpa [g.cp] using h.engine.asked))

theorem SegmentInside.startRead (h : SegmentInside s) : SegmentInside (startRead s) := by
  unfold Machine.startRead
  split
  next => exact h
  next g current =>
    split
    next may =>
      simp only [State.mayRead, Bool.and_eq_true, decide_eq_true_eq] at may
      obtain ⟨⟨⟨⟨_, _⟩, next⟩, _⟩, _⟩ := may
      refine SegmentInside.grant (fun g' there => ?_) (by simp)
      have same : g = g' := Option.some.inj (current.symm.trans there)
      subst same
      exact ⟨(h g current).1, fun _ _ => next⟩
    next => exact h

theorem Law.startRead (h : Law held s) : Law held (startRead s) :=
  h.read startRead_only h.engine.startRead (segmentResyncs_congr startRead_current (state_of_out (by simp)) h.resyncs)
    h.inside.startRead

theorem Law.releasePort (h : Law true s) : Law false (releasePort s) :=
  h.read only_grant_setDa h.engine.releasePort (segmentResyncs_congr grant_current (state_of_out (by simp)) h.resyncs)
    (SegmentInside.grant (s := s.setDa { s.da with port := none }) h.inside h.engine.asked)

theorem clearSegment_win {k : Nat} : ∃ n, ((s.win w).dirtyCount = n ∨ (s.win w).dirtyCount - 1 = n)
    ∧ ∀ v, (clearSegment w k s).win v = if v = w then { s.win w with dirtyCount := n } else s.win v := by
  unfold clearSegment
  dsimp only
  split
  · exact ⟨_, .inr rfl, fun v => by rw [win_setWin]; rfl⟩
  · refine ⟨_, .inl rfl, fun v => ?_⟩
    split
    next own => rw [own]
    next => rfl

theorem shape_clearSegment {k : Nat} : Shape s (clearSegment w k s) := by
  obtain ⟨n, _, win⟩ := clearSegment_win (s := s) (w := w) (k := k)
  refine ⟨⟨?_, ?_, ?_, by simp, by simp⟩, ?_⟩ <;> intro v <;> rw [win] <;> split <;> rename_i own
  all_goals simp [own]

theorem Law.clearSegment {k : Nat} (h : Law held s) (on : (s.win w).state ≠ .off) (inside : k < (s.win w).length) :
    Law held (clearSegment w k s) := by
  obtain ⟨n, _, win⟩ := clearSegment_win (s := s) (w := w) (k := k)
  have state (v : WinId) : ((Machine.clearSegment w k s).win v).state = (s.win v).state := by
    rw [win]
    split
    next own => rw [own]
    next => rfl
  exact
    { windows := walk_clearSegment.fit h.windows
      apart := apart_of_shape shape_clearSegment h.apart
      size := by simpa using h.size
      engine := h.engine.congr (by simp) (by simp) (by simp)
      marks := h.marks.clearSegment h.apart on inside
      records := h.records.shape shape_clearSegment (by simpa using recordsFrom_refl _)
      capture := h.capture.config shape_clearSegment.toSameConfig (by simp) (by simp) fun v on => by rwa [state]
      resyncs := segmentResyncs_congr (by simp) state h.resyncs
      inside := h.inside.kept shape_clearSegment.toSameConfig (segmentKept_of_re (by simp)) }

/-- The engine leaves a segment in DRAINING for SELECT (R132). -/
theorem Law.leaveSegment (h : Law held s) (drains : s.re.state = .draining) :
    Law held (s.setRe { s.re with current := none, state := .select }) :=
  h.read (by simp [Only.refl]) (h.engine.leaveSegment drains) (segmentResyncs_of_none rfl) (by rintro g ⟨⟩)

theorem law_segmentDone {g : Segment} (h : Law held s) (states : StatesFit s) (current : s.re.current = some g)
    (drains : s.re.state = .draining) : Law held (segmentDone g s) ∧ StatesFit (segmentDone g s) := by
  have left := h.leaveSegment drains
  have resync := h.resyncs g current
  have index := (h.inside g current).1
  unfold segmentDone
  dsimp only
  generalize entry : s.setRe { s.re with current := none, state := .select } = a at left
  have win (v : WinId) : a.win v = s.win v := by rw [← entry]; rfl
  have cleared : Law held (clearSegment g.window g.index a) := left.clearSegment (by simp [win, resync]) (by rwa [win])
  obtain ⟨n, _, after⟩ := clearSegment_win (s := a) (w := g.window) (k := g.index)
  have others : ∀ v, v ≠ g.window → StateFits ((clearSegment g.window g.index a).win v) := fun v other => by
    rw [after, if_neg other, win]
    exact states v
  have state : ((clearSegment g.window g.index a).win g.window).state = .resync := by
    rw [after, if_pos rfl, win]
    exact resync
  split
  · exact ⟨left, fun v => by rw [win]; exact states v⟩
  · split
    next none =>
      exact ⟨cleared.enterWindow (by simp [state]) (by simp) (by simp),
        statesFit_enterWindow others (fun _ => none) (by simp)⟩
    next some =>
      refine ⟨cleared, fun v => ?_⟩
      by_cases own : v = g.window
      · subst own; exact ⟨by simp [state], fun _ => some⟩
      · exact others v own

/-! ### Records and captures (R29, R41, R157) -/

/-- A record of a line inside its window is appended (R31). -/
theorem Law.append {r : Record} (h : Law held s) (inside : s.lineInside r.window r.line) : Law held (append r s) := by
  have shape : Shape s (Machine.append r s) := shape_of_out (by simp) (by simp) (by simp)
  refine h.frame (by simp) (by simp) (by simp) (by simp) (by simp) (h.engine.congr (by simp) (by simp) (by simp)) ?_
    (h.capture.config shape.toSameConfig (by simp) (by simp) fun v on => by rwa [state_of_out (s := s) (by simp)])
  intro q there on
  rw [shape.lineInside]
  simp only [append_rq, List.mem_append, List.mem_singleton] at there
  rcases there with before | rfl
  · obtain ⟨p, hp, window, line⟩ := recordsFrom_closedTail _ q before
    rw [← window, ← line]
    exact h.records p hp (by rw [window]; exact shape.enabled _ on)
  · exact inside

/-- A capture that the unit still finds in an enabled window is not released, so its line lies inside (R160). -/
theorem CaptureInside.line {c : Capture} (h : CaptureInside s) (there : s.cu = some c)
    (enabled : s.captureState c ≠ .off) : s.lineInside c.window c.line := by
  obtain ⟨x, taken, _, inside⟩ := h c there
  refine (inside ?_).2
  by_contra released
  exact enabled (by simp [State.captureState, taken, released])

/-- Whatever becomes of the transaction and its capture, the other laws do not look at them. -/
theorem Law.path {x : MemoryPath} {y : Option Capture} (h : Law held s)
    (capture : CaptureInside ((s.setMp x).setCu y)) : Law held ((s.setMp x).setCu y) :=
  h.frame rfl rfl rfl rfl rfl (h.engine.congr rfl rfl rfl) h.records capture

/-- The COPY record of a read that was granted for the current segment lies inside the segment's window (R130). -/
theorem copyRecord_inside {g : Segment} (h : SegmentInside s) (current : s.re.current = some g)
    (read : s.re.read = .granted) (kept : s.re.readDropped = false) : s.lineInside g.window (s.lineOf g) := by
  obtain ⟨below, next⟩ := h g current
  have line := next (by simp [read]) kept
  rw [lineInside_iff]
  simp only [State.lineOf, BitVec.toNat_ofNat]
  have lines : s.segBytes = s.segLines * 64 := by simp only [State.segLines, State.segBytes]; omega
  have same : s.params.segmentLines = s.segLines := rfl
  rw [same, lines]
  calc (g.index * s.segLines + g.nextLine) % 2 ^ 22 * 64
      ≤ (g.index * s.segLines + g.nextLine) * 64 := Nat.mul_le_mul_right _ (Nat.mod_le _ _)
    _ < (g.index * s.segLines + s.segLines) * 64 := by omega
    _ = (g.index + 1) * s.segLines * 64 := by ring
    _ ≤ (s.win g.window).length * s.segLines * 64 := Nat.mul_le_mul_right _ (Nat.mul_le_mul_right _ below)
    _ = (s.win g.window).length * (s.segLines * 64) := by ring

end Sys2Proof.Proofs.MirrorWindows
end

section
namespace Sys2Proof.Proofs.MirrorWindows

open Sys2Proof Sys2Proof.Machine

variable {s t u : State} {w v : WinId} {held : Bool}

/-! ### Overlap (R7) -/

theorem overlap_iff {a sizeA b sizeB : Nat} : overlap a sizeA b sizeB = true ↔ ¬Apart a sizeA b sizeB := by
  simp only [overlap, Bool.and_eq_true, decide_eq_true_eq, Apart, not_forall, not_not]
  constructor
  · intro meet
    exact ⟨max a b, by omega⟩
  · rintro ⟨x, inA, inB⟩
    omega

theorem overlap_eq_false {a sizeA b sizeB : Nat} : overlap a sizeA b sizeB = false ↔ Apart a sizeA b sizeB := by
  rw [← Bool.not_eq_true, overlap_iff, not_not]

theorem Apart.symm {a sizeA b sizeB : Nat} (h : Apart a sizeA b sizeB) : Apart b sizeB a sizeA :=
  fun x ⟨lowB, highB, lowA, highA⟩ => h x ⟨lowA, highA, lowB, highB⟩

theorem outboundConflict_iff : s.outboundConflict w = false ↔ s.outboundClear w := by
  simp only [State.outboundConflict, State.outboundClear, Bool.or_eq_false_iff, List.any_eq_false, List.mem_finRange,
    true_implies, Bool.and_eq_true, decide_eq_true_eq, not_and, OutWindow.isEnabled, bne_iff_ne,
    ne_eq, Bool.not_eq_true, overlap_eq_false, and_imp]
  exact Iff.rfl

theorem inboundConflict_iff {i : WinId} : s.inboundConflict i = false ↔ s.inboundClear i := by
  simp only [State.inboundConflict, State.inboundClear, Bool.or_eq_false_iff, List.any_eq_false, List.mem_finRange,
    true_implies, Bool.and_eq_true, decide_eq_true_eq, not_and, OutWindow.isEnabled, bne_iff_ne,
    ne_eq, Bool.not_eq_true, overlap_eq_false, and_imp]
  exact Iff.rfl

/-! ### WIN_CONFIG (R8) -/

/-- The configuration of a window that is OFF matters to no enabled one. -/
theorem law_config {x : OutWindow} (h : Law held s) (states : StatesFit s) (off : (s.win w).state = .off)
    (same : x.state = (s.win w).state ∧ x.haltCause = (s.win w).haltCause ∧ x.dirtyCount = (s.win w).dirtyCount)
    (range : x.mapOffset + x.length ≤ 4096) : Law held (s.setWin w x) ∧ StatesFit (s.setWin w x) := by
  obtain ⟨state, halt, count⟩ := same
  have kept (v : WinId) (on : ((s.setWin w x).win v).state ≠ .off) : (s.setWin w x).win v = s.win v := by
    rw [win_setWin] at on ⊢
    split at on
    · exact absurd (state.trans off) on
    · rw [if_neg ‹_›]
  have kept' (v : WinId) (on : (s.win v).state ≠ .off) : (s.setWin w x).win v = s.win v := by
    rw [win_setWin, if_neg]
    rintro rfl
    exact on off
  have inside (v : WinId) (on : (s.win v).state ≠ .off) (line : LineIndex) (h : s.lineInside v line) :
      (s.setWin w x).lineInside v line := by
    rw [lineInside_iff, kept' v on]
    exact h
  have counts (v : WinId) : ((s.setWin w x).win v).state = (s.win v).state
      ∧ ((s.setWin w x).win v).dirtyCount = (s.win v).dirtyCount := by
    rw [win_setWin]
    split
    next own => subst own; exact ⟨state, count⟩
    next => exact ⟨rfl, rfl⟩
  refine ⟨⟨?_, ⟨fun v on => ?_, fun i on => ?_⟩, h.size, h.engine.congr rfl rfl rfl, ?_, ?_, ?_, ?_, ?_⟩, fun v => ?_⟩
  · exact (walk_setWin fun fit => ⟨by rw [state, halt]; exact fit.1, range⟩).fit h.windows
  · have before := kept v on
    obtain ⟨others, inbound⟩ := h.apart.1 v (by rw [← win_eq, ← before]; exact on)
    refine ⟨fun v' other on' => ?_, fun i enabled => ?_⟩
    · have before' := kept v' on'
      rw [← win_eq, ← win_eq, before, before']
      exact others v' other (by rw [← win_eq, ← before']; exact on')
    · rw [← win_eq, before]
      exact inbound i enabled
  · obtain ⟨outbound, others⟩ := h.apart.2 i on
    refine ⟨fun v' on' => ?_, others⟩
    have before' := kept v' on'
    rw [← win_eq, before']
    exact outbound v' (by rw [← win_eq, ← before']; exact on')
  · exact h.marks.congr rfl (fun v => by rw [(counts v).1]) (fun v => (counts v).2)
      fun v on => by rw [kept' v on]; exact ⟨rfl, rfl⟩
  · intro r there on
    rw [(counts _).1] at on
    exact inside _ on _ (h.records r there on)
  · intro c there
    obtain ⟨y, taken, cls, line⟩ := h.capture c there
    refine ⟨y, taken, cls, fun kept => ?_⟩
    obtain ⟨on, line⟩ := line kept
    exact ⟨by rw [(counts _).1]; exact on, inside _ on _ line⟩
  · exact segmentResyncs_congr (s := s) rfl (fun v => (counts v).1) h.resyncs
  · intro g there
    have resync := h.resyncs g there
    rw [kept' g.window (by simp [resync])]
    exact h.inside g there
  · obtain ⟨active, resync⟩ := states v
    unfold StateFits
    rw [(counts v).1, (counts v).2]
    exact ⟨active, resync⟩

/-! ### WIN_ENABLE (R9, R10) -/

theorem enableMarks_win {full : Bool} : (enableMarks full w s).win v
    = if v = w then { s.win w with cursor := 0, dirtyCount := if full = true then (s.win w).length else 0 } else s.win v := by
  unfold enableMarks
  dsimp only
  split <;> exact win_setWin _

theorem enableMarks_dm {full : Bool} :
    (enableMarks full w s).dm = if full = true then s.dm ||| (s.win w).rangeMask else s.dm := by
  unfold enableMarks
  dsimp only
  split <;> rfl

/-- The state of an enable is one that the link and the marks allow (R10). -/
theorem enableState_eq : ∃ new : WinState, new ≠ .off ∧ new ≠ .halted ∧ (new = .active → (s.win w).dirtyCount = 0)
    ∧ (new = .resync → (s.win w).dirtyCount ≠ 0) ∧ enableState w s = enterWindow w new none s := by
  unfold enableState
  repeat' split
  next none => exact ⟨.active, by simp, by simp, fun _ => none, by simp, rfl⟩
  next some => exact ⟨.resync, by simp, by simp, by simp, fun _ => some, rfl⟩
  next => exact ⟨.degraded, by simp, by simp, by simp, by simp, rfl⟩

/-- The range of a window that is OFF holds no mark where no enabled window shares it (R11, R120). -/
theorem range_clear (h : MarksFit s) (off : (s.win w).state = .off) (clear : s.outboundClear w) {p : Nat}
    (covers : OutWindow.Covers (s.win w) p) : s.dm.getLsbD p = false := by
  by_contra set
  obtain ⟨v, on, covers'⟩ := h.2 p (by simpa using set)
  have other : v ≠ w := fun own => on (own ▸ off)
  exact (clear.1 v other on).2 p ⟨covers.1, covers.2, covers'.1, covers'.2⟩

theorem apart_enable (apart : WindowsApart s) (clear : s.outboundClear w) (config : SameConfig s t)
    (enabled : ∀ v, (t.win v).state ≠ .off → v = w ∨ (s.win v).state ≠ .off) : WindowsApart t := by
  have base (v : WinId) : t.out[v].base = s.out[v].base := config.base v
  have length (v : WinId) : t.out[v].length = s.out[v].length := config.length v
  have offset (v : WinId) : t.out[v].mapOffset = s.out[v].mapOffset := config.offset v
  have outbound (v : WinId) (on : (t.win v).state ≠ .off) (v' : WinId) (other : v' ≠ v) (on' : (t.win v').state ≠ .off) :
      Apart s.out[v].base.toNat (s.out[v].length * s.segBytes) s.out[v'].base.toNat (s.out[v'].length * s.segBytes)
        ∧ Apart s.out[v].mapOffset s.out[v].length s.out[v'].mapOffset s.out[v'].length := by
    rcases enabled v on with rfl | before <;> rcases enabled v' on' with rfl | before'
    · exact absurd rfl other
    · exact clear.1 v' other before'
    · exact ((clear.1 v (Ne.symm other) before).imp Apart.symm Apart.symm)
    · exact (apart.1 v before).1 v' other before'
  have inbound (v : WinId) (on : (t.win v).state ≠ .off) (i : WinId) (open' : s.inb[i].enabled = true) :
      Apart s.out[v].base.toNat (s.out[v].length * s.segBytes) s.inb[i].base.toNat s.inb[i].length.toNat := by
    rcases enabled v on with rfl | before
    · exact clear.2 i open'
    · exact (apart.1 v before).2 i open'
  constructor
  · intro v on
    simp only [State.outboundClear, base, length, offset, config.segBytes, config.inb]
    exact ⟨outbound v on, inbound v on⟩
  · intro i open'
    simp only [State.inboundClear, base, length, config.segBytes, config.inb]
    rw [config.inb] at open'
    exact ⟨fun v on => Apart.symm (inbound v on i open'), (apart.2 i open').2⟩

/-- All of the range of a window is marked at a FULL enable, and none at a CLEAN one (R10, R123). -/
theorem MarksFit.enable {full : Bool} (h : MarksFit s) (off : (s.win w).state = .off) (clear : s.outboundClear w)
    (fit : (s.win w).mapOffset + (s.win w).length ≤ 4096) (others : ∀ v, v ≠ w → t.win v = s.win v)
    (length : (t.win w).length = (s.win w).length) (offset : (t.win w).mapOffset = (s.win w).mapOffset)
    (count : (t.win w).dirtyCount = if full = true then (s.win w).length else 0) (on : (t.win w).state ≠ .off)
    (dm : t.dm = if full = true then s.dm ||| (s.win w).rangeMask else s.dm) : MarksFit t := by
  refine h.local (w := w) (fun v other on' p covers covers' => ?_) others length offset (fun p outside => ?_) ?_
    fun off' => absurd off' on
  · exact (clear.1 v other on').2 p ⟨covers.1, covers.2, covers'.1, covers'.2⟩
  · rw [dm]
    split
    · rw [BitVec.getLsbD_or, Bool.eq_false_iff.2 fun set => outside ((rangeMask_covers fit).1 set), Bool.or_false]
    · rfl
  · have place (k : Nat) : (t.win w).position k = (s.win w).position k := by simp [OutWindow.position, offset]
    have covers (k : Nat) (inside : k ∈ List.range (s.win w).length) :
        OutWindow.Covers (s.win w) ((s.win w).position k) := covers_iff.2 ⟨k, List.mem_range.1 inside, rfl⟩
    rw [if_neg on, count, marksIn_eq, length, dm]
    split
    · rw [List.countP_eq_length.2, List.length_range]
      intro k inside
      rw [place, BitVec.getLsbD_or, (rangeMask_covers fit).2 (covers k inside), Bool.or_true]
    · refine (List.countP_eq_zero.2 fun k inside => ?_).symm
      rw [place, range_clear h off clear (covers k inside)]
      simp

theorem law_enable {full : Bool} (h : Law held s) (states : StatesFit s) (off : (s.win w).state = .off)
    (records : ∀ r ∈ s.rq.records, r.window ≠ w) (clear : s.outboundClear w) :
    Law held (enableState w (enableMarks full w s)) ∧ StatesFit (enableState w (enableMarks full w s)) := by
  obtain ⟨new, on, whole, active, resync, entered⟩ := enableState_eq (s := enableMarks full w s) (w := w)
  have marks : Only [.out, .dm] s (enableMarks full w s) := by simp [Only.refl]
  have entry : Only [.out, .da, .re, .fu, .al] (enableMarks full w s) (enterWindow w new none (enableMarks full w s)) :=
    enterWindow_only
  have re : (enableMarks full w s).re = s.re := marks .re (by decide)
  have da : (enableMarks full w s).da = s.da := marks .da (by decide)
  have params := (entry .params (by decide)).trans (marks .params (by decide))
  have rq := (entry .rq (by decide)).trans (marks .rq (by decide))
  have txn := congrArg MemoryPath.txn ((entry .mp (by decide)).trans (marks .mp (by decide)))
  have cu := (entry .cu (by decide)).trans (marks .cu (by decide))
  have inb := (entry .inb (by decide)).trans (marks .inb (by decide))
  have dm := (entry .dm (by decide)).trans (enableMarks_dm (s := s) (w := w) (full := full))
  have fit := walk_enable (full := full) (w := w) |>.fit h.windows
  have states' (v : WinId) : ((enableMarks full w s).win v).state = (s.win v).state := by
    rw [enableMarks_win]
    split
    next own => rw [own]
    next => rfl
  have resyncs := segmentResyncs_enterWindow (w := w) (new := new) (halt := none)
    (segmentResyncs_congr (t := enableMarks full w s) (by rw [re]) states' h.resyncs)
  have engine : EngineLaw held (enterWindow w new none (enableMarks full w s)) :=
    EngineLaw.enterWindow (h.engine.congr re (by rw [da]) (by rw [da]))
  have kept := segmentKept_enterWindow (s := enableMarks full w s) (w := w) (new := new) (halt := none)
  have statesFit : StatesFit (enterWindow w new none (enableMarks full w s)) := by
    refine statesFit_enterWindow (fun v other => ?_) active resync
    rw [enableMarks_win, if_neg other]
    exact states v
  have win (v : WinId) : (enterWindow w new none (enableMarks full w s)).win v
      = if v = w then { s.win w with
          cursor := 0, dirtyCount := if full = true then (s.win w).length else 0, state := new, haltCause := none }
        else s.win v := by
    rw [enterWindow_win, enableMarks_win, enableMarks_win, if_pos rfl]
    split <;> rfl
  rw [entered] at fit ⊢
  unfold SegmentKept at kept
  rw [re] at kept
  generalize enterWindow w new none (enableMarks full w s) = t at *
  have own := win w
  rw [if_pos rfl] at own
  have others (v : WinId) (other : v ≠ w) : t.win v = s.win v := by rw [win, if_neg other]
  have config : SameConfig s t := by
    refine ⟨?_, ?_, ?_, by rw [params], inb⟩ <;> intro v <;> rw [win] <;> split <;> rename_i own
    all_goals simp [own]
  refine ⟨⟨fit, ?_, ?_, engine, ?_, ?_, ?_, resyncs, h.inside.kept config kept⟩, statesFit⟩
  · refine apart_enable h.apart clear config fun v on => ?_
    by_cases own : v = w
    · exact .inl own
    · exact .inr (by rwa [others v own] at on)
  · rw [config.size]
    exact h.size
  · exact h.marks.enable off clear (h.windows w).2 others (by rw [own]) (by rw [own]) (by rw [own]) (by rwa [own]) dm
  · intro r there on'
    rw [rq] at there
    rw [others _ (records r there)] at on'
    exact config.lineInside.2 (h.records r there on')
  · refine h.capture.config config cu txn fun v on' => ?_
    by_cases other : v = w
    · rw [other, own]
      exact on
    · rwa [others v other]

/-! ### WIN_DISABLE and RESET_MIRROR (R11, R120, R123, R160) -/

/-- The transaction of a capture in one of the windows is released. -/
def Released (p : WinId → Prop) (s : State) : Prop :=
  ∀ c x, s.cu = some c → s.mp.txn = some x → p c.window → x.released = true

/-- The release of a capture leaves the laws as they are (R160). -/
theorem Law.release {x : Option UpTxn} (h : Law held s)
    (capture : ∀ c y, s.cu = some c → s.mp.txn = some y →
      ∃ z, x = some z ∧ z.cls = y.cls ∧ (z.released = false → y.released = false)) :
    Law held (s.setMp { s.mp with txn := x }) := by
  refine h.frame rfl rfl rfl rfl rfl (h.engine.congr rfl rfl rfl) h.records fun c there => ?_
  obtain ⟨y, taken, cls, inside⟩ := h.capture c there
  obtain ⟨z, now, cls', kept⟩ := capture c y there taken
  exact ⟨z, now, cls'.trans cls, fun unreleased => inside (kept unreleased)⟩

theorem turnOff_dm : (turnOff w s).dm = s.dm &&& ~~~(s.win w).rangeMask := by
  unfold turnOff
  dsimp only
  split <;> simp

end Sys2Proof.Proofs.MirrorWindows
end

section
namespace Sys2Proof.Proofs.MirrorWindows

open Sys2Proof Sys2Proof.Machine

variable {s t u : State} {w v : WinId} {held : Bool}

theorem shape_turnOff : Shape s (turnOff w s) := by
  have frame : Only [.out, .da, .dm, .re] s (turnOff w s) := by simp [Only.refl]
  refine ⟨⟨?_, ?_, ?_, by rw [frame .params (by decide)], frame .inb (by decide)⟩, ?_⟩ <;> intro v <;> rw [turnOff_win] <;>
    split <;> rename_i own
  all_goals simp [own]

theorem EngineLaw.turnOff (h : EngineLaw held s) : EngineLaw held (turnOff w s) := by
  unfold Machine.turnOff
  dsimp only
  split
  · exact EngineLaw.abandon (h.congr rfl rfl rfl)
  · exact h.congr rfl rfl rfl

/-- Turning a window OFF clears the marks of its range and no other (R11, R123). -/
theorem turnOff_marked {p : Nat} : (turnOff w s).dm.getLsbD p = true
    ↔ s.dm.getLsbD p = true ∧ ¬OutWindow.Covers (s.win w) p := by
  have range := rangeMask_getLsbD (x := s.win w) (p := p)
  rw [turnOff_dm, BitVec.getLsbD_and, BitVec.getLsbD_not]
  by_cases high : p < 4096
  · simp only [high, true_and] at range
    simp [high, ← range]
  · simp [BitVec.getLsbD_of_ge s.dm p (by omega)]

theorem MarksFit.turnOff (h : MarksFit s) (apart : WindowsApart s) (on : (s.win w).state ≠ .off) :
    MarksFit (turnOff w s) := by
  have own := turnOff_win (s := s) (w := w) (v := w)
  rw [if_pos rfl] at own
  have masked (p : Nat) := turnOff_marked (s := s) (w := w) (p := p)
  refine h.local (w := w) (fun v other on' p covers => covers_apart apart on on' other covers)
    (fun v other => by rw [turnOff_win, if_neg other]) (by rw [own]) (by rw [own]) (fun p outside => ?_) (by simp [own])
    fun _ p covers => ?_
  · exact Bool.eq_iff_iff.2 ((masked p).trans (and_iff_left outside))
  · exact Bool.eq_false_iff.2 fun set => ((masked p).1 set).2 covers

theorem law_turnOff (h : Law held s) (states : StatesFit s) (on : (s.win w).state ≠ .off) (released : Released (· = w) s) :
    Law held (turnOff w s) ∧ StatesFit (turnOff w s) := by
  have frame : Only [.out, .da, .dm, .re] s (turnOff w s) := by simp [Only.refl]
  refine ⟨⟨walk_turnOff.fit h.windows, apart_of_shape shape_turnOff h.apart, ?_, h.engine.turnOff,
    h.marks.turnOff h.apart on, h.records.shape shape_turnOff ?_, fun c there => ?_,
    segmentResyncs_turnOff h.resyncs, h.inside.kept shape_turnOff.toSameConfig ?_⟩, fun v => ?_⟩
  · rw [shape_turnOff.size]
    exact h.size
  · rw [frame .rq (by decide)]
    exact recordsFrom_refl _
  · rw [frame .cu (by decide)] at there
    obtain ⟨x, taken, cls, inside⟩ := h.capture c there
    refine ⟨x, by rw [frame .mp (by decide)]; exact taken, cls, fun kept => ?_⟩
    have other : c.window ≠ w := fun own => by
      rw [released c x there taken own] at kept
      cases kept
    rw [turnOff_win, if_neg other, shape_turnOff.lineInside]
    exact inside kept
  · exact turnOff_segment.elim .inl fun same => segmentKept_of_re same.1
  · rw [turnOff_win]
    split
    · exact ⟨by simp, by simp⟩
    · exact states v

/-- The capture of a disabled window is released before or after the window is turned OFF: the two touch different blocks. -/
theorem releaseCapture_turnOff : releaseCapture w (turnOff w s) = turnOff w (releaseCapture w s) := by
  have abandons (t : State) (x : MemoryPath) : abandon (t.setMp x) = (abandon t).setMp x := by
    unfold abandon
    cases read : t.re.read <;> simp [read] <;> rfl
  have off (x : MemoryPath) : turnOff w (s.setMp x) = (turnOff w s).setMp x := by
    unfold turnOff State.holdsSegment
    simp only [State.setMp_re, apply_ite (State.setMp · x)]
    rw [← abandons]
    rfl
  have frame : Only [.out, .da, .dm, .re] s (turnOff w s) := by simp [Only.refl]
  have mp : (turnOff w s).mp = s.mp := frame .mp (by decide)
  unfold releaseCapture
  rw [mp]
  repeat' split
  all_goals first | rfl | exact (off _).symm

theorem CaptureInside.cls {c : Capture} {x : UpTxn} (h : CaptureInside s) (there : s.cu = some c) (taken : s.mp.txn = some x) :
    x.cls = .capture c.window c.line := by
  obtain ⟨y, taken', cls, _⟩ := h c there
  rw [Option.some.inj (taken.symm.trans taken')]
  exact cls

theorem law_disable (h : Law held s) (states : StatesFit s) (on : (s.win w).state ≠ .off) :
    Law held (releaseCapture w (turnOff w s)) ∧ StatesFit (releaseCapture w (turnOff w s)) := by
  rw [releaseCapture_turnOff]
  have out : (releaseCapture w s).out = s.out := by
    have frame : Only [.mp] s (releaseCapture w s) := by simp [Only.refl]
    exact frame .out (by decide)
  have released : Released (· = w) (releaseCapture w s) ∧ Law held (releaseCapture w s) := by
    unfold releaseCapture
    split
    next none => exact ⟨fun c x _ taken => by simp [none] at taken, h⟩
    next x taken =>
      have capture (c : Capture) (there : s.cu = some c) := h.capture.cls there taken
      split
      next v line cls =>
        split
        next own =>
          refine ⟨fun c y _ now _ => ?_, h.release fun c y there before => ?_⟩
          · simp only [State.setMp_mp, Option.some.injEq] at now
            rw [← now]
          · rw [taken] at before
            obtain rfl := Option.some.inj before
            exact ⟨_, rfl, rfl, by simp⟩
        next other =>
          refine ⟨fun c y there _ own => ?_, h⟩
          have := cls.symm.trans (capture c there)
          simp only [TxnClass.capture.injEq] at this
          exact absurd (this.1.trans own) other
      all_goals
        rename_i cls
        refine ⟨fun c y there _ _ => ?_, h⟩
        simp [cls] at capture
        exact absurd there (capture c)
  exact law_turnOff released.2 (statesFit_of_out out states) (by rwa [win_of_out out]) released.1

/-- RESET_MIRROR at the windows and the engine, once the capture is released (R3, R120, R138, R207). -/
theorem law_clearWindows (h : Law held s) (released : Released (fun _ => True) s) :
    Law held (resetEngine (clearWindows s)) ∧ StatesFit (resetEngine (clearWindows s)) := by
  have frame : Only [.da, .re] (clearWindows s) (resetEngine (clearWindows s)) := by simp [Only.refl]
  have win (v : WinId) : (resetEngine (clearWindows s)).win v
      = { s.win v with state := .off, haltCause := none, cursor := 0, dirtyCount := 0 } := by
    rw [win_of_out (frame .out (by decide)), clearWindows_win]
  have shape : Shape s (resetEngine (clearWindows s)) := by
    refine ⟨⟨?_, ?_, ?_, by rw [frame .params (by decide)]; rfl, frame .inb (by decide)⟩, ?_⟩ <;> intro v <;> rw [win]
    simp
  refine ⟨⟨fun v => ?_, apart_of_shape shape h.apart, ?_, EngineLaw.resetEngine (h.engine.congr rfl rfl rfl), ⟨fun v => ?_, ?_⟩,
    fun r _ on => ?_, fun c there => ?_, segmentResyncs_of_none resetEngine_current, fun g there => ?_⟩, fun v => ?_⟩
  · have entry : EntryFits ((resetEngine (clearWindows s)).win v) := by
      rw [win]
      exact ⟨by simp, (h.windows v).2⟩
    exact entry
  · rw [shape.size]
    exact h.size
  · rw [win]
    rfl
  · intro p set
    rw [frame .dm (by decide)] at set
    simp [clearWindows] at set
  · rw [win] at on
    exact absurd rfl on
  · rw [frame .cu (by decide)] at there
    obtain ⟨x, taken, cls, _⟩ := h.capture c there
    refine ⟨x, by rw [frame .mp (by decide)]; exact taken, cls, fun kept => ?_⟩
    rw [released c x there taken trivial] at kept
    cases kept
  · rw [resetEngine_current] at there
    cases there
  · rw [win]
    exact ⟨by simp, by simp⟩

theorem law_clear (h : Law held s) :
    Law held (resetEngine (clearWindows (releaseAny s))) ∧ StatesFit (resetEngine (clearWindows (releaseAny s))) := by
  have released : Released (fun _ => True) (releaseAny s) ∧ Law held (releaseAny s) := by
    unfold releaseAny
    split
    next none => exact ⟨fun c x _ taken => by simp [none] at taken, h⟩
    next x taken =>
      have capture (c : Capture) (there : s.cu = some c) := h.capture.cls there taken
      split
      next v line cls =>
        refine ⟨fun c y _ now _ => ?_, h.release fun c y there before => ?_⟩
        · simp only [State.setMp_mp, Option.some.injEq] at now
          rw [← now]
        · rw [taken] at before
          obtain rfl := Option.some.inj before
          exact ⟨_, rfl, rfl, by simp⟩
      all_goals
        rename_i cls
        refine ⟨fun c y there _ _ => ?_, h⟩
        simp [cls] at capture
        exact absurd there (capture c)
  exact law_clearWindows released.2 released.1

/-! ### The inbound table and the parameters (R12, R13, R202) -/

theorem law_inbound {i : WinId} {x : InWindow} (h : Law held s)
    (guard : x.enabled = false ∨ (x = { s.entry i with enabled := true } ∧ s.inboundConflict i = false)) :
    Law held (s.setEntry i x) := by
  have entry (j : WinId) : (s.setEntry i x).inb[j] = if j = i then x else s.inb[j] := by
    by_cases own : j = i
    · subst own; simp [State.setEntry]
    · rw [if_neg own]; exact entry_setEntry_ne x own
  refine ⟨h.windows, ?_, h.size, h.engine.congr rfl rfl rfl, h.marks, h.records, h.capture, h.resyncs, h.inside⟩
  rcases guard with shut | ⟨rfl, clear⟩
  · have kept (j : WinId) (on : (s.setEntry i x).inb[j].enabled = true) : (s.setEntry i x).inb[j] = s.inb[j] := by
      rw [entry] at on ⊢
      split at on
      · rw [shut] at on
        cases on
      · rw [if_neg ‹_›]
    constructor
    · intro v on
      obtain ⟨others, inbound⟩ := h.apart.1 v on
      exact ⟨others, fun j enabled => by rw [kept j enabled]; exact inbound j (by rwa [← kept j enabled])⟩
    · intro j on
      obtain ⟨outbound, others⟩ := h.apart.2 j (by rwa [← kept j on])
      unfold State.inboundClear
      rw [kept j on]
      exact ⟨outbound, fun k other enabled => by rw [kept k enabled]; exact others k other (by rwa [← kept k enabled])⟩
  · have clear := inboundConflict_iff.1 clear
    have range (j : WinId) : (s.setEntry i { s.entry i with enabled := true }).inb[j].base = s.inb[j].base
        ∧ (s.setEntry i { s.entry i with enabled := true }).inb[j].length = s.inb[j].length := by
      rw [entry]
      split
      next own => subst own; exact ⟨rfl, rfl⟩
      next => exact ⟨rfl, rfl⟩
    have enabled (j : WinId) (on : (s.setEntry i { s.entry i with enabled := true }).inb[j].enabled = true) :
        j = i ∨ s.inb[j].enabled = true := by
      rw [entry] at on
      split at on
      · exact .inl ‹_›
      · exact .inr on
    constructor
    · intro v on
      obtain ⟨others, inbound⟩ := h.apart.1 v on
      refine ⟨others, fun j there => ?_⟩
      rw [(range j).1, (range j).2]
      rcases enabled j there with rfl | before
      · exact Apart.symm (clear.1 v on)
      · exact inbound j before
    · intro j on
      unfold State.inboundClear
      rw [(range j).1, (range j).2]
      refine ⟨fun v there => ?_, fun k other there => ?_⟩
      · rcases enabled j on with rfl | before
        · exact clear.1 v there
        · exact (h.apart.2 j before).1 v there
      · rw [(range k).1, (range k).2]
        rcases enabled j on with rfl | before <;> rcases enabled k there with rfl | before'
        · exact absurd rfl other
        · exact clear.2 k other before'
        · exact Apart.symm (clear.2 j (Ne.symm other) before)
        · exact (h.apart.2 j before).2 k other before'

/-- SEGMENT_SIZE changes only while every window is OFF, and then no range rests on it (R203). -/
theorem law_params {p : Params} (h : Law held s) (guard : p.segmentSize = s.params.segmentSize
    ∨ ((∀ w, (s.win w).state = .off) ∧ p.segmentSize.toNat ∈ [4, 8, 16, 32, 64])) : Law held (s.setParams p) := by
  rcases guard with same | ⟨off, size⟩
  · have shape : Shape s (s.setParams p) := shape_of_out rfl same rfl
    exact h.frame rfl rfl same rfl rfl (h.engine.congr rfl rfl rfl)
      (h.records.shape shape (recordsFrom_refl _)) (h.capture.config shape.toSameConfig rfl rfl fun _ => id)
  · refine ⟨h.windows, ⟨fun v on => absurd (off v) on, fun i on => ?_⟩, size, h.engine.congr rfl rfl rfl, h.marks,
      fun r _ on => absurd (off _) on, fun c there => ?_, h.resyncs, fun g there => ?_⟩
    · exact ⟨fun v on' => absurd (off v) on', (h.apart.2 i on).2⟩
    · obtain ⟨x, taken, cls, inside⟩ := h.capture c there
      exact ⟨x, taken, cls, fun kept => absurd (off _) (inside kept).1⟩
    · have resync := h.resyncs g there
      simp [off] at resync

end Sys2Proof.Proofs.MirrorWindows
end

section
namespace Sys2Proof.Proofs.MirrorWindows

open Sys2Proof Sys2Proof.Machine

variable {s t u : State} {w v : WinId} {held : Bool}

/-! ### Every move keeps the dirty map in step (R7, R17, R121) -/

theorem capture_of_none (cu : t.cu = none) : CaptureInside t := by
  intro c there
  rw [cu] at there
  cases there

theorem law_enter {new : WinState} {halt : Option HaltCause} (h : Law held s) (states : StatesFit s)
    (guard : EnterGuard s w new halt) : Law held (enterWindow w new halt s) ∧ StatesFit (enterWindow w new halt s) := by
  obtain ⟨enabled, stays, cause, _, active, resync⟩ := guard
  have on : (s.win w).state ≠ .off := by
    rcases enabled with on | own
    · exact on
    · obtain ⟨g, current, rfl⟩ := holdsSegment_iff.1 own
      simp [h.resyncs g current]
  exact ⟨h.enterWindow on stays cause, statesFit_enterWindow (fun v _ => states v) active resync⟩

theorem law_leave {cause : DownCause} {peer : Option DownCause} (h : Law held s) (states : StatesFit s) :
    Law held (endWindows (discardAll (leaveUp cause peer s))) ∧ StatesFit (endWindows (discardAll (leaveUp cause peer s))) := by
  have left : Law held (leaveUp cause peer s) := h.only (by simp [Only.refl])
  obtain ⟨discarded, states'⟩ := law_discardAll left (statesFit_of_out (by simp) states)
  exact law_endWindows discarded states'

/-- The segments of a set request are among those of the window (R122). -/
theorem markGuard_lt {k : Nat} (h : Law held s) (guard : MarkGuard s w k) : k < (s.win w).length := by
  rcases guard with below | ⟨c, there, rfl, enabled, rfl⟩
  · exact below
  · exact segmentOf_lt (h.capture.line there enabled)

theorem law_record {c : Capture} {r : Record} (h : Law held s) (there : s.cu = some c)
    (mirrored : (s.captureState c).mirrored = true) (window : r.window = c.window) (line : r.line = c.line) :
    Law held (append r s) := by
  refine h.append ?_
  rw [window, line]
  exact h.capture.line there fun off => by simp [off, WinState.mirrored] at mirrored

/-- `Law` and `StatesFit` together, which every move keeps. -/
def Kept (held : Bool) (s : State) : Prop := Law held s ∧ StatesFit s

theorem move_kept (m : Move s t) : Kept held s → Kept held t := by
  rintro ⟨h, states⟩
  cases m with
  | quiet q =>
    have out := q.only .out (by decide)
    have params := q.only .params (by decide)
    have shape : Shape s t := shape_of_out out (by rw [params]) (q.only .inb (by decide))
    have da := q.only .da (by decide)
    exact ⟨h.frame out (q.only .dm (by decide)) (by rw [params]) (q.only .inb (by decide)) (q.only .re (by decide))
      (h.engine.congr (q.only .re (by decide)) (by rw [da]) (by rw [da])) (h.records.shape shape q.records)
      (h.capture.config shape.toSameConfig (q.only .cu (by decide)) q.txn fun v on => by rwa [state_of_out out]),
      statesFit_of_out out states⟩
  | link => exact ⟨h.only (by simp [Only.refl]), states⟩
  | leave => exact law_leave h states
  | ask d guard => exact ⟨h.ask guard, statesFit_of_out (by simp) states⟩
  | calm d guard =>
    exact ⟨h.frame rfl rfl rfl rfl rfl (h.engine.congr rfl guard.port guard.cp) h.records h.capture, states⟩
  | complete => exact ⟨h.path (capture_of_none rfl), states⟩
  | drop => exact ⟨h.path (x := s.mp) (capture_of_none rfl), states⟩
  | hold c c' there window line =>
    refine ⟨h.path (x := s.mp) ?_, states⟩
    rintro _ ⟨⟩
    rw [window, line]
    exact h.capture c there
  | pass x free =>
    have none : s.cu = none := by
      by_contra some
      obtain ⟨c, there⟩ := Option.ne_none_iff_exists'.1 some
      obtain ⟨y, taken, _⟩ := h.capture c there
      simp [free] at taken
    exact ⟨h.frame rfl rfl rfl rfl rfl (h.engine.congr rfl rfl rfl) h.records (capture_of_none none), states⟩
  | capture x c free enabled inside =>
    refine ⟨h.path ?_, states⟩
    rintro _ ⟨⟩
    exact ⟨_, rfl, rfl, fun _ => ⟨enabled, inside⟩⟩
  | enter w new halt guard => exact law_enter h states guard
  | mark towards w ks enabled guard => exact law_mark h states fun k there => markGuard_lt h (guard k there)
  | select => exact law_select h states
  | read => exact ⟨h.startRead, statesFit_of_out (by simp) states⟩
  | segment g up current drains => exact law_segmentDone h states current drains
  | record c r there mirrored window line =>
    exact ⟨law_record h there mirrored window line, statesFit_of_out (by simp) states⟩
  | config w x off same range => exact law_config h states off same range
  | enable full w off length records clear => exact law_enable h states off records (outboundConflict_iff.1 clear)
  | disable w on => exact law_disable h states on
  | clear => exact law_clear h
  | inbound i x guard => exact ⟨law_inbound h guard, states⟩
  | params p guard => exact ⟨law_params h guard, states⟩

/-- Taking the result of a copy read leaves its access on the port, and appends a record of the segment's line (R130, R136). -/
theorem taken_kept (owner : s.portClient = some .cp) (m : CopyTaken s t) : Kept false s → Kept true t := by
  rintro ⟨h, states⟩
  have ended : Law true (endRead s) := by
    refine h.read (by simp [endRead, Only.refl]) (h.engine.endRead owner) h.resyncs fun g current => ?_
    exact ⟨(h.inside g current).1, fun outstanding => absurd rfl outstanding⟩
  cases m with
  | ended => exact ⟨ended, states⟩
  | copied g bytes current kept =>
    have busy : s.re.read = .granted := by
      unfold State.portClient at owner
      obtain ⟨⟨client, x⟩, there, rfl⟩ := Option.map_eq_some_iff.1 owner
      simpa using h.engine.port.1 ⟨x, there⟩
    have inside : s.lineInside g.window (s.lineOf g) := copyRecord_inside h.inside current busy kept
    have appended : Law true (endRead (append (copyRecord g bytes s) s)) :=
      ended.append (r := copyRecord g bytes s) inside
    refine ⟨appended.read (by simp [copyOk, Only.refl]) ?_ ?_ ?_, states⟩
    · obtain ⟨reserved, requested, draining, asked, port, ended, dropped⟩ := appended.engine
      constructor <;> simp_all [copyOk, endRead]
    · intro g' there
      simp only [copyOk, State.setRe_re, Option.some.injEq] at there
      rw [← there]
      exact h.resyncs g current
    · intro g' there
      simp only [copyOk, State.setRe_re, Option.some.injEq] at there
      rw [← there]
      exact ⟨(h.inside g current).1, fun outstanding => absurd rfl outstanding⟩

theorem released_kept : Kept true s → Kept false (releasePort s) :=
  fun ⟨h, states⟩ => ⟨h.releasePort, statesFit_of_out (by simp) states⟩

/-- Pin reset leaves every window OFF and no mark set (R168). -/
theorem pinReset_kept {pending drawn pins nodeId offer} : Kept false (State.pinReset pending drawn pins nodeId offer) := by
  have off (v : WinId) : ((State.pinReset pending drawn pins nodeId offer).win v).state = .off := by
    rw [pinReset_win]
    rfl
  refine ⟨⟨pinReset_bounds.2.2.1, ⟨fun v on => absurd (off v) on, fun i on => ?_⟩, ?_, ?_, ⟨fun v => ?_, fun p set => ?_⟩,
    fun r there => ?_, capture_of_none rfl, segmentResyncs_of_none rfl, fun g there => ?_⟩, fun v => ?_⟩
  · simp [State.pinReset, InWindow.reset] at on
  · show Params.reset.segmentSize.toNat ∈ [4, 8, 16, 32, 64]
    decide
  · constructor <;> simp [State.pinReset]
  · rw [if_pos (off v), pinReset_win]
    rfl
  · simp [State.pinReset] at set
  · cases there
  · cases there
  · exact ⟨fun active => by simp [off v] at active, fun resync => by simp [off v] at resync⟩

/-- Settles O9: every move keeps the map in step with the windows; between the taking of a copy read's result and the next
grant the port still holds the read's access. -/
theorem stepKeepsDirtyMap : Obligations.StepKeepsDirtyMap := by
  intro s t h e
  rw [mapLaw_iff] at h ⊢
  exact step_keeps (P := Kept false) (weak := Kept true)
    (fun _ _ ⟨h, states⟩ => ⟨h.frame rfl rfl rfl rfl rfl (h.engine.congr rfl rfl rfl) h.records h.capture, states⟩)
    (fun _ _ _ _ _ => pinReset_kept) move_kept move_kept taken_kept released_kept s t h e

end Sys2Proof.Proofs.MirrorWindows
end

section
/-! PROOF. The family 01_mirror_windows, part 4: reset, and the commands that touch one table entry (O3, O4, O17, O22,
O23). -/

namespace Sys2Proof.Proofs.MirrorWindows

open Sys2Proof Sys2Proof.Machine

variable {s t u : State} {w v : WinId}

/-! ### Reset (R168, R202) -/

/-- Settles O3: each block of the pin-reset state is written out in it. -/
theorem resetValues : Obligations.ResetValues := by
  refine ⟨⟨fun w => ?_, fun i => ?_, rfl, rfl, rfl⟩, ?_, ⟨rfl, rfl, rfl, rfl, rfl, fun c => ?_, rfl⟩⟩
  · exact pinReset_win
  · simp [State.reset, State.pinReset, InWindow.reset]
  · exact ⟨rfl, rfl, rfl, rfl, rfl, rfl, rfl, rfl, rfl, rfl, rfl, rfl, rfl, rfl, rfl, rfl, rfl, rfl, rfl, rfl, rfl, rfl, rfl,
      rfl, rfl, rfl, rfl, rfl, rfl, rfl, rfl, rfl, rfl, rfl, rfl, rfl, rfl, rfl, rfl⟩
  · simp [State.reset, State.pinReset]

/-- Settles O4: the laws that every step keeps are those of the pin-reset state. -/
theorem lawsHoldAtReset : Obligations.LawsHoldAtReset := by
  obtain ⟨capacities, floor, windows, unasked⟩ :
      CapacitiesHold State.reset ∧ CopyFloorFits State.reset ∧ WindowsFit State.reset ∧ FreePortUnasked State.reset :=
    pinReset_bounds
  have quiet : QuietWhileDown State.reset := pinReset_quietDown
  have map : MapLaw State.reset := mapLaw_iff.2 pinReset_kept
  have slots : SlotsFit State.reset := ⟨by decide, map.2.2.1⟩
  have down : State.reset.lc.state ≠ .up := by decide
  refine ⟨?_, capacities, unasked, ⟨by decide, by decide, rfl⟩, fun _ => ⟨rfl, rfl, rfl⟩, floor, windows, ?_, slots, quiet,
    ⟨slots, quiet, fun up => absurd up down⟩, map.2.1, map⟩
  · unfold AlertFollows
    decide
  · exact ⟨fun r there => (List.not_mem_nil there).elim, fun r there => (List.not_mem_nil there).elim⟩

/-! ### Arguments of the commands (R6, R212) -/

theorem onWindow_refused {b : Byte} {run : WinId → State → Execution} (h : 8 ≤ b.toNat) :
    onWindow b run s = refuse .badArg s := by
  have none : winId b = none := dif_neg (by omega)
  rw [onWindow, none]

theorem onWindow_run {b : Byte} {run : WinId → State → Execution} (h : b.toNat = w.val) : onWindow b run s = run w s := by
  have found : winId b = some w := by
    have small : b.toNat < 8 := h ▸ w.isLt
    rw [winId, dif_pos small]
    exact congrArg some (Fin.ext h)
  rw [onWindow, found]

theorem byte_le_one {b : Byte} : b.toNat ≤ 1 ↔ b = 0 ∨ b = 1 := by
  constructor
  · intro h
    rcases Nat.le_one_iff_eq_zero_or_eq_one.1 h with zero | one
    · exact .inl (BitVec.eq_of_toNat_eq (by simpa using zero))
    · exact .inr (BitVec.eq_of_toNat_eq (by simpa using one))
  · rintro (rfl | rfl) <;> decide

theorem yesNo_le {b : Byte} (h : b.toNat ≤ 1) : yesNo b = some (decide (b = 1)) := by
  rcases byte_le_one.1 h with rfl | rfl <;> rfl

theorem yesNo_gt {b : Byte} (h : ¬b.toNat ≤ 1) : yesNo b = none := by
  rw [byte_le_one, not_or] at h
  rw [yesNo, if_neg h.1, if_neg h.2]

theorem policyOf_le {b : Byte} (h : b.toNat ≤ 1) : policyOf b = some (if b = 0 then .posted else .confirmed) := by
  rcases byte_le_one.1 h with rfl | rfl <;> rfl

theorem policyOf_gt {b : Byte} (h : ¬b.toNat ≤ 1) : policyOf b = none := by
  rw [byte_le_one, not_or] at h
  rw [policyOf, if_neg h.1, if_neg h.2]

theorem isEnabled_iff : (s.win w).isEnabled = true ↔ s.out[w].state ≠ .off := by simp [OutWindow.isEnabled, win_eq]

/-- A command answers with the response of its execution. -/
theorem exec_refused {r : Request} {status : Status} (h : s.holds r) (run : runRequest r s = refuse status s) :
    exec (r.row r.crc) s = .next (s.answered status []) := by rw [exec_request h, run]; rfl

theorem exec_accepted {r : Request} (h : s.holds r) (run : runRequest r s = accept t) :
    exec (r.row r.crc) s = .next (t.answered .ok []) := by rw [exec_request h, run]; rfl

/-! ### Status reads (R15, R72) -/

theorem flagByte_holdsSegment : flagByte (s.holdsSegment w) = if ∃ g, s.re.current = some g ∧ g.window = w then 1 else 0 := by
  by_cases h : ∃ g, s.re.current = some g ∧ g.window = w
  · rw [if_pos h, holdsSegment_iff.2 h]; rfl
  · rw [if_neg h, Bool.eq_false_iff.2 fun e => h (holdsSegment_iff.1 e)]; rfl

/-- Settles O22. -/
theorem statusReadsResult : Obligations.StatusReadsResult := by
  refine ⟨fun b s => ⟨fun h => ⟨fun big => ?_, fun w own => ?_⟩, fun h => ⟨fun big => ?_, fun i own => ?_⟩⟩, fun s h => ?_⟩
  · exact exec_refused h (onWindow_refused big)
  · refine (exec_request h).trans ?_
    rw [runRequest, onWindow_run own, winStatusAt, flagByte_holdsSegment]
    rfl
  · exact exec_refused h (onWindow_refused big)
  · refine (exec_request h).trans ?_
    rw [runRequest, onWindow_run own]
    rfl
  · refine (exec_request h).trans ?_
    rw [runRequest, linkStatusRun, State.copyCount, List.countP_eq_length_filter]
    rfl

/-! ### WIN_CONFIG (R8) -/

/-- The check of the extent against SEGMENT_SIZE, in the words of the statements (R8, R9). -/
theorem extentFits_iff {base : Addr} {length : Nat} : s.extentFits base length = true
    ↔ base.toNat % s.segBytes = 0 ∧ base.toNat + length * s.segBytes ≤ 2 ^ 32 := by
  simp only [State.extentFits, Bool.and_eq_true, decide_eq_true_eq]
  exact Iff.rfl

/-- Settles O17. -/
theorem winConfigResult : Obligations.WinConfigResult := by
  intro b base length mapOffset policy autoResync s h
  refine ⟨fun big => exec_refused h (onWindow_refused big), fun w own => ⟨fun on => ?_, fun off => ⟨fun bad => ?_, fun good => ?_⟩⟩⟩
  · refine exec_refused h ((onWindow_run own).trans ?_)
    rw [winConfigAt, if_pos (isEnabled_iff.2 on)]
  all_goals
    have disabled : ¬(s.win w).isEnabled = true := fun on => isEnabled_iff.1 on off
  · refine exec_refused h ((onWindow_run own).trans ?_)
    rw [winConfigAt, if_neg disabled]
    by_cases policyOk : policy.toNat ≤ 1
    · by_cases autoOk : autoResync.toNat ≤ 1
      · rw [policyOf_le policyOk, yesNo_le autoOk]
        refine if_neg fun checks => bad ?_
        simp only [Bool.and_eq_true, decide_eq_true_eq, extentFits_iff] at checks
        obtain ⟨⟨⟨⟨aligned, fits⟩, some⟩, most⟩, range⟩ := checks
        exact ⟨aligned, some, most, range, fits, policyOk, autoOk⟩
      · rw [yesNo_gt autoOk]
        split
        next given => cases given
        next => rfl
    · rw [policyOf_gt policyOk]
  · obtain ⟨aligned, some, most, range, fits, policyOk, autoOk⟩ := good
    refine exec_accepted h ((onWindow_run own).trans ?_)
    rw [winConfigAt, if_neg disabled, policyOf_le policyOk, yesNo_le autoOk]
    refine (if_pos ?_).trans rfl
    simp only [Bool.and_eq_true, decide_eq_true_eq, extentFits_iff]
    exact ⟨⟨⟨⟨aligned, fits⟩, some⟩, most⟩, range⟩

/-! ### Inbound entries (R12 to R14) -/

/-- Settles O23. -/
theorem inboundCommandsResult : Obligations.InboundCommandsResult := by
  refine fun b s => ⟨fun base length guard h => ⟨fun big => exec_refused h (onWindow_refused big), fun i own =>
    ⟨fun on => ?_, fun off bad => ?_, fun off good => ?_⟩⟩, fun h => ⟨fun big => exec_refused h (onWindow_refused big),
    fun i own => ⟨fun unfit => ?_, fun off some meets => ?_, fun off some clear => ?_⟩⟩, fun h =>
    ⟨fun big => exec_refused h (onWindow_refused big), fun i own => exec_accepted h (onWindow_run own)⟩⟩
  · refine exec_refused h ((onWindow_run own).trans ?_)
    exact if_pos on
  · have disabled : ¬(s.entry i).enabled = true := Bool.eq_false_iff.1 off
    refine exec_refused h ((onWindow_run own).trans ?_)
    rw [inConfigAt, if_neg disabled]
    by_cases guardOk : guard.toNat ≤ 1
    · rw [yesNo_le guardOk]
      refine if_neg fun checks => bad ?_
      simp only [Bool.and_eq_true, decide_eq_true_eq] at checks
      obtain ⟨⟨⟨⟨aligned, lines⟩, some⟩, most⟩, fits⟩ := checks
      exact ⟨aligned, lines, some, most, fits, guardOk⟩
    · rw [yesNo_gt guardOk]
  · obtain ⟨aligned, lines, some, most, fits, guardOk⟩ := good
    have disabled : ¬(s.entry i).enabled = true := Bool.eq_false_iff.1 off
    refine exec_accepted h ((onWindow_run own).trans ?_)
    rw [inConfigAt, if_neg disabled, yesNo_le guardOk]
    refine (if_pos ?_).trans ?_
    · simp only [Bool.and_eq_true, decide_eq_true_eq]
      exact ⟨⟨⟨⟨aligned, lines⟩, some⟩, most⟩, fits⟩
    · simp only [State.entry, off]
      rfl
  · refine exec_refused h ((onWindow_run own).trans (if_pos ?_))
    rw [Bool.or_eq_true, decide_eq_true_eq]
    exact unfit
  all_goals
    have fit : ¬((s.entry i).enabled || decide ((s.entry i).length = 0)) = true := by
      rw [Bool.or_eq_true, decide_eq_true_eq, not_or]
      exact ⟨Bool.eq_false_iff.1 off, some⟩
  · refine exec_refused h ((onWindow_run own).trans ?_)
    rw [inEnableAt, if_neg fit, if_pos]
    by_contra clear
    exact meets (inboundConflict_iff.1 (by simpa using clear))
  · refine exec_accepted h ((onWindow_run own).trans ?_)
    rw [inEnableAt, if_neg fit, if_neg (by simp [inboundConflict_iff.2 clear])]
    rfl

end Sys2Proof.Proofs.MirrorWindows
end

section
/-! PROOF. The family 01_mirror_windows, part 5: what follows a window command at the engine, and the commands that move a
window between its states (O18, O19, O20, O21). -/

namespace Sys2Proof.Proofs.MirrorWindows

open Sys2Proof Sys2Proof.Machine

variable {s t u : State} {w v : WinId}

/-! ### An abandoned read through what follows (R128, R135, R136) -/

/-- `ReadAbandoned` looks at the engine's read and segment, at the arbiter and at the configuration. -/
theorem readAbandoned_congr (h : ReadAbandoned s t) (read : u.re.read = t.re.read)
    (dropped : u.re.readDropped = t.re.readDropped) (reservation : u.re.reservation = t.re.reservation)
    (current : u.re.current = t.re.current) (port : u.da.port = t.da.port) (cp : u.da.cp = t.da.cp)
    (out : u.out = t.out) (params : u.params = t.params) : ReadAbandoned s u := by
  have readOf (g : Segment) : u.readOf g = t.readOf g := by
    simp [State.readOf, State.segLines, State.segBytes, out, params]
  unfold ReadAbandoned at h ⊢
  simp only [read, dropped, reservation, current, port, cp, readOf]
  exact h

/-- What abandoning leaves at the engine and the arbiter is all that `ReadAbandoned` asks for (R135). -/
theorem readAbandoned_of_abandon (re : t.re = (abandon s).re) (da : t.da = (abandon s).da) : ReadAbandoned s t := by
  obtain ⟨granted, requested⟩ := abandon_read (s := s)
  unfold ReadAbandoned
  rw [re, da]
  refine ⟨granted, fun was => ?_⟩
  obtain ⟨dropped, gone | ⟨_, g, current, _⟩⟩ := requested was
  · exact ⟨dropped, .inl gone⟩
  · rw [abandon_current.1] at current
    cases current

/-- A grant leaves the read withdrawn, or takes the first read of the segment taken since (R172). -/
theorem readAbandoned_grant (h : ReadAbandoned s t) : ReadAbandoned s (grant t) := by
  obtain same | ⟨client, x, free, _, asked, given⟩ := grant_cases (s := t)
  · rwa [same]
  · obtain ⟨granted, requested⟩ := h
    have readOf (g : Segment) : (readGranted client (t.setDa (t.da.granted x client))).readOf g = t.readOf g := by
      cases client <;> rfl
    rw [given]
    refine ⟨fun was => ?_, fun was => ?_⟩
    · obtain ⟨read, dropped, reservation, busy⟩ := granted was
      refine ⟨?_, ?_, ?_, fun held => ?_⟩
      · cases client <;> simp [readGranted, read]
      · cases client <;> simpa [readGranted] using dropped
      · cases client <;> simpa [readGranted] using reservation
      · rw [← (busy held).1, free] at held
        cases held
    · obtain ⟨dropped, gone | ⟨reservation, g, current, first, waits | holds⟩⟩ := requested was
      · obtain ⟨read, reservation, cp⟩ := gone
        cases client with
        | cp => simp [Arbiter.request, cp] at asked
        | fg | ap => exact ⟨dropped, .inl ⟨read, reservation, cp⟩⟩
      · obtain ⟨read, cp⟩ := waits
        refine ⟨by cases client <;> simpa [readGranted] using dropped, .inr ⟨by cases client <;> simpa [readGranted],
          g, by cases client <;> simpa [readGranted], first, ?_⟩⟩
        rw [readOf]
        cases client with
        | cp =>
          have same : x = t.readOf g := Option.some.inj (asked.symm.trans cp)
          exact .inr ⟨rfl, by simp [readGranted, Arbiter.granted, same]⟩
        | fg | ap => exact .inl ⟨read, cp⟩
      · rw [free] at holds
        cases holds.2

theorem readAbandoned_presentFg {x : Txn} (h : ReadAbandoned s t) : ReadAbandoned s (presentFg x t) :=
  readAbandoned_grant (t := t.setDa { t.da with fg := some x }) (readAbandoned_congr h rfl rfl rfl rfl rfl rfl rfl rfl)

theorem readAbandoned_forward (h : ReadAbandoned s t) : ReadAbandoned s (forward t) := by
  unfold Machine.forward
  split
  · exact h
  · exact readAbandoned_presentFg h

theorem readAbandoned_slotCheck {c : Capture} (h : ReadAbandoned s t) : ReadAbandoned s (slotCheck c t) := by
  obtain ⟨y, _, waits | onward⟩ := slotCheck_cases c t
  · rw [waits]; exact readAbandoned_congr h rfl rfl rfl rfl rfl rfl rfl rfl
  · rw [onward]; exact readAbandoned_forward (readAbandoned_congr h rfl rfl rfl rfl rfl rfl rfl rfl)

theorem readAbandoned_recheckSlot (h : ReadAbandoned s t) : ReadAbandoned s (recheckSlot t) := by
  unfold Machine.recheckSlot
  repeat' split
  · exact h
  · exact readAbandoned_slotCheck h
  · exact h

/-- An engine whose segment is newly taken starts with its first read (R127, R128). -/
theorem readAbandoned_startRead (h : ReadAbandoned s t) (fresh : ∀ g, t.re.current = some g → g.nextLine = 0) :
    ReadAbandoned s (startRead t) := by
  unfold Machine.startRead
  split
  next => exact h
  next g current =>
    split
    next may =>
      simp only [State.mayRead, Bool.and_eq_true, decide_eq_true_eq] at may
      obtain ⟨⟨⟨⟨_, absent⟩, _⟩, _⟩, _⟩ := may
      refine readAbandoned_grant ⟨fun was => ?_, fun was => ?_⟩
      · have read := (h.1 was).1
        rw [absent] at read
        cases read
      · exact ⟨(h.2 was).1, .inr ⟨rfl, g, current, fresh g current, .inl ⟨rfl, rfl⟩⟩⟩
    next => exact h

/-- An engine that has given up its segment makes its selection (R127, R135). -/
theorem readAbandoned_advanceEngine (h : ReadAbandoned s t) (none : t.re.current = none) :
    ReadAbandoned s (advanceEngine t) := by
  obtain same | idle | ⟨w, k, _, _, taken⟩ := selectSegment_cases (s := t) <;> unfold Machine.advanceEngine
  · rw [same]
    exact readAbandoned_startRead h (by simp [none])
  · rw [idle]
    exact readAbandoned_startRead (readAbandoned_congr h rfl rfl rfl rfl rfl rfl rfl rfl) (by simp [none])
  · rw [taken]
    refine readAbandoned_startRead ⟨fun was => h.1 was, fun was => ⟨(h.2 was).1, ?_⟩⟩ ?_
    · obtain gone | ⟨_, g, current, _⟩ := (h.2 was).2
      · exact .inl gone
      · rw [none] at current
        cases current
    · simp [takeSegment]

/-! ### What follows an event at the engine (R32, R127) -/

theorem recheckSlot_re : (recheckSlot s).re = s.re ∨ (recheckSlot s).re = { s.re with read := .granted } := by
  have onward (t : State) (re : t.re = s.re) :
      (forward t).re = s.re ∨ (forward t).re = { s.re with read := .granted } := by
    unfold forward
    split
    · exact .inl re
    · rw [← re]; exact grant_re
  unfold recheckSlot
  repeat' split
  · exact .inl rfl
  · rename_i c _ _
    obtain ⟨y, _, waits | forwards⟩ := slotCheck_cases c s
    · rw [waits]; exact .inl rfl
    · rw [forwards]; exact onward _ rfl
  · exact .inl rfl

theorem recheckSlot_segment : (recheckSlot s).re.current = s.re.current ∧ (recheckSlot s).re.state = s.re.state := by
  rcases recheckSlot_re (s := s) with same | same <;> simp [same]

theorem readAbandoned_settle (h : ReadAbandoned s t) (none : t.re.current = none) : ReadAbandoned s (settle t) :=
  readAbandoned_advanceEngine (readAbandoned_recheckSlot h) (recheckSlot_segment.1.trans none)

/-- Outside SELECT the engine takes no segment (R127). -/
theorem selectSegment_idle (h : s.re.state ≠ .select) : selectSegment s = s := by
  unfold selectSegment
  split
  next select => exact absurd select h
  all_goals rfl

theorem settle_unselected (h : s.re.state ≠ .select) : (settle s).out = s.out ∧ (settle s).re.current = s.re.current := by
  unfold settle advanceEngine
  rw [selectSegment_idle (by rwa [recheckSlot_segment.2])]
  exact ⟨by simp, startRead_current.trans recheckSlot_segment.1⟩

/-- The segment that the engine holds after an event is the one it held, or one of a window in RESYNC (R127). -/
theorem settle_current {g : Segment} (h : (settle s).re.current = some g) :
    s.re.current = some g ∨ (s.win g.window).state = .resync := by
  unfold settle advanceEngine at h
  rw [startRead_current] at h
  obtain same | idle | ⟨w, k, resync, _, taken⟩ := selectSegment_cases (s := recheckSlot s)
  · rw [same] at h
    exact .inl (recheckSlot_segment.1.symm.trans h)
  · rw [idle] at h
    exact .inl (recheckSlot_segment.1.symm.trans h)
  · simp only [taken, takeSegment, State.setRe_re, Option.some.injEq] at h
    rw [← h]
    exact .inr ((state_of_out (by simp) _).symm.trans resync)

end Sys2Proof.Proofs.MirrorWindows
end

section
namespace Sys2Proof.Proofs.MirrorWindows

open Sys2Proof Sys2Proof.Machine

variable {s t u : State} {w v : WinId}

/-! ### WIN_ENABLE (R9, R10) -/

/-- The link and the marks decide on the state of an enable (R10). -/
theorem enableState_win : (enableState w s).win v
    = if v = w then
        { s.win w with
          state := if s.lc.state = .up then (if (s.win w).dirtyCount = 0 then .active else .resync) else .degraded
          haltCause := none }
      else s.win v := by
  unfold enableState
  simp only [isUp_iff]
  by_cases up : s.lc.state = .up <;> by_cases marked : (s.win w).dirtyCount = 0 <;>
    simp only [up, marked, if_true, if_false, enterWindow_win]

theorem winEnableAt_good {mode : Byte} (off : (s.win w).state = .off) (length : (s.win w).length ≠ 0)
    (records : ∀ r ∈ s.rq.records, r.window ≠ w) (choice : mode.toNat ≤ 1)
    (fits : s.extentFits (s.win w).base (s.win w).length = true) (clear : s.outboundClear w) :
    winEnableAt mode w s = accept (settle (enableState w (enableMarks (decide (mode = 1)) w s))) := by
  have ready : ¬((s.win w).isEnabled || decide ((s.win w).length = 0)) = true := by
    simp [OutWindow.isEnabled, off, length]
  have none : ¬s.rq.records.any (fun r => decide (r.window = w)) = true := by simpa using records
  rw [winEnableAt, if_neg ready, if_neg none, yesNo_le choice]
  refine if_pos ?_
  rw [fits, outboundConflict_iff.2 clear]
  rfl

theorem enable_win {full : Bool} (length : (s.win w).length ≠ 0) : (enableState w (enableMarks full w s)).win v
    = if v = w then
        { s.win w with
          state := if s.lc.state = .up then (if full = true then .resync else .active) else .degraded
          haltCause := none, cursor := 0, dirtyCount := if full = true then (s.win w).length else 0 }
      else s.win v := by
  have marks : Only [.out, .dm] s (enableMarks full w s) := by simp [Only.refl]
  have lc : (enableMarks full w s).lc = s.lc := marks .lc (by decide)
  rw [enableState_win, enableMarks_win, enableMarks_win, if_pos rfl, lc]
  by_cases own : v = w
  · cases full <;> simp [own, length]
  · simp [own]

/-- Neither the marks of an enable nor the window's entry touch the engine, but for an IDLE one that comes to SELECT. -/
theorem enable_re {full : Bool} (off : (s.win w).state = .off) (busy : s.re.state ≠ .idle) :
    (enableState w (enableMarks full w s)).re = s.re := by
  obtain ⟨new, _, _, _, _, entered⟩ := enableState_eq (s := enableMarks full w s) (w := w)
  have marks : Only [.out, .dm] s (enableMarks full w s) := by simp [Only.refl]
  have re : (enableMarks full w s).re = s.re := marks .re (by decide)
  rw [entered]
  rcases enterWindow_engine (s := enableMarks full w s) (w := w) (new := new) (halt := none) with
    ⟨⟨_, was, _⟩, _⟩ | ⟨_, _, same | ⟨idle, _⟩⟩
  · rw [enableMarks_win, if_pos rfl] at was
    simp [off] at was
  · rw [same, re]
  · rw [re] at idle
    exact absurd idle busy

theorem enable_dm {full : Bool} : (enableState w (enableMarks full w s)).dm
    = if full = true then s.dm ||| (s.win w).rangeMask else s.dm := by
  obtain ⟨new, _, _, _, _, entered⟩ := enableState_eq (s := enableMarks full w s) (w := w)
  rw [entered, enterWindow_dm, enableMarks_dm]

theorem enable_al {full : Bool} (off : (s.win w).state = .off) :
    (enableState w (enableMarks full w s)).al = if s.lc.state = .up then s.al else (raise (.degradedEntered w) s).al := by
  have marks : Only [.out, .dm] s (enableMarks full w s) := by simp [Only.refl]
  have al : (enableMarks full w s).al = s.al := marks .al (by decide)
  have lc : (enableMarks full w s).lc = s.lc := marks .lc (by decide)
  have was : ((enableMarks full w s).win w).state = .off := by rw [enableMarks_win, if_pos rfl]; exact off
  unfold enableState
  simp only [isUp_iff, lc]
  by_cases up : s.lc.state = .up
  · simp only [up, if_true]
    split <;> simp [enterWindow_al, was, raiseEntry, al]
  · simp only [up, if_false, enterWindow_al, raiseEntry]
    simp [raise, al]

/-- Settles O18: the checks in the command's order, then what the enable and the engine's selection leave. -/
theorem winEnableResult : Obligations.WinEnableResult := by
  intro b mode s h
  refine ⟨fun big => exec_refused h (onWindow_refused big), fun w own => ⟨fun unfit => ?_, fun off length => ⟨fun recorded => ?_,
    fun records => ⟨fun bad => ?_, fun good fit => ?_⟩⟩⟩⟩
  · refine exec_refused h ((onWindow_run own).trans (if_pos ?_))
    rw [Bool.or_eq_true, isEnabled_iff, decide_eq_true_eq]
    exact unfit
  all_goals
    have ready : ¬((s.win w).isEnabled || decide ((s.win w).length = 0)) = true := by
      rw [Bool.or_eq_true, isEnabled_iff, decide_eq_true_eq, not_or, not_not]
      exact ⟨off, length⟩
  · refine exec_refused h ((onWindow_run own).trans ?_)
    rw [winEnableAt, if_neg ready, if_pos]
    simpa using recorded
  · have none : ¬s.rq.records.any (fun r => decide (r.window = w)) = true := by simpa using records
    refine exec_refused h ((onWindow_run own).trans ?_)
    rw [winEnableAt, if_neg ready, if_neg none]
    by_cases choice : mode.toNat ≤ 1
    · rw [yesNo_le choice]
      refine if_neg fun checks => bad ?_
      rw [Bool.and_eq_true, Bool.not_eq_true', extentFits_iff, outboundConflict_iff] at checks
      obtain ⟨⟨aligned, inside⟩, clear⟩ := checks
      exact ⟨choice, aligned, inside, clear⟩
    · rw [yesNo_gt choice]
  · obtain ⟨choice, aligned, inside, clear⟩ := good
    have run := winEnableAt_good off length records choice (extentFits_iff.2 ⟨aligned, inside⟩) clear
    refine ⟨_, exec_accepted h ((onWindow_run own).trans run), rfl, (only_answered (by simp) (by simp)).2 (by simp [Only.refl]),
      settle_becomes fun v => ?_, fun busy => ?_, fun p => ?_, fun down => ?_, fun up => ?_⟩
    · rw [enable_win length]
      simp only [decide_eq_true_eq]
      rfl
    · have re := enable_re (full := decide (mode = 1)) off (by rcases busy with busy | busy <;> simp [busy])
      have out := (settle_unselected (s := enableState w (enableMarks (decide (mode = 1)) w s))
        (by rw [re]; rcases busy with busy | busy <;> simp [busy])).1
      show ((settle (enableState w (enableMarks (decide (mode = 1)) w s))).win w).cursor = 0
      rw [win_of_out out, enable_win length, if_pos rfl]
    · show (settle (enableState w (enableMarks (decide (mode = 1)) w s))).dm.getLsbD p = _
      rw [settle_dm, enable_dm, Bool.eq_iff_iff]
      by_cases full : mode = 1
      · simp only [full, decide_true, if_true, BitVec.getLsbD_or, Bool.or_eq_true, Bool.true_and, Bool.and_eq_true,
          decide_eq_true_eq, rangeMask_covers (x := s.win w) fit]
        exact Iff.rfl
      · simp only [full, decide_false, Bool.false_eq_true, if_false, Bool.false_and, Bool.or_false]
    · show (settle (enableState w (enableMarks (decide (mode = 1)) w s))).al.detail.has _ = true
      rw [settle_al, enable_al off, if_neg down]
      exact raise_has_self ..
    · show (settle (enableState w (enableMarks (decide (mode = 1)) w s))).al = s.al
      rw [settle_al, enable_al off, if_pos up]

end Sys2Proof.Proofs.MirrorWindows
end

section
namespace Sys2Proof.Proofs.MirrorWindows

open Sys2Proof Sys2Proof.Machine

variable {s t u : State} {w v : WinId}

/-! ### WIN_DISABLE (R11, R160) -/

theorem turnOff_engine (own : s.holdsSegment w = true) :
    (turnOff w s).re = (abandon s).re ∧ (turnOff w s).da = (abandon s).da := by
  unfold turnOff
  dsimp only
  rw [if_pos own]
  exact abandon_congr rfl rfl

/-- The release marks the transaction of a capture in the window, and leaves every other one (R160). -/
theorem releaseCapture_mp :
    (s.mp.txn = none → (releaseCapture w s).mp = s.mp)
      ∧ (∀ x, s.mp.txn = some x → (∀ line, x.cls ≠ .capture w line) → (releaseCapture w s).mp = s.mp)
      ∧ ∀ x line, s.mp.txn = some x → x.cls = .capture w line →
        (releaseCapture w s).mp = { s.mp with txn := some { x with released := true } } := by
  unfold releaseCapture
  refine ⟨fun none => by simp [none], fun x taken other => ?_, fun x line taken cls => ?_⟩
  · simp only [taken]
    split
    next v line cls =>
      refine congrArg State.mp (if_neg ?_)
      rintro rfl
      exact other line cls
    all_goals rfl
  · simp [taken, cls]

/-- Settles O19: the window's marks and segment are given up, and the engine then takes no segment of a window that is OFF. -/
theorem winDisableResult : Obligations.WinDisableResult := by
  intro b s h
  refine ⟨fun big => exec_refused h (onWindow_refused big), fun w own => ⟨fun off => ?_, fun on => ?_⟩⟩
  · exact exec_accepted h ((onWindow_run own).trans (if_neg fun enabled => isEnabled_iff.1 enabled off))
  · have run : runRequest (.winDisable b) s = accept (settle (releaseCapture w (turnOff w s))) :=
      (onWindow_run own).trans (if_pos (isEnabled_iff.2 on))
    have frame : Only [.mp] (turnOff w s) (releaseCapture w (turnOff w s)) := by simp [Only.refl]
    have off : Only [.out, .da, .dm, .re] s (turnOff w s) := by simp [Only.refl]
    have win (v : WinId) : (releaseCapture w (turnOff w s)).win v = if v = w then
        { s.win w with state := .off, haltCause := none, cursor := 0, dirtyCount := 0 } else s.win v :=
      (win_of_out (frame .out (by decide))).trans turnOff_win
    have re := frame .re (by decide)
    have da := frame .da (by decide)
    have dm (p : Nat) : (releaseCapture w (turnOff w s)).dm.getLsbD p = true
        ↔ s.dm.getLsbD p = true ∧ ¬OutWindow.Covers (s.win w) p := by
      rw [frame .dm (by decide)]
      exact turnOff_marked
    obtain ⟨none, other, capture⟩ := releaseCapture_mp (s := turnOff w s) (w := w)
    rw [off .mp (by decide)] at none other capture
    refine ⟨_, exec_accepted h run, rfl, (only_answered (by simp) (by simp)).2 (by simp [Only.refl]), settle_becomes win,
      fun p low high => ?_, fun p outside => ?_, fun g current => ?_, fun g current there resync => ?_, fun free => ?_,
      fun x taken cls => ?_, fun x line taken cls => ?_⟩
    · rw [← Bool.not_eq_true]
      show ¬(settle (releaseCapture w (turnOff w s))).dm.getLsbD p = true
      rw [settle_dm, dm]
      exact fun kept => kept.2 ⟨low, high⟩
    · rw [Bool.eq_iff_iff]
      show (settle (releaseCapture w (turnOff w s))).dm.getLsbD p = true ↔ _
      rw [settle_dm, dm]
      refine and_iff_left fun covers => ?_
      obtain ⟨low, high⟩ := covers
      rcases outside with below | above
      · exact absurd low (not_le.2 below)
      · exact absurd high (not_lt.2 above)
    · rintro rfl
      rcases settle_current current with held | resync
      · rw [re] at held
        rcases turnOff_segment (s := s) (w := g.window) with none | ⟨same, not⟩
        · rw [none] at held
          cases held
        · rw [same] at held
          exact not (holdsSegment_iff.2 ⟨g, held, rfl⟩)
      · rw [win, if_pos rfl] at resync
        cases resync
    · obtain ⟨gone, access⟩ := turnOff_engine (holdsSegment_iff.2 ⟨g, current, there⟩)
      have abandoned : ReadAbandoned s (releaseCapture w (turnOff w s)) :=
        readAbandoned_of_abandon (by rw [re, gone]) (by rw [da, access])
      exact readAbandoned_congr (readAbandoned_settle abandoned (by rw [re, gone]; exact abandon_current.1))
        rfl rfl rfl rfl rfl rfl rfl rfl
    · show (settle (releaseCapture w (turnOff w s))).mp = s.mp
      rw [settle_mp, none free]
    · show (settle (releaseCapture w (turnOff w s))).mp = s.mp
      rw [settle_mp, other x taken cls]
    · show (settle (releaseCapture w (turnOff w s))).mp = _
      rw [settle_mp, capture x line taken cls]

end Sys2Proof.Proofs.MirrorWindows
end

section
namespace Sys2Proof.Proofs.MirrorWindows

open Sys2Proof Sys2Proof.Machine

variable {s t u : State} {w v : WinId}

/-! ### WIN_RESYNC, WIN_HALT and WIN_RESUME (R18, R20, R21) -/

/-- A window that leaves RESYNC leaves the engine no segment of it (R134). -/
theorem enterWindow_leaves {new : WinState} {halt : Option HaltCause} {g : Segment} (was : (s.win w).state = .resync)
    (away : new ≠ .resync) (current : (enterWindow w new halt s).re.current = some g) : g.window ≠ w := by
  intro own
  rcases enterWindow_engine (s := s) (w := w) (new := new) (halt := halt) with ⟨_, re, _⟩ | ⟨stays, _, re⟩
  · rw [re, abandon_current.1] at current
    cases current
  · have before : s.re.current = some g := by
      rcases re with re | ⟨_, re⟩ <;> rw [re] at current <;> exact current
    exact stays ⟨away, was, holdsSegment_iff.2 ⟨g, before, own⟩⟩

/-- A window that leaves RESYNC with the engine's segment has the segment abandoned (R134, R135). -/
theorem enterWindow_abandons {new : WinState} {halt : Option HaltCause} (leaves : Abandons s w new) :
    ReadAbandoned s (enterWindow w new halt s) ∧ (enterWindow w new halt s).re.current = none := by
  rcases enterWindow_engine (s := s) (w := w) (new := new) (halt := halt) with ⟨_, re, da⟩ | ⟨stays, _⟩
  · exact ⟨readAbandoned_of_abandon re da, by rw [re]; exact abandon_current.1⟩
  · exact absurd leaves stays

theorem toResync_al : (toResync w s).al
    = if (s.win w).dirtyCount = 0 ∧ ((s.win w).state = .resync ∨ (s.win w).state = .degraded) then (raise (.synced w) s).al
      else s.al := by
  unfold toResync
  by_cases none : (s.win w).dirtyCount = 0
  · simp only [none, if_true, enterWindow_al, raiseEntry, true_and]
    split <;> rfl
  · simp only [none, if_false, enterWindow_al, raiseEntry, false_and]

theorem winResyncAt_degraded (degraded : (s.win w).state = .degraded) :
    winResyncAt w s = if s.lc.state = .up then accept (settle (toResync w s)) else refuse .badState s := by
  unfold winResyncAt
  simp only [degraded, isUp_iff]

theorem winHaltAt_enabled (on : (s.win w).state ≠ .off) (running : (s.win w).state ≠ .halted) :
    winHaltAt w s = accept (settle (enterWindow w .halted (some .command) s)) := by
  unfold winHaltAt
  cases state : (s.win w).state <;> simp_all

/-- A halted window becomes DEGRADED, and with auto_resync in UP goes on at once (R21). -/
theorem winResumeAt_halted (halted : (s.win w).state = .halted) : winResumeAt w s
    = accept (settle (if (s.win w).autoResync = true ∧ s.lc.state = .up then toResync w (enterWindow w .degraded none s)
      else enterWindow w .degraded none s)) := by
  unfold winResumeAt
  simp only [halted, enterWindow_win, if_true, Bool.and_eq_true, isUp_iff, enterWindow_lc]

/-- The part of O20 on WIN_RESYNC. -/
theorem winResync_result (b : Byte) (h : s.holds (.winResync b)) (own : b.toNat = w.val)
    (degraded : s.out[w].state = .degraded) (up : s.lc.state = .up) :
    ∃ t, exec (.winResync b (Request.crc (.winResync b))) s = .next t ∧ t.answers .ok []
      ∧ Only [.pins, .port, .out, .cu, .da, .re, .fu, .al] s t
      ∧ WindowBecomes w
        { s.out[w] with state := if s.out[w].dirtyCount = 0 then .active else .resync, haltCause := none } s t
      ∧ (s.out[w].dirtyCount ≠ 0 → t.al = s.al)
      ∧ (s.out[w].dirtyCount = 0 → t.al.detail.has (.synced w) = true) := by
  have run : runRequest (.winResync b) s = accept (settle (toResync w s)) :=
    ((onWindow_run own).trans (winResyncAt_degraded degraded)).trans (if_pos up)
  refine ⟨_, exec_accepted h run, rfl, (only_answered (by simp) (by simp)).2 (by simp [Only.refl]),
    settle_becomes fun v => toResync_win, fun marked => ?_, fun none => ?_⟩
  · show (settle (toResync w s)).al = s.al
    rw [settle_al, toResync_al, if_neg fun both => marked both.1]
  · show (settle (toResync w s)).al.detail.has _ = true
    rw [settle_al, toResync_al, if_pos ⟨none, .inr degraded⟩]
    exact raise_has_self ..

/-- The part of O20 on WIN_HALT. -/
theorem winHalt_result (b : Byte) (h : s.holds (.winHalt b)) (own : b.toNat = w.val) (on : s.out[w].state ≠ .off)
    (running : s.out[w].state ≠ .halted) :
    ∃ t, exec (.winHalt b (Request.crc (.winHalt b))) s = .next t ∧ t.answers .ok []
      ∧ Only [.pins, .port, .out, .cu, .da, .re, .fu, .al] s t
      ∧ WindowBecomes w { s.out[w] with state := .halted, haltCause := some .command } s t
      ∧ (s.out[w].state = .resync → ∀ g, t.re.current = some g → g.window ≠ w)
      ∧ (∀ g, s.re.current = some g → g.window = w → s.out[w].state = .resync → ReadAbandoned s t)
      ∧ t.al.detail.has (.haltedEntered w) = true ∧ ∀ f ∈ t.fu.fences, f.degraded = true := by
  have run : runRequest (.winHalt b) s = accept (settle (enterWindow w .halted (some .command) s)) :=
    (onWindow_run own).trans (winHaltAt_enabled on running)
  refine ⟨_, exec_accepted h run, rfl, (only_answered (by simp) (by simp)).2 (by simp [Only.refl]),
    settle_becomes fun v => enterWindow_win .., fun resync g current own' => ?_, fun g current own' resync => ?_, ?_, ?_⟩
  · rcases settle_current current with held | back
    · exact enterWindow_leaves resync (by simp) held own'
    · rw [enterWindow_win, if_pos own'] at back
      cases back
  · obtain ⟨abandoned, none⟩ := enterWindow_abandons (halt := some .command)
      (⟨by simp, resync, holdsSegment_iff.2 ⟨g, current, own'⟩⟩ : Abandons s w .halted)
    exact readAbandoned_congr (readAbandoned_settle abandoned none) rfl rfl rfl rfl rfl rfl rfl rfl
  · show (settle (enterWindow w .halted (some .command) s)).al.detail.has _ = true
    rw [settle_al, enterWindow_al]
    exact raise_has_self ..
  · show ∀ f ∈ (settle (enterWindow w .halted (some .command) s)).fu.fences, f.degraded = true
    rw [settle_fu, enterWindow_fu]
    simp [WinState.behind]

/-- The part of O20 on WIN_RESUME. -/
theorem winResume_result (b : Byte) (h : s.holds (.winResume b)) (own : b.toNat = w.val)
    (halted : s.out[w].state = .halted) :
    ∃ t, exec (.winResume b (Request.crc (.winResume b))) s = .next t ∧ t.answers .ok []
      ∧ Only [.pins, .port, .out, .cu, .da, .re, .fu, .al] s t
      ∧ WindowBecomes w
        { s.out[w] with
          state :=
            if s.out[w].autoResync = true ∧ s.lc.state = .up then
              (if s.out[w].dirtyCount = 0 then .active else .resync)
            else .degraded
          haltCause := none } s t
      ∧ t.al.detail.has (.degradedEntered w) = true
      ∧ (s.out[w].autoResync = true → s.lc.state = .up → s.out[w].dirtyCount = 0 →
        t.al.detail.has (.synced w) = true) := by
  have run := (onWindow_run (s := s) own).trans (winResumeAt_halted halted)
  generalize entered : enterWindow w .degraded none s = e at run
  generalize resumed : (if (s.win w).autoResync = true ∧ s.lc.state = .up then toResync w e else e) = u at run
  have win (v : WinId) : e.win v = if v = w then { s.win w with state := .degraded, haltCause := none } else s.win v := by
    rw [← entered]
    exact enterWindow_win ..
  have degraded : e.al.detail.has (.degradedEntered w) = true := by
    rw [← entered, enterWindow_al]
    exact raise_has_self ..
  have frame : Only [.out, .da, .re, .fu, .al] s u := by
    rw [← resumed, ← entered]
    split <;> simp [Only.refl]
  have own' := win w
  rw [if_pos rfl] at own'
  refine ⟨_, exec_accepted h run, rfl, (only_answered (by simp) (by simp)).2 ?_, settle_becomes fun v => ?_, ?_, fun auto up none => ?_⟩
  · exact (frame.mono (by decide)).trans (by simp [Only.refl])
  · rw [← resumed]
    by_cases goes : (s.win w).autoResync = true ∧ s.lc.state = .up
    · have goes' : s.out[w].autoResync = true ∧ s.lc.state = .up := goes
      rw [if_pos goes, toResync_win, own', win]
      simp only [if_pos goes']
      split <;> rfl
    · have goes' : ¬(s.out[w].autoResync = true ∧ s.lc.state = .up) := goes
      rw [if_neg goes, win]
      simp only [if_neg goes']
      rfl
  · show (settle u).al.detail.has _ = true
    rw [settle_al, ← resumed]
    split
    · rw [toResync_al]
      split
      · exact raise_has_of _ _ _ degraded
      · exact degraded
    · exact degraded
  · show (settle u).al.detail.has _ = true
    rw [settle_al, ← resumed, if_pos ⟨auto, up⟩, toResync_al, if_pos]
    · exact raise_has_self ..
    · rw [own']
      exact ⟨none, .inr rfl⟩

/-- Settles O20: one command after the other, by the window's state. -/
theorem winStateCommands : Obligations.WinStateCommands := by
  refine ⟨fun b s h => ⟨fun big => exec_refused h (onWindow_refused big), fun w own => ⟨fun kept => ?_, fun bad => ?_,
      fun degraded down => ?_, fun degraded up => winResync_result b h own degraded up⟩⟩,
    fun b s h => ⟨fun big => exec_refused h (onWindow_refused big), fun w own => ⟨fun off => ?_, fun halted => ?_,
      fun on running => winHalt_result b h own on running⟩⟩,
    fun b s h => ⟨fun big => exec_refused h (onWindow_refused big), fun w own => ⟨fun other => ?_,
      fun halted => winResume_result b h own halted⟩⟩⟩
  · refine exec_accepted h ((onWindow_run own).trans ?_)
    unfold winResyncAt
    rcases kept with state | state <;> simp only [win_eq, state]
  · refine exec_refused h ((onWindow_run own).trans ?_)
    unfold winResyncAt
    rcases bad with state | state <;> simp only [win_eq, state]
  · exact exec_refused h (((onWindow_run own).trans (winResyncAt_degraded degraded)).trans (if_neg down))
  · refine exec_refused h ((onWindow_run own).trans ?_)
    unfold winHaltAt
    simp only [win_eq, off]
  · refine exec_accepted h ((onWindow_run own).trans ?_)
    unfold winHaltAt
    simp only [win_eq, halted]
  · refine exec_refused h ((onWindow_run own).trans ?_)
    unfold winResumeAt
    rw [← win_eq] at other
    split
    next halted => exact absurd halted other
    all_goals rfl

end Sys2Proof.Proofs.MirrorWindows
end

section
namespace Sys2Proof.Proofs.MirrorWindows

open Sys2Proof Sys2Proof.Machine

variable {s t u : State} {w v : WinId} {first n : Nat}

/-! ### WIN_MARK (R19, R122, R133) -/

theorem markRun_succ : markRun w first (n + 1) s = markSegment w (first + n) (markRun w first n s) := by
  simp [markRun, List.range_succ]

/-- The named segments whose mark is clear. -/
def clearSegments (s : State) (w : WinId) (first n : Nat) : List Nat :=
  (List.range n).filter (fun k => !s.dm.getLsbD ((s.win w).mapOffset + (first + k)))

theorem clearSegments_succ : (clearSegments s w first (n + 1)).length = (clearSegments s w first n).length
    + if s.dm.getLsbD ((s.win w).position (first + n)) = true then 0 else 1 := by
  unfold clearSegments
  rw [List.range_succ, List.filter_append, List.length_append, List.filter_singleton]
  cases set : s.dm.getLsbD ((s.win w).position (first + n)) <;>
    simp [show s.dm.getLsbD ((s.win w).mapOffset + (first + n)) = _ from set]

/-- The marks of a run of segments (R19, R122): each named one is set and no other, and the new ones are counted. -/
theorem markRun_spec (on : (s.win w).state ≠ .off) (inside : first + n ≤ (s.win w).length)
    (fit : (s.win w).mapOffset + (s.win w).length ≤ 4096) :
    (∀ v, (markRun w first n s).win v = if v = w then
        { s.win w with dirtyCount := (s.win w).dirtyCount + (clearSegments s w first n).length } else s.win v)
      ∧ ∀ p, (markRun w first n s).dm.getLsbD p
        = (s.dm.getLsbD p || (decide ((s.win w).mapOffset + first ≤ p) && decide (p < (s.win w).mapOffset + first + n))) := by
  induction n with
  | zero =>
    refine ⟨fun v => ?_, fun p => ?_⟩
    · by_cases own : v = w
      · subst own; simp [markRun, clearSegments]
      · simp [markRun, own]
    · have empty : ¬((s.win w).mapOffset + first ≤ p ∧ p < (s.win w).mapOffset + first + 0) := by omega
      rw [← Bool.decide_and, decide_eq_false empty, Bool.or_false]
      rfl
  | succ n ih =>
    obtain ⟨win, dm⟩ := ih (by omega)
    have own := win w
    rw [if_pos rfl] at own
    have enabled : ((markRun w first n s).win w).isEnabled = true := by rw [own]; simpa [OutWindow.isEnabled] using on
    have place : ((markRun w first n s).win w).position (first + n) = (s.win w).position (first + n) := by
      rw [own]; rfl
    have low : (s.win w).position (first + n) < 4096 := by simp only [OutWindow.position]; omega
    have fresh : (markRun w first n s).dm.getLsbD ((s.win w).position (first + n))
        = s.dm.getLsbD ((s.win w).position (first + n)) := by
      have past : ¬(s.win w).position (first + n) < (s.win w).mapOffset + first + n := by
        simp only [OutWindow.position]; omega
      rw [dm, decide_eq_false past, Bool.and_false, Bool.or_false]
    rw [markRun_succ]
    refine ⟨fun v => ?_, fun p => ?_⟩
    · rw [markSegment_win, place, fresh, clearSegments_succ, own, win]
      by_cases same : v = w
      · have on' := enabled
        rw [own] at on'
        cases set : s.dm.getLsbD ((s.win w).position (first + n)) <;> simp [same, on', Nat.add_assoc]
      · simp [same]
    · rw [markSegment_dm, dm, place, enabled, decide_eq_true low, Bool.true_and, Bool.and_true, Bool.or_assoc]
      congr 1
      rw [Bool.eq_iff_iff]
      have placed : (s.win w).position (first + n) = (s.win w).mapOffset + (first + n) := rfl
      simp only [Bool.or_eq_true, Bool.and_eq_true, decide_eq_true_eq, placed]
      omega

theorem markSegment_re {k : Nat} : (markSegment w k s).re
    = if (s.win w).isEnabled = true then (redirty w k s).re else s.re := by
  unfold markSegment redirty
  dsimp only
  repeat' split
  all_goals simp_all

theorem redirty_current {k : Nat} {g : Segment} (current : s.re.current = some g) :
    (redirty w k s).re.current = some (if g.window = w ∧ g.index = k then { g with redirtied := true } else g) := by
  unfold redirty
  simp only [current]
  split
  · rfl
  · exact current

theorem markRun_engine_state : (markRun w first n s).re.state = s.re.state := by
  induction n with
  | zero => rfl
  | succ n ih =>
    rw [markRun_succ, markSegment_re, ← ih]
    split
    · unfold redirty
      repeat' split
      all_goals rfl
    · rfl

/-- A run of marks redirties the current segment when it names it (R133). -/
theorem markRun_current {g : Segment} (on : (s.win w).state ≠ .off) (inside : first + n ≤ (s.win w).length)
    (fit : (s.win w).mapOffset + (s.win w).length ≤ 4096) (current : s.re.current = some g) (own : g.window = w) :
    (markRun w first n s).re.current
      = some (if first ≤ g.index ∧ g.index < first + n then { g with redirtied := true } else g) := by
  induction n with
  | zero =>
    rw [if_neg (by omega)]
    exact current
  | succ n ih =>
    have enabled : ((markRun w first n s).win w).isEnabled = true := by
      rw [(markRun_spec on (by omega) fit).1 w, if_pos rfl]
      simpa [OutWindow.isEnabled] using on
    rw [markRun_succ, markSegment_re, if_pos enabled, redirty_current (ih (by omega))]
    by_cases before : first ≤ g.index ∧ g.index < first + n
    · have still : first ≤ g.index ∧ g.index < first + (n + 1) := ⟨before.1, by omega⟩
      simp only [if_pos before, if_pos still]
      split <;> rfl
    · rw [if_neg before]
      by_cases here : g.index = first + n
      · rw [if_pos ⟨own, here⟩, if_pos (by omega)]
      · rw [if_neg fun both => here both.2, if_neg (by omega)]

/-- A window that leaves ACTIVE does not touch an engine at work (R28, R126). -/
theorem toResync_re (active : (s.win w).state = .active) (busy : s.re.state ≠ .idle) : (toResync w s).re = s.re := by
  have entered (new : WinState) : (enterWindow w new none s).re = s.re := by
    rcases enterWindow_engine (s := s) (w := w) (new := new) (halt := none) with ⟨⟨_, was, _⟩, _⟩ | ⟨_, _, same | ⟨idle, _⟩⟩
    · rw [active] at was
      cases was
    · exact same
    · exact absurd idle busy
  unfold toResync
  split <;> exact entered _

/-- Settles O21. -/
theorem winMarkResult : Obligations.WinMarkResult := by
  intro b first count s h
  refine ⟨fun big => exec_refused h (onWindow_refused big), fun w own => ⟨fun off => ?_, fun on bad => ?_,
    fun on some inside fit => ?_⟩⟩
  · exact exec_refused h ((onWindow_run own).trans (if_neg fun enabled => isEnabled_iff.1 enabled off))
  · refine exec_refused h ((onWindow_run own).trans ?_)
    rw [winMarkAt, if_pos (isEnabled_iff.2 on), if_pos]
    rw [Bool.or_eq_true, decide_eq_true_eq, decide_eq_true_eq]
    exact bad
  · have checks : ¬(decide (count.toNat = 0) || decide ((s.win w).length < first.toNat + count.toNat)) = true := by
      rw [Bool.or_eq_true, decide_eq_true_eq, decide_eq_true_eq, not_or, not_lt]
      exact ⟨some, inside⟩
    have run : runRequest (.winMark b first count) s = accept (settle (if (s.win w).state = .active then
        toResync w (markRun w first.toNat count.toNat s) else markRun w first.toNat count.toNat s)) := by
      refine (onWindow_run own).trans ?_
      rw [winMarkAt, if_pos (isEnabled_iff.2 on), if_neg checks]
    obtain ⟨win, dm⟩ := markRun_spec (s := s) (w := w) (first := first.toNat) (n := count.toNat) on inside fit
    have engine : (markRun w first.toNat count.toNat s).re.state = s.re.state := markRun_engine_state
    have current (g : Segment) (there : s.re.current = Option.some g) (own : g.window = w) :=
      markRun_current (n := count.toNat) (first := first.toNat) on inside fit there own
    have marks : Only [.out, .dm, .re] s (markRun w first.toNat count.toNat s) := by simp [Only.refl]
    generalize markRun w first.toNat count.toNat s = m at run win dm engine current marks
    generalize marked : (if (s.win w).state = .active then toResync w m else m) = u at run
    have own' := win w
    rw [if_pos rfl] at own'
    have frame : Only [.out, .dm, .da, .re, .fu, .al] s u := by
      rw [← marked]
      split
      · exact (marks.mono (by decide)).trans (by simp [Only.refl])
      · exact marks.mono (by decide)
    have udm : u.dm = m.dm := by rw [← marked]; split <;> simp
    have state (v : WinId) : ((settle u).win v).state = (u.win v).state := settle_state
    have winU (v : WinId) : u.win v = if v = w then
        { s.win w with
          state := (u.win w).state
          haltCause := if (s.win w).state = .active then none else (s.win w).haltCause
          dirtyCount := (s.win w).dirtyCount + (clearSegments s w first.toNat count.toNat).length } else s.win v := by
      rw [← marked]
      by_cases active : (s.win w).state = .active
      · simp only [if_pos active, toResync_win, own', win]
        split <;> rfl
      · simp only [if_neg active, own', win]
    refine ⟨_, exec_accepted h run, rfl, (only_answered (by simp) (by simp)).2 ?_, fun p => ?_, settle_becomes fun v => ?_,
      fun other => ?_, fun active fresh => ?_, fun g there own low high busy => ?_⟩
    · exact (frame.mono (by decide)).trans (by simp [Only.refl])
    · show (settle u).dm.getLsbD p = _
      rw [settle_dm, udm]
      exact dm p
    · refine (winU v).trans ?_
      rw [← state w]
      rfl
    · refine (state w).trans ?_
      rw [← marked, if_neg (show (s.win w).state ≠ .active from other), own']
      rfl
    · refine (state w).trans ?_
      rw [← marked, if_pos (show (s.win w).state = .active from active), toResync_win, if_pos rfl, own', if_neg]
      have : (clearSegments s w first.toNat count.toNat).length ≠ 0 := fun none => fresh (List.length_eq_zero_iff.1 none)
      show (s.win w).dirtyCount + _ ≠ 0
      omega
    · have re : u.re = m.re := by
        rw [← marked]
        split
        next active =>
          refine toResync_re (by rw [own']; exact active) ?_
          rw [engine]
          rcases busy with busy | busy <;> simp [busy]
        next => rfl
      have unselected : u.re.state ≠ .select := by
        rw [re, engine]
        rcases busy with busy | busy <;> simp [busy]
      refine (settle_unselected unselected).2.trans ?_
      rw [re, current g there own, if_pos ⟨low, high⟩]

end Sys2Proof.Proofs.MirrorWindows
end

section
/-! PROOF. The family 01_mirror_windows, part 6: captured writes that are not recorded, and the capture unit's timers (O38,
O39). -/

namespace Sys2Proof.Proofs.MirrorWindows

open Sys2Proof Sys2Proof.Machine

variable {s t u : State} {w v : WinId} {c : Capture} {r : Result}

/-! ### The engine after an event of the capture unit (R128, R173) -/

/-- A window that leaves ACTIVE touches neither the arbiter nor the engine's read (R28, R126). -/
theorem leaveActive_engine {towards : Bool} :
    (leaveActive towards w s).da = s.da ∧ (leaveActive towards w s).re.read = s.re.read := by
  unfold leaveActive
  split
  next active =>
    have entered (new : WinState) : (enterWindow w new none s).da = s.da ∧ (enterWindow w new none s).re.read = s.re.read := by
      rcases enterWindow_engine (s := s) (w := w) (new := new) (halt := none) with ⟨⟨_, was, _⟩, _⟩ | ⟨_, da, re⟩
      · rw [active] at was
        cases was
      · exact ⟨da, by rcases re with re | ⟨_, re⟩ <;> rw [re]⟩
    unfold toResync
    repeat' split
    all_goals exact entered _
  next => exact ⟨rfl, rfl⟩

theorem redirty_read {k : Nat} : (redirty w k s).re.read = s.re.read := by
  unfold redirty
  repeat' split
  all_goals rfl

theorem markSegment_read {k : Nat} : (markSegment w k s).re.read = s.re.read := by
  rw [markSegment_re]
  split
  · exact redirty_read
  · rfl

/-- With no capture left, the engine is served behind a busy port (R128). -/
theorem settle_served (cu : u.cu = none) (da : u.da = s.da) (read : u.re.read = s.re.read)
    (busy : s.da.port.isSome = true) :
    EngineServed s.re.read s (settle u) ∧ (settle u).da = { s.da with cp := (settle u).da.cp } := by
  have select : (selectSegment u).da = s.da ∧ (selectSegment u).re.read = s.re.read := by
    refine ⟨by simpa using da, read ▸ ?_⟩
    obtain same | idle | ⟨w, k, _, _, taken⟩ := selectSegment_cases (s := u)
    · rw [same]
    · rw [idle]; rfl
    · rw [taken]; rfl
  unfold settle advanceEngine
  rw [recheckSlot_none cu]
  generalize selectSegment u = x at select
  obtain ⟨da, read⟩ := select
  have held : x.da.port.isSome = true := by rw [da]; exact busy
  have served := engineServed_startRead held
  rw [read] at served
  refine ⟨?_, ?_⟩
  · unfold EngineServed at served ⊢
    rwa [da] at served
  · unfold startRead presentCp
    repeat' split
    · rw [da]
    · rw [grant_busy (by exact held)]
      simp [da]
    · rw [da]

theorem grant_outstanding (h : s.re.read ≠ .absent) : (grant s).re.read ≠ .absent := by
  rcases grant_re (s := s) with same | same <;> rw [same]
  · exact h
  · simp

/-- Whether the engine starts a read does not depend on the port. -/
theorem startRead_fixed_setDa {d : Arbiter} (h : startRead s = s) : startRead (s.setDa d) = s.setDa d := by
  cases current : s.re.current with
  | none => simp [startRead, current]
  | some g =>
    cases may : s.mayRead g with
    | false =>
      have may' : (s.setDa d).mayRead g = false := may
      simp [startRead, current, may']
    | true =>
      have asked : (startRead s).re.read ≠ .absent := by
        simp only [startRead, current, may, if_true, presentCp]
        exact grant_outstanding (by simp)
      unfold State.mayRead at may
      rw [h] at asked
      simp [asked] at may

/-- The end of a captured write's access: the port is freed, granted, and an offer that stands is accepted (R154, R173). -/
theorem localWriteEnds_settle (cu : u.cu = none) (da : u.da = s.da) (read : u.re.read = s.re.read)
    (busy : s.da.port.isSome = true) :
    LocalWriteEnds s ((settle u).setDa { (settle u).da with port := none }) (acceptOffer (releasePort (settle u))) := by
  obtain ⟨⟨fixed, served⟩, arbiter⟩ := settle_served cu da read busy
  refine ⟨?_, ⟨startRead_fixed_setDa fixed, served⟩, offerTaken_acceptOffer⟩
  show { (settle u).da with port := none } = _
  rw [arbiter]
  rfl

/-! ### A write that is marked in place of being recorded (R24, R44, R122) -/

/-- The dirty-map position of a capture's line (R29, R122). -/
def State.markPlace (s : State) (c : Capture) : Nat := s.out[c.window].mapOffset + c.line.toNat * 64 / s.segBytes

/-- What a mark in place of a record leaves at the windows, the map, the arbiter and the flags. -/
structure Marked (c : Capture) (s t : State) : Prop where
  da : t.da = s.da
  read : t.re.read = s.re.read
  set : State.markPlace s c < 4096 → t.dm.getLsbD (State.markPlace s c) = true
  other : ∀ p, p ≠ State.markPlace s c → t.dm.getLsbD p = s.dm.getLsbD p
  kept : ∀ v, v ≠ c.window ∨ (s.win v).state ≠ .active → (t.win v).state = (s.win v).state
  fails : (s.win c.window).state = .active → State.markPlace s c < 4096 → s.dm.getLsbD (State.markPlace s c) = false →
    (t.win c.window).state = if (s.win c.window).autoResync = true then .resync else .degraded
  degrades : (s.win c.window).state = .active → (s.win c.window).autoResync = false →
    (t.win c.window).state = .degraded ∧ t.al.detail.has (.degradedEntered c.window) = true
  flags : FlagsKept s t

theorem marked_markCapture (on : (s.win c.window).state ≠ .off) : Marked c s (markCapture c r s) := by
  have enabled : (s.win c.window).isEnabled = true := by simpa [OutWindow.isEnabled] using on
  have place : State.markPlace s c = (s.win c.window).position (s.segmentOf c.line) := rfl
  have dm (p : Nat) : (markCapture c r s).dm.getLsbD p
      = (s.dm.getLsbD p || (decide (p = State.markPlace s c) && decide (State.markPlace s c < 4096))) := by
    simp only [markCapture, completeUpstream_dm, captureFailure_dm, markLine, markSegment_dm, enabled, Bool.true_and, place]
  have engine : (markCapture c r s).da = s.da ∧ (markCapture c r s).re.read = s.re.read := by
    unfold markCapture
    rw [captureFailure_eq]
    obtain ⟨da, read⟩ := leaveActive_engine (s := markLine c.window c.line s) (w := c.window)
      (towards := ((markLine c.window c.line s).win c.window).autoResync)
    exact ⟨by simpa using da, by simpa using read.trans markSegment_read⟩
  generalize marked : markLine c.window c.line s = m
  have state (v : WinId) : (m.win v).state = (s.win v).state := by rw [← marked]; exact markSegment_state
  have auto : (m.win c.window).autoResync = (s.win c.window).autoResync := by
    rw [← marked, markLine, markSegment_win]
    split <;> rfl
  have done : markCapture c r s = completeUpstream r none (captureFailure c.window m) := by rw [← marked]; rfl
  have win (v : WinId) : (markCapture c r s).win v = (captureFailure c.window m).win v := by rw [done]; rfl
  have al : m.al = s.al := by rw [← marked]; simp
  have failed : (captureFailure c.window m) = leaveActive (s.win c.window).autoResync c.window m := by
    rw [captureFailure_eq, auto]
  refine ⟨engine.1, engine.2, fun low => ?_, fun p other => ?_, fun v kept => ?_, fun active low clear => ?_,
    fun active manual => ?_, ?_⟩
  · simp [dm, low]
  · simp [dm, other]
  · rw [win, failed]
    unfold leaveActive
    rw [state]
    split
    next active =>
      have other : v ≠ c.window := kept.elim id fun not => by rintro rfl; exact not active
      split
      · rw [toResync_win, if_neg other]; exact state v
      · rw [enterWindow_win, if_neg other]; exact state v
    next => exact state v
  · have counted : (m.win c.window).dirtyCount ≠ 0 := by
      rw [← marked, markLine, markSegment_win, if_pos ⟨rfl, enabled, clear⟩]
      simp
    rw [win, failed]
    unfold leaveActive
    rw [state, if_pos active]
    split
    · rw [toResync_win, if_pos rfl, if_neg counted]
    · rw [enterWindow_win, if_pos rfl]
  · have degraded : captureFailure c.window m = enterWindow c.window .degraded none m := by
      rw [failed, manual, leaveActive, state, if_pos active]
      rfl
    rw [win, done, degraded, enterWindow_win, if_pos rfl, completeUpstream_al, enterWindow_al]
    exact ⟨rfl, raise_has_self ..⟩
  · have entered (new : WinState) : FlagsKept s (enterWindow c.window new none m) :=
      (flagsKept_of_al al).trans (flagsKept_enterWindow m)
    intro cause raised
    rw [done, completeUpstream_al, failed]
    unfold leaveActive toResync
    repeat' split
    · exact entered _ cause raised
    · exact entered _ cause raised
    · exact entered _ cause raised
    · rw [al]; exact raised

end Sys2Proof.Proofs.MirrorWindows
end

section
namespace Sys2Proof.Proofs.MirrorWindows

open Sys2Proof Sys2Proof.Machine

variable {s t u : State} {w v : WinId} {c : Capture} {r : Result}

/-! ### The capture unit's timers (R36, R46, R47) -/

theorem settle_cu_none (none : u.cu = none) : (settle u).cu = .none := by
  unfold settle
  rw [recheckSlot_none none]
  simpa using none

theorem confirmExpired_off (off : s.captureState c = .off) :
    confirmExpired c s = completeUpstream .err none (dropWaiter s) := by
  have same : (dropWaiter s).captureState c = .off := off
  unfold confirmExpired
  simp only [same]

theorem confirmExpired_on (on : s.captureState c ≠ .off) : confirmExpired c s = markCapture c .err (dropWaiter s) := by
  have same : (dropWaiter s).captureState c = s.captureState c := rfl
  unfold confirmExpired
  dsimp only
  rw [same]
  cases state : s.captureState c <;> first | rfl | exact absurd state on

theorem captureState_off (h : s.mp.txn.any (·.released) = true ∨ (s.win c.window).state = .off) :
    s.captureState c = .off := by
  unfold State.captureState
  rcases h with released | off
  · rw [if_pos released]
  · rw [off, ite_self]

theorem captureState_on (kept : s.mp.txn.any (·.released) = false) : s.captureState c = (s.win c.window).state := by
  simp [State.captureState, kept]

theorem markCapture_mp : (markCapture c r s).mp
    = { s.mp with txn := none, completions := s.mp.completions ++ [⟨r, none⟩] } := by simp [markCapture]

theorem markCapture_cu : (markCapture c r s).cu = none := rfl

/-- Settles O39: the three timers one after the other. -/
theorem captureTimersResult : Obligations.CaptureTimersResult := by
  intro s
  refine ⟨fun c n x there waits runs taken => ?_, fun c n there waits runs => ?_, fun older r n runs records opened => ?_⟩
  · have run : exec .stallTimerExpiry s = .next (advanceEngine (captureUnrecorded c (bump .stallExpiries s))) := by
      simp only [exec, execStallTimerExpiry, there, waits, runs, Option.isSome_some, and_self, if_true]
    have onward : captureUnrecorded c (bump .stallExpiries s) = presentFg x.txn ((bump .stallExpiries s).setCu
        (some { c with phase := .localWrite, path := some .noRecord, stallTimer := none })) := by
      simp [captureUnrecorded, forward, taken]
    refine ⟨_, run, by simp [Only.refl], by simp [onward], ?_, ?_⟩
    · have counters : (advanceEngine (captureUnrecorded c (bump .stallExpiries s))).counters
          = (bump .stallExpiries s).counters := by simp [onward]
      unfold State.counter
      rw [counters]
      exact bump_counter_self ..
    · rw [onward]
      exact (presentFg_asked (by simp)).advanceEngine
  · have run : exec .confirmTimerExpiry s = .next (acceptOffer (settle (confirmExpired c s))) := by
      simp only [exec, execConfirmTimerExpiry, there, waits, runs, Option.isSome_some, and_self, if_true]
    refine ⟨settle (confirmExpired c s), _, run, offerTaken_acceptOffer, ?_⟩
    by_cases off : s.captureState c = .off
    · rw [confirmExpired_off off]
      have served := settle_served (s := s) (u := completeUpstream .err none (dropWaiter s)) rfl rfl rfl
      refine ⟨by simp [Only.refl], settle_cu_none rfl, by simp [dropWaiter], fun busy => ⟨(served busy).2, (served busy).1⟩,
        by simp [dropWaiter], fun _ => ⟨by simp [dropWaiter], by simp [dropWaiter], fun v => settle_state⟩, fun kept on => ?_⟩
      rw [captureState_on kept] at off
      exact absurd off on
    · rw [confirmExpired_on off]
      have on : (s.win c.window).state ≠ .off := fun gone => off (captureState_off (.inr gone))
      have marked : Marked c (dropWaiter s) (markCapture c .err (dropWaiter s)) := marked_markCapture on
      have served := settle_served markCapture_cu marked.da marked.read
      refine ⟨by simp [markCapture, Only.refl], settle_cu_none markCapture_cu, by rw [settle_mp, markCapture_mp]; rfl,
        fun busy => ⟨(served busy).2, (served busy).1⟩, by simp [markCapture, dropWaiter],
        fun gone => absurd (captureState_off gone) off, fun _ _ => ⟨fun low => ?_, fun p other => ?_, fun v kept => ?_,
        fun active low clear => ?_, fun active manual => ?_⟩⟩
      · rw [settle_dm]; exact marked.set low
      · rw [settle_dm]; exact marked.other p other
      · exact settle_state.trans (marked.kept v kept)
      · exact settle_state.trans (marked.fails active low clear)
      · rw [settle_al]
        obtain ⟨degraded, raised⟩ := marked.degrades active manual
        exact ⟨settle_state.trans degraded, raised⟩
  · have tail : closedTail s.rq.records = older ++ [{ r with state := .ready }] := by
      rw [records, closedTail_append, if_pos opened]
    simp only [exec, execMergeTimerExpiry, runs, Option.isSome_some, if_true, closeTail, tail]
    rfl

end Sys2Proof.Proofs.MirrorWindows
end

section
namespace Sys2Proof.Proofs.MirrorWindows

open Sys2Proof Sys2Proof.Machine

variable {s t u : State} {w v : WinId} {c : Capture} {r : Result}

/-! ### A captured write without a record (R24, R44, R48) -/

theorem localWriteDone_off (off : s.captureState c = .off) : localWriteDone c r s = completeUpstream r none s := by
  cases r
  · simp only [localWriteDone, localWriteOk, off]
  · simp only [localWriteDone, localWriteErr, off]

theorem localWriteDone_err (on : s.captureState c ≠ .off) :
    localWriteDone c .err s = markCapture c .err (bump .localErrors (raise .localMemoryError s)) := by
  simp only [localWriteDone, localWriteErr]
  split
  next off => exact absurd off on
  all_goals rfl

/-- A merge-only write that has lost its tail and finds no slot (R44). -/
def LostTail (c : Capture) (s : State) : Prop :=
  c.path = some .mergeOnly ∧ c.reservation = false ∧ 64 ≤ s.rq.records.length + (if s.re.reservation then 1 else 0)
    ∧ ∀ q, s.rq.records.getLast? = some q → ¬(q.state = .opened ∧ q.kind = .write ∧ q.window = c.window ∧ q.line = c.line)

theorem mirrorWrite_lost (there : s.cu = some c) (lost : LostTail c s) :
    mirrorWrite c s = markCapture c .ok (bump .stallExpiries s) := by
  obtain ⟨_, unreserved, full, closed⟩ := lost
  have tail : s.tailTakes c.window c.line = false := by
    unfold State.tailTakes
    split
    next => rfl
    next q last => exact decide_eq_false (closed q last)
  have slot : s.slotFree = false := by
    unfold State.slotFree State.slotsTaken
    refine decide_eq_false ?_
    simp only [there, Option.any_some, unreserved, Config.replaySlots]
    simpa using full
  simp [mirrorWrite, tail, unreserved, slot]

/-- A write that completed with OK in an enabled window is marked for its window's state, for its path or its session, or for
a lost tail (R44, R49). -/
theorem localWriteDone_ok (there : s.cu = some c) (on : s.captureState c ≠ .off)
    (why : s.captureState c = .degraded ∨ s.captureState c = .halted ∨ c.path = some .noRecord ∨ c.sessionEnded = true
      ∨ LostTail c s) :
    (localWriteDone c .ok s = markCapture c .ok s
        ∧ ¬(s.captureState c ≠ .degraded ∧ s.captureState c ≠ .halted ∧ c.sessionEnded = false ∧ LostTail c s))
      ∨ (localWriteDone c .ok s = markCapture c .ok (bump .stallExpiries s)
        ∧ s.captureState c ≠ .degraded ∧ s.captureState c ≠ .halted ∧ c.path ≠ some .noRecord ∧ c.sessionEnded = false) := by
  simp only [localWriteDone, localWriteOk]
  split
  next off => exact absurd off on
  next state => exact .inl ⟨rfl, fun ⟨no, _⟩ => no state⟩
  next state => exact .inl ⟨rfl, fun ⟨_, no, _⟩ => no state⟩
  all_goals
    rename_i state
    rw [state] at why ⊢
    split
    next ended =>
      refine .inl ⟨rfl, fun ⟨_, _, running, lost⟩ => ?_⟩
      rcases ended with ended | path
      · simp [running] at ended
      · simp [lost.1] at path
    next running =>
      rw [not_or] at running
      simp only [reduceCtorEq, false_or, running.2, running.1] at why
      refine .inr ⟨mirrorWrite_lost there ?_, by simp, by simp, running.2, by simpa using running.1⟩
      simpa using why

theorem Marked.frame {b : State} (marked : Marked c b t) (frame : Only [.al, .counters] s b) (flags : FlagsKept s b) :
    Marked c s t := by
  obtain ⟨da, read, set, other, kept, fails, degrades, raised⟩ := marked
  have out := frame .out (by decide)
  have params : b.params = s.params := frame .params (by decide)
  have win (v : WinId) : b.win v = s.win v := win_of_out out
  have place : State.markPlace b c = State.markPlace s c := by
    simp only [State.markPlace, State.segBytes, params]
    rw [← win_eq, ← win_eq, win]
  have dm : b.dm = s.dm := frame .dm (by decide)
  have arbiter : b.da = s.da := frame .da (by decide)
  have re : b.re = s.re := frame .re (by decide)
  simp only [place, win, dm, arbiter, re] at *
  exact ⟨da, read, set, other, kept, fails, degrades, flags.trans raised⟩

theorem flagsKept_bump {x : Counter} : FlagsKept s (bump x s) := flagsKept_of_al rfl

/-- A captured write that is not recorded is marked in a state that differs from the one before in flags and counters: a
local error is raised and counted, and a lost tail is counted (R44, R48). -/
theorem localWriteDone_marks (there : s.cu = some c) (on : s.captureState c ≠ .off)
    (why : r = .err ∨ s.captureState c = .degraded ∨ s.captureState c = .halted ∨ c.path = some .noRecord
      ∨ c.sessionEnded = true ∨ LostTail c s) :
    ∃ b, localWriteDone c r s = markCapture c r b ∧ Only [.al, .counters] s b ∧ FlagsKept s b
      ∧ (r = .err → b.al.detail.has .localMemoryError = true ∧ b.counter .localErrors = saturate (s.counter .localErrors))
      ∧ (r = .ok → s.captureState c = .degraded ∨ s.captureState c = .halted ∨ c.path = some .noRecord
          ∨ c.sessionEnded = true → b.counters = s.counters)
      ∧ (r = .ok → s.captureState c ≠ .degraded → s.captureState c ≠ .halted → c.sessionEnded = false → LostTail c s →
          b.counters = (bump .stallExpiries s).counters) := by
  cases r with
  | err =>
    refine ⟨_, localWriteDone_err on, by simp [Only.refl], (flagsKept_raise _ s).trans flagsKept_bump, fun _ => ⟨?_, ?_⟩,
      by simp, by simp⟩
    · exact raise_has_self ..
    · exact bump_counter_self ..
  | ok =>
    rcases localWriteDone_ok there on (why.resolve_left (by simp)) with ⟨done, found⟩ | ⟨done, running, here, path, session⟩
    · refine ⟨s, done, Only.refl _ _, .refl s, by simp, fun _ _ => rfl, fun _ running here session lost => ?_⟩
      exact absurd ⟨running, here, session, lost⟩ found
    · refine ⟨_, done, by simp [Only.refl], flagsKept_bump, by simp, fun _ other => ?_, fun _ _ _ _ _ => rfl⟩
      rcases other with was | was | was | was
      · exact absurd was running
      · exact absurd was here
      · exact absurd was path
      · simp [session] at was

theorem counter_of_counters (h : t.counters = s.counters) (x : Counter) : t.counter x = s.counter x := by
  rw [State.counter, h, State.counter]

theorem exec_localWriteComplete {x : Txn} (there : s.cu = some c) (port : s.da.port = some ⟨.fg, x⟩)
    (phase : c.phase = .localWrite) :
    exec (.localWriteComplete r) s = .next (acceptOffer (releasePort (settle (localWriteDone c r s)))) := by
  have owner : s.portClient = some .fg := by simp [State.portClient, port]
  simp only [exec, execLocalWriteComplete, there, owner, phase, and_self, if_true]

/-- Settles O38. -/
theorem capturedWriteUnrecorded : Obligations.CapturedWriteUnrecorded := by
  intro c x txn r s there port phase taken
  have run := exec_localWriteComplete (r := r) there port phase
  have busy : s.da.port.isSome = true := by simp [port]
  have any : s.mp.txn.any (·.released) = x.released := by simp [taken]
  refine ⟨fun gone => ?_, fun kept on why => ?_⟩
  · have off : s.captureState c = .off := captureState_off (gone.imp_left fun released => any.trans released)
    rw [localWriteDone_off off] at run
    exact ⟨_, _, run, localWriteEnds_settle rfl rfl rfl busy, by simp [Only.refl], settle_cu_none rfl,
      fun v => settle_state, settle_mp⟩
  · have state : s.captureState c = (s.win c.window).state := captureState_on (any.trans kept)
    obtain ⟨b, done, frame, flags, error, unmoved, stalled⟩ := localWriteDone_marks (r := r) there
      (by rw [state]; exact on) (by rw [state]; exact why)
    have marking : Marked c b (markCapture c r b) := by
      refine marked_markCapture ?_
      rw [state_of_out (frame .out (by decide))]
      exact on
    have marked := marking.frame frame flags
    have marks : Only [.out, .dm, .re, .da, .fu, .al, .cu, .mp] b (markCapture c r b) := by simp [markCapture, Only.refl]
    have counters : (settle (markCapture c r b)).counters = b.counters := by
      rw [settle_counters]
      exact marks .counters (by decide)
    have mp : b.mp = s.mp := frame .mp (by decide)
    rw [done] at run
    have ends := localWriteEnds_settle (s := s) (u := markCapture c r b) markCapture_cu marked.da marked.read busy
    have wide : Only [.out, .dm, .re, .da, .fu, .al, .cu, .mp, .counters] s (settle (markCapture c r b)) :=
      ((frame.mono (by decide)).trans (marks.mono (by decide))).trans (by simp [Only.refl])
    have cu := settle_cu_none (u := markCapture c r b) markCapture_cu
    have txn : (settle (markCapture c r b)).mp
        = { s.mp with txn := none, completions := s.mp.completions ++ [⟨r, none⟩] } := by
      rw [settle_mp, markCapture_mp, mp]
    have dm : (settle (markCapture c r b)).dm = (markCapture c r b).dm := settle_dm
    have al : (settle (markCapture c r b)).al = (markCapture c r b).al := settle_al
    have win (v : WinId) : ((settle (markCapture c r b)).win v).state = ((markCapture c r b).win v).state := settle_state
    generalize settle (markCapture c r b) = y at run counters ends wide cu txn dm al win
    refine ⟨_, _, run, ends, Only.trans (wide.mono (by decide)) (by simp [Only.refl]), cu, txn, fun low => ?_, fun p other => ?_,
      fun v other => (win v).trans (marked.kept v (.inl other)), fun other => (win _).trans (marked.kept _ (.inr other)),
      fun active low clear => (win _).trans (marked.fails active low clear), fun err => ⟨?_, ?_⟩,
      fun ok other => ?_, fun ok running session lost => ?_⟩
    · exact (congrArg (BitVec.getLsbD · _) dm).trans (marked.set low)
    · exact (congrArg (BitVec.getLsbD · _) dm).trans (marked.other p other)
    · rw [State.setDa_al, al]
      exact marking.flags _ (error err).1
    · exact (counter_of_counters counters _).trans (error err).2
    · exact counters.trans (unmoved ok (by rw [state]; exact other))
    · refine counters.trans (stalled ok ?_ ?_ session lost) <;>
        (rw [state]; rcases running with was | was <;> rw [win_eq, was] <;> decide)

end Sys2Proof.Proofs.MirrorWindows
end

section
/-! PROOF. The family 01_mirror_windows, part 7: sessions and acknowledgements (O42, O43, O50, O52). -/

namespace Sys2Proof.Proofs.MirrorWindows

open Sys2Proof Sys2Proof.Machine

variable {s t u : State} {w v : WinId}

/-! ### The link reaches UP (R22, R63) -/

/-- A window's entry once the link has reached UP (R22). -/
def resumedEntry (x : OutWindow) : OutWindow :=
  if x.state = .degraded ∧ x.autoResync = true then
    { x with state := if x.dirtyCount = 0 then .active else .resync, haltCause := none }
  else x

theorem resumeWindow_win : (resumeWindow w s).win v = if v = w then resumedEntry (s.win w) else s.win v := by
  unfold resumeWindow resumedEntry
  split
  · exact toResync_win
  · split
    next own => rw [own]
    next => rfl

theorem resumeWindows_foldl (l : List WinId) (nodup : l.Nodup) (s : State) :
    (l.foldl (fun t w => resumeWindow w t) s).win v = if v ∈ l then resumedEntry (s.win v) else s.win v := by
  induction l generalizing s with
  | nil => simp
  | cons w l ih =>
    obtain ⟨fresh, rest⟩ := List.nodup_cons.1 nodup
    rw [List.foldl_cons, ih rest, resumeWindow_win]
    by_cases own : v = w
    · subst own
      rw [if_neg fresh, if_pos rfl, if_pos (List.mem_cons_self ..)]
    · simp only [List.mem_cons, own, false_or, if_false]

theorem resumeWindows_win : (resumeWindows s).win v = resumedEntry (s.win v) := by
  rw [resumeWindows, resumeWindows_foldl _ (List.nodup_finRange 8), if_pos (List.mem_finRange v)]

theorem flagsKept_resumeWindows : FlagsKept s (resumeWindows s) := by
  refine flagsKept_foldl (fun t w => ?_) _ _
  unfold resumeWindow toResync
  repeat' split
  · exact flagsKept_enterWindow _
  · exact flagsKept_enterWindow _
  · exact .refl _

/-- Settles O42. -/
theorem linkReachesUp : Obligations.LinkReachesUp := by
  intro agreed nodeId p s hello peer node other epoch
  have run : exec (.helloAckReceived agreed nodeId) s = .next (reachUp agreed p.limit s) := by
    have partner : s.ownNode nodeId = false := decide_eq_false other
    have matched : nodeId = p.nodeId ∧ agreed = epochMax s.lc.proposal p.proposal := ⟨node, epoch⟩
    simp only [exec, execHelloAckReceived, helloAckInHello, hello, if_true, partner, Bool.false_eq_true, if_false, peer,
      if_pos matched]
  generalize start : startSession p.limit (linkUp agreed s) = b
  have ran : reachUp agreed p.limit s = settle (resumeWindows b) := by rw [← start]; rfl
  have resume : Only [.out, .da, .re, .fu, .al] b (resumeWindows b) := by simp [Only.refl]
  have begun : Only [.rq, .lc, .lanes, .ts, .rc, .au, .al, .counters] s b := by
    rw [← start]
    simp [startSession, linkUp, Only.refl]
  rw [ran] at run
  refine ⟨_, run, ?_, ?_, ?_, ?_, ?_, ?_, ?_, ?_, fun e owed => ?_, fun w => ?_⟩
  · exact ((begun.mono (by decide)).trans (resume.mono (by decide))).trans (by simp [Only.refl])
  · rw [settle_lc, resume .lc (by decide), ← start]
    rfl
  · rw [settle_rq, resume .rq (by decide), ← start]
    rfl
  · rw [settle_ts, resume .ts (by decide), ← start]
    rfl
  · rw [settle_rc, resume .rc (by decide), ← start]
    rfl
  · rw [settle_au, resume .au (by decide), ← start]
    rfl
  · have counters : (settle (resumeWindows b)).counters = (bump .sessions s).counters := by
      rw [settle_counters, resume .counters (by decide), ← start]
      rfl
    rw [State.counter, counters]
    exact bump_counter_self ..
  · rw [settle_al]
    refine flagsKept_resumeWindows _ ?_
    rw [← start]
    exact raise_has_self ..
  · rw [settle_lanes, resume .lanes (by decide), ← start]
    exact List.mem_filter.2 ⟨owed, by simp⟩
  · refine settle_state.trans ?_
    have win : b.win w = s.win w := win_of_out (begun .out (by decide))
    rw [resumeWindows_win, win, resumedEntry, ← win_eq]
    split <;> rfl

end Sys2Proof.Proofs.MirrorWindows
end

section
namespace Sys2Proof.Proofs.MirrorWindows

open Sys2Proof Sys2Proof.Machine

variable {s t u : State} {w v : WinId} {a limit q : Seq} {g : Segment}

/-! ### An ACK that makes progress (R81 to R85) -/

/-- The state in which an ACK with progress has removed the records it covers and restarted the liveness timer (R64, R82,
R83). -/
def acked (a limit : Seq) (s : State) : State := ackLimit limit (ackProgress a (restartLiveness s))

theorem acked_only : Only [.rq, .lc, .ts] s (acked a limit s) := by simp [acked, restartLiveness, Only.refl]

theorem rejectOf_code (reject : Option RejectReason) : rejectOf (codeOr0 RejectReason.code reject) = reject := by
  rcases reject with _ | reason
  · rfl
  · cases reason <;> rfl

theorem exec_ack {reject : Option RejectReason} (up : s.lc.state = .up) (sent : later a s.ts.sentHigh = false)
    (progress : later a s.ts.ackedThrough = true) (named : reject.isSome = true → q = a) :
    exec (.ackReceived s.lc.epoch a limit (codeOr0 RejectReason.code reject) q) s
      = .next (handOn a (s.waiterRemoved a) (ackReject reject (s.windowOfSeq a) (acked a limit s))) := by
  have session : s.isUp = true := isUp_iff.2 up
  have consistent : (restartLiveness s).ackConsistent a (codeOr0 RejectReason.code reject) q = true := by
    have sent' : later a (restartLiveness s).ts.sentHigh = false := sent
    have progress' : later a (restartLiveness s).ts.ackedThrough = true := progress
    unfold State.ackConsistent
    rw [rejectOf_code, sent', progress']
    cases reject with
    | none => simp [codeOr0]
    | some reason => simp [named]
  have progress' : later a (restartLiveness s).ts.ackedThrough = true := progress
  simp only [exec, execAckReceived, inSession, session, if_true, ackArrives, consistent, applyAck, progress', rejectOf_code]
  rfl

theorem exec_ack_plain (up : s.lc.state = .up) (sent : later a s.ts.sentHigh = false)
    (progress : later a s.ts.ackedThrough = true) :
    exec (.ackReceived s.lc.epoch a limit 0 q) s = .next (handOn a (s.waiterRemoved a) (acked a limit s)) :=
  exec_ack (reject := none) up sent progress (by simp)

/-- Accepting an offer changes the capture unit, the upstream port and the alerts, and then presents the transaction's request
or makes its slot check, if it does either (R154, R161 to R163). -/
theorem acceptOffer_cases : ∃ y, Only [.drawn, .cu, .mp, .al, .counters] s y
    ∧ (acceptOffer s = y ∨ (∃ x, acceptOffer s = presentFg x y) ∨ ∃ c, acceptOffer s = slotCheck c y) := by
  unfold acceptOffer
  repeat' split
  · exact ⟨s, Only.refl _ s, .inl rfl⟩
  · exact ⟨s, Only.refl _ s, .inl rfl⟩
  · unfold acceptTxn
    dsimp only
    repeat' split
    · exact ⟨_, by simp [Only.refl], .inl rfl⟩
    · exact ⟨_, by simp [Only.refl], .inr (.inl ⟨_, rfl⟩)⟩
    · exact ⟨_, by simp [Only.refl], .inr (.inr ⟨_, rfl⟩)⟩
    · exact ⟨_, by simp [Only.refl], .inl rfl⟩

/-- Accepting an offer changes nothing of the engine but that a requested read may be granted (R125). -/
theorem acceptOffer_re : (acceptOffer s).re = s.re ∨ (acceptOffer s).re = { s.re with read := .granted } := by
  have onward (t : State) (re : t.re = s.re) : (forward t).re = s.re ∨ (forward t).re = { s.re with read := .granted } := by
    unfold forward
    split
    · exact .inl re
    · rw [← re]; exact grant_re
  obtain ⟨y, same, kept | ⟨x, asked⟩ | ⟨c, checked⟩⟩ := acceptOffer_cases (s := s)
  · rw [kept]
    exact .inl (same .re (by decide))
  · rw [asked, ← same .re (by decide)]
    exact grant_re (s := y.setDa _)
  · rw [checked]
    obtain ⟨z, _, waits | forwards⟩ := slotCheck_cases c y
    · rw [waits]
      exact .inl (same .re (by decide))
    · rw [forwards]
      exact onward _ (same .re (by decide))

theorem acceptOffer_segment : (acceptOffer s).re.current = s.re.current ∧ (acceptOffer s).re.state = s.re.state := by
  rcases acceptOffer_re (s := s) with same | same <;> rw [same] <;> exact ⟨rfl, rfl⟩

/-- The state in which the engine compares its segment with the ACK (R85). -/
def compared (a : Seq) (waiter : Bool) (s : State) : State :=
  recheckSlot (if waiter then confirmDone (completeFences a s) else completeFences a s)

theorem handOn_eq {waiter : Bool} :
    handOn a waiter s = acceptOffer (advanceEngine (compareSegment a (compared a waiter s))) := rfl

theorem compared_only {waiter : Bool} : Only [.rq, .cu, .mp, .da, .re, .fu, .al] s (compared a waiter s) := by
  unfold compared
  split <;> simp [Only.refl]

theorem compared_segment {waiter : Bool} :
    (compared a waiter s).re.current = s.re.current ∧ (compared a waiter s).re.state = s.re.state := by
  have before : (if waiter = true then confirmDone (completeFences a s) else completeFences a s).re = s.re := by
    have frame : Only [.rq, .cu, .mp, .fu, .al] s
        (if waiter = true then confirmDone (completeFences a s) else completeFences a s) := by
      split <;> simp [Only.refl]
    exact frame .re (by decide)
  unfold compared
  rw [recheckSlot_segment.1, recheckSlot_segment.2, before]
  exact ⟨rfl, rfl⟩

/-- A finished segment leaves the engine in SELECT without one (R132). -/
theorem segmentDone_engine : (segmentDone g s).re.current = none ∧ (segmentDone g s).re.state = .select := by
  unfold segmentDone
  dsimp only
  repeat' split
  · exact ⟨rfl, rfl⟩
  · rcases enterWindow_engine (s := clearSegment g.window g.index (s.setRe { s.re with current := none, state := .select }))
      (w := g.window) (new := .active) (halt := none) with ⟨_, re, _⟩ | ⟨_, _, same | ⟨_, re⟩⟩
    · rw [re]; exact abandon_current
    · rw [same]; simp
    · rw [re]; simp
  · simp

/-- What a finished segment leaves at the windows and the map: its mark clears, and with the last one the window is ACTIVE
(R27, R124). -/
theorem segmentDone_clean (clean : g.redirtied = false) (set : s.dm.getLsbD ((s.win g.window).position g.index) = true) :
    (∀ p, (segmentDone g s).dm.getLsbD p = (s.dm.getLsbD p && !decide (p = (s.win g.window).position g.index)))
      ∧ (∀ v, (segmentDone g s).win v = if v = g.window then
          { s.win g.window with
            dirtyCount := (s.win g.window).dirtyCount - 1
            state := if (s.win g.window).dirtyCount - 1 = 0 then .active else (s.win g.window).state
            haltCause := if (s.win g.window).dirtyCount - 1 = 0 then none else (s.win g.window).haltCause }
        else s.win v)
      ∧ (segmentDone g s).al = if (s.win g.window).dirtyCount - 1 = 0 ∧ ((s.win g.window).state = .resync
          ∨ (s.win g.window).state = .degraded) then (raise (.synced g.window) s).al else s.al := by
  have range : (s.win g.window).position g.index < 4096 := by
    by_contra out
    rw [BitVec.getLsbD_of_ge _ _ (by omega)] at set
    cases set
  generalize entry : s.setRe { s.re with current := none, state := .select } = b
  have win (v : WinId) : b.win v = s.win v := by rw [← entry]; rfl
  have dm : b.dm = s.dm := by rw [← entry]; rfl
  have al : b.al = s.al := by rw [← entry]; rfl
  have done : segmentDone g s = if ((clearSegment g.window g.index b).win g.window).dirtyCount = 0 then
      enterWindow g.window .active none (clearSegment g.window g.index b) else clearSegment g.window g.index b := by
    unfold segmentDone
    simp only [entry, clean, Bool.false_eq_true, if_false]
  have cleared : clearSegment g.window g.index b
      = (b.setDm (b.dm &&& ~~~BitVec.twoPow 4096 ((b.win g.window).position g.index))).setWin g.window
        { b.win g.window with dirtyCount := (b.win g.window).dirtyCount - 1 } := by
    unfold clearSegment
    rw [win, dm]
    exact if_pos set
  have cwin (v : WinId) : (clearSegment g.window g.index b).win v = if v = g.window then
      { s.win g.window with dirtyCount := (s.win g.window).dirtyCount - 1 } else s.win v := by
    rw [cleared, win_setWin, ← win v, ← win g.window]
    rfl
  have cdm (p : Nat) : (clearSegment g.window g.index b).dm.getLsbD p
      = (s.dm.getLsbD p && !decide (p = (s.win g.window).position g.index)) := by
    rw [cleared]
    simp only [setWin_dm, State.setDm_dm, BitVec.getLsbD_and, BitVec.getLsbD_not, BitVec.getLsbD_twoPow, dm, win]
    by_cases high : p < 4096
    · by_cases here : p = (s.win g.window).position g.index <;> simp [high, here, Ne.symm]
    · simp [BitVec.getLsbD_of_ge s.dm p (by omega)]
  have cal : (clearSegment g.window g.index b).al = s.al := by simpa using al
  have own := cwin g.window
  rw [if_pos rfl] at own
  generalize clearSegment g.window g.index b = c at done cwin cdm cal own
  rw [done, own]
  by_cases last : (s.win g.window).dirtyCount - 1 = 0
  · simp only [last, if_true, true_and]
    refine ⟨fun p => by rw [enterWindow_dm]; exact cdm p, fun v => ?_, ?_⟩
    · rw [enterWindow_win, own, cwin, last]
      split <;> rfl
    · rw [enterWindow_al, own]
      simp only [raiseEntry]
      split
      · simp [raise, cal]
      · exact cal
  · simp only [last, if_false, false_and]
    exact ⟨cdm, cwin, cal⟩

end Sys2Proof.Proofs.MirrorWindows
end

section
namespace Sys2Proof.Proofs.MirrorWindows

open Sys2Proof Sys2Proof.Machine

variable {s t u : State} {w v : WinId} {a limit q : Seq} {g : Segment}

/-! ### The end of a segment (R27, R124, R132) -/

/-- With no window in RESYNC an engine in SELECT goes IDLE (R127). -/
theorem advanceEngine_rests (select : s.re.state = .select) (none : s.re.current = none)
    (quiet : ∀ v, (s.win v).state ≠ .resync) : (advanceEngine s).re.current = .none ∧ (advanceEngine s).re.state = .idle := by
  have rest : (advanceEngine s).re.current = .none := by
    unfold advanceEngine
    rw [startRead_current]
    obtain same | idle | ⟨w, k, resync, _⟩ := selectSegment_cases (s := s)
    · rw [same]; exact none
    · rw [idle]; exact none
    · exact absurd resync (quiet w)
  exact ⟨rest, (advanceEngine_fresh select none).1 rest⟩

/-- What an ACK with progress does once the engine compares its segment and has it done. -/
theorem handOn_done {waiter : Bool} {l : Seq} (drains : s.re.state = .draining) (current : s.re.current = some g)
    (last : g.lastSeq = some l) (covered : atOrBefore l a = true) :
    handOn a waiter s = acceptOffer (advanceEngine (segmentDone g (compared a waiter s))) := by
  obtain ⟨held, state⟩ := compared_segment (s := s) (a := a) (waiter := waiter)
  rw [handOn_eq, compareSegment, held, current]
  simp only [state, drains, last, Option.any_some, covered, and_self, if_true]

/-- Accepting an offer leaves the window table as the event made it. -/
theorem acceptOffer_becomes {x : OutWindow} (table : ∀ v, u.win v = if v = w then x else s.win v) :
    WindowBecomes w x s (acceptOffer (advanceEngine u)) := by
  have out : (acceptOffer (advanceEngine u)).out = (advanceEngine u).out := by simp
  unfold WindowBecomes
  rw [out]
  exact advanceEngine_becomes table

/-- Settles O52: the engine finds its segment's last record covered, and selects after that. -/
theorem segmentCompletes : Obligations.SegmentCompletes := by
  intro a limit q g l s up sent progress drains current last covered resync
  have run := exec_ack_plain (limit := limit) (q := q) up sent progress
  have re : (acked a limit s).re = s.re := acked_only .re (by decide)
  rw [handOn_done (by rw [re]; exact drains) (by rw [re]; exact current) last covered] at run
  generalize seen : compared a (s.waiterRemoved a) (acked a limit s) = x at run
  have frame : Only [.rq, .cu, .mp, .da, .lc, .ts, .re, .fu, .al] s x := by
    rw [← seen]
    exact (acked_only.mono (by decide)).trans (compared_only.mono (by decide))
  have win (v : WinId) : x.win v = s.win v := win_of_out (frame .out (by decide))
  have dm : x.dm = s.dm := frame .dm (by decide)
  have place : (x.win g.window).position g.index = s.out[g.window].mapOffset + g.index := by rw [win]; rfl
  obtain ⟨free, select⟩ := segmentDone_engine (s := x) (g := g)
  obtain ⟨rests, copies⟩ := advanceEngine_fresh select free
  obtain ⟨same, state⟩ := acceptOffer_segment (s := advanceEngine (segmentDone g x))
  have tdm : (acceptOffer (advanceEngine (segmentDone g x))).dm = (segmentDone g x).dm := by simp
  have tout : (acceptOffer (advanceEngine (segmentDone g x))).out = (advanceEngine (segmentDone g x)).out := by simp
  refine ⟨_, run, fun idle => ?_, fun g' held => ?_, fun redirtied => ?_, fun clean set => ?_⟩
  · rw [state]
    exact rests (same ▸ idle)
  · rw [state]
    exact copies g' (same ▸ held)
  · have kept : segmentDone g x = x.setRe { x.re with current := none, state := .select } := by
      simp [segmentDone, redirtied]
    refine ⟨by rw [tdm, kept]; exact dm, ?_⟩
    refine acceptOffer_becomes fun v => ?_
    rw [kept]
    refine (win v).trans ?_
    split
    next own => rw [own]; rfl
    next => rfl
  · obtain ⟨cleared, table, flags⟩ := segmentDone_clean (s := x) clean (by rw [place, dm]; exact set)
    have resync' : (s.win g.window).state = .resync := resync
    have mapped : (s.win g.window).position g.index = s.out[g.window].mapOffset + g.index := rfl
    simp only [win, mapped, dm, resync', true_or, and_true] at cleared table flags
    refine ⟨by rw [tdm, cleared]; simp, fun j off => by rw [tdm, cleared, decide_eq_false off]; simp, ?_, fun one => ?_, fun more => ?_⟩
    · have own := (acceptOffer_becomes table g.window).1
      rw [if_pos rfl] at own
      rw [own]
      rfl
    · have last : (s.win g.window).dirtyCount - 1 = 0 := by
        change s.out[g.window].dirtyCount - 1 = 0
        omega
      simp only [last, if_true] at table flags
      refine ⟨acceptOffer_becomes table, flagsKept_acceptOffer _ _ ?_, fun others => ?_⟩
      · rw [advanceEngine_al, flags]
        exact raise_has_self _ _
      · obtain ⟨rest, idle⟩ := advanceEngine_rests select free fun v => by
          rw [table]
          split
          · simp
          · next other => exact others v other
        exact ⟨same.trans rest, state.trans idle⟩
    · have left : (s.win g.window).dirtyCount - 1 ≠ 0 := by
        change s.out[g.window].dirtyCount - 1 ≠ 0
        omega
      simp only [left, if_false] at table
      rw [← resync'] at table
      exact acceptOffer_becomes table

end Sys2Proof.Proofs.MirrorWindows
end

section
/-! PROOF. The family 01_mirror_windows, part 9: what an ACK does at the other blocks (O50). -/

namespace Sys2Proof.Proofs.MirrorWindows

open Sys2Proof Sys2Proof.Machine

variable {s t u : State} {w v : WinId} {a limit q : Seq} {g : Segment} {c : Capture}

/-! ### The fences an ACK reaches (R145) -/

/-- With no line request waiting, the front fence leaves the list and nothing is issued (R145, R150). -/
theorem completeFront_spec {f : Fence} (answered : s.fu.handshake ≠ .waiting) :
    (completeFront f s).rq = s.rq ∧ (completeFront f s).fu.fences = s.fu.fences.tail
      ∧ (completeFront f s).fu.handshake ≠ .waiting := by
  generalize told : deliver f.source (some f.ticket) true f.degraded (s.setFu { s.fu with fences := s.fu.fences.tail }) = t
  have delivered : t.rq = s.rq ∧ t.fu.fences = s.fu.fences.tail ∧ t.fu.handshake ≠ .waiting := by
    rw [← told]
    unfold deliver
    split <;> simp [answered]
  have front : completeFront f s = t := by
    unfold completeFront issueWaiting
    rw [told]
    split
    next waits => exact absurd waits delivered.2.2
    all_goals rfl
  rwa [front]

theorem completeRun_spec (l : List Fence) (fences : s.fu.fences = l) (answered : s.fu.handshake ≠ .waiting) :
    (completeRun a l s).rq = s.rq ∧ (completeRun a l s).fu.fences = l.dropWhile (fun f => atOrBefore f.ticket a) := by
  induction l generalizing s with
  | nil => exact ⟨rfl, fences⟩
  | cons f rest ih =>
    obtain ⟨rq, left, hand⟩ := completeFront_spec (f := f) answered
    rw [completeRun, List.dropWhile_cons]
    split
    · obtain ⟨rq', left'⟩ := ih (left.trans (by rw [fences]; rfl)) hand
      exact ⟨rq'.trans rq, left'⟩
    · exact ⟨rfl, fences⟩

theorem flagsKept_issueFence {source : FenceSource} (s : State) : FlagsKept s (issueFence source s) := by
  unfold issueFence
  dsimp only
  split
  · exact FlagsKept.trans (t := closeTail s) (flagsKept_of_al rfl) (flagsKept_deliver _)
  · exact flagsKept_of_al rfl

theorem flagsKept_issueWaiting (s : State) : FlagsKept s (issueWaiting s) := by
  unfold issueWaiting
  split
  · exact flagsKept_issueFence s
  all_goals exact .refl _

theorem flagsKept_completeFront {f : Fence} (s : State) : FlagsKept s (completeFront f s) :=
  FlagsKept.trans (t := s.setFu { s.fu with fences := s.fu.fences.tail }) (flagsKept_of_al rfl)
    ((flagsKept_deliver _).trans (flagsKept_issueWaiting _))

theorem flagsKept_completeRun (l : List Fence) (s : State) : FlagsKept s (completeRun a l s) := by
  induction l generalizing s with
  | nil => exact .refl _
  | cons f rest ih =>
    unfold completeRun
    split
    · exact (flagsKept_completeFront s).trans (ih _)
    · exact .refl _

/-! ### The effects an ACK hands on (R85) -/

theorem segmentDone_kept (other : w ≠ g.window) : (segmentDone g s).win w = s.win w := by
  unfold segmentDone
  dsimp only
  have cleared (b : State) : (clearSegment g.window g.index b).win w = b.win w := by
    unfold clearSegment
    dsimp only
    split
    · rw [win_setWin, if_neg other]; rfl
    · rfl
  repeat' split
  · rfl
  · rw [enterWindow_win, if_neg other, cleared]; rfl
  · rw [cleared]; rfl

theorem segmentDone_fu : (segmentDone g s).fu = s.fu := by
  unfold segmentDone
  dsimp only
  repeat' split
  · rfl
  · rw [enterWindow_fu]; simp [WinState.behind]
  · simp

theorem flagsKept_segmentDone : FlagsKept s (segmentDone g s) := by
  unfold segmentDone
  dsimp only
  repeat' split
  · exact flagsKept_of_al rfl
  · exact FlagsKept.trans (t := clearSegment g.window g.index _) (flagsKept_of_al (by simp)) (flagsKept_enterWindow _)
  · exact flagsKept_of_al (by simp)

theorem compareSegment_cases : compareSegment a s = s ∨ ∃ g, s.re.current = some g ∧ compareSegment a s = segmentDone g s := by
  unfold compareSegment
  repeat' split
  · exact .inl rfl
  · next g held _ => exact .inr ⟨g, held, rfl⟩
  · exact .inl rfl

theorem acceptOffer_counter {x : Counter} (other : x ≠ .guardRefusals) : (acceptOffer s).counter x = s.counter x := by
  unfold acceptOffer
  repeat' split
  · rfl
  · rfl
  · unfold acceptTxn
    dsimp only
    repeat' split
    · rw [bump_counter, if_neg other]
      exact counter_of_counters (by simp) x
    · exact counter_of_counters (by simp) x
    · exact counter_of_counters (by simp) x
    · exact counter_of_counters (by simp) x

theorem readAbandoned_acceptOffer (h : ReadAbandoned s t) : ReadAbandoned s (acceptOffer t) := by
  obtain ⟨y, same, cases⟩ := acceptOffer_cases (s := t)
  have re := same .re (by decide)
  have da := same .da (by decide)
  have kept : ReadAbandoned s y := readAbandoned_congr h (by rw [re]) (by rw [re]) (by rw [re]) (by rw [re]) (by rw [da])
    (by rw [da]) (same .out (by decide)) (same .params (by decide))
  obtain stays | ⟨x, asked⟩ | ⟨c, checked⟩ := cases
  · rwa [stays]
  · rw [asked]; exact readAbandoned_presentFg kept
  · rw [checked]; exact readAbandoned_slotCheck kept

section

variable {waiter : Bool}

theorem compared_after : Only [.cu, .mp, .da, .re] (completeFences a s) (compared a waiter s) := by
  unfold compared
  split <;> simp [Only.refl]

theorem handOn_rq (answered : s.fu.handshake ≠ .waiting) : (handOn a waiter s).rq = s.rq := by
  have after : Only [.drawn, .out, .cu, .mp, .da, .dm, .re, .fu, .al, .counters] (completeFences a s) (handOn a waiter s) := by
    unfold handOn
    cases waiter <;> simp [Only.refl]
  exact (after .rq (by decide)).trans (completeRun_spec _ rfl answered).1

theorem handOn_fences (answered : s.fu.handshake ≠ .waiting) :
    (handOn a waiter s).fu.fences = s.fu.fences.dropWhile (fun f => atOrBefore f.ticket a) := by
  have before : (compared a waiter s).fu = (completeFences a s).fu := compared_after .fu (by decide)
  have after : (compareSegment a (compared a waiter s)).fu = (compared a waiter s).fu := by
    obtain same | ⟨g, _, done⟩ := compareSegment_cases (a := a) (s := compared a waiter s)
    · rw [same]
    · rw [done, segmentDone_fu]
  rw [handOn_eq, acceptOffer_fu, advanceEngine_fu, after, before]
  exact (completeRun_spec _ rfl answered).2

theorem flagsKept_handOn : FlagsKept s (handOn a waiter s) := by
  have before : FlagsKept s (compared a waiter s) :=
    (flagsKept_completeRun _ s).trans (flagsKept_of_al (compared_after .al (by decide)))
  rw [handOn_eq]
  refine (before.trans ?_).trans ((flagsKept_of_al advanceEngine_al).trans (flagsKept_acceptOffer _))
  obtain same | ⟨g, _, done⟩ := compareSegment_cases (a := a) (s := compared a waiter s)
  · rw [same]; exact .refl _
  · rw [done]; exact flagsKept_segmentDone

theorem handOn_counter {x : Counter} (other : x ≠ .guardRefusals) : (handOn a waiter s).counter x = s.counter x := by
  rw [handOn_eq, acceptOffer_counter other]
  refine counter_of_counters ?_ x
  have frame : Only [.rq, .cu, .mp, .da, .re, .fu, .al, .out, .dm] s
      (advanceEngine (compareSegment a (compared a waiter s))) := by
    simpa using compared_only.mono (by decide)
  exact frame .counters (by decide)

/-- A window outside RESYNC that is not the current segment's keeps its entry through what an ACK hands on (R124, R127). -/
theorem handOn_win (other : ∀ g, s.re.current = some g → g.window ≠ w) (still : (s.win w).state ≠ .resync) :
    (handOn a waiter s).win w = s.win w := by
  have before : (compared a waiter s).win w = s.win w := win_of_out (compared_only .out (by decide))
  have after : (compareSegment a (compared a waiter s)).win w = s.win w := by
    obtain same | ⟨g, held, done⟩ := compareSegment_cases (a := a) (s := compared a waiter s)
    · rw [same, before]
    · rw [done, segmentDone_kept (Ne.symm (other g (compared_segment.1.symm.trans held))), before]
  have advanced : (advanceEngine (compareSegment a (compared a waiter s))).win w = s.win w := by
    unfold advanceEngine
    exact (win_of_out (by simp)).trans ((selectSegment_kept (by rwa [after])).trans after)
  rw [handOn_eq, win_of_out acceptOffer_out, advanced]

theorem readAbandoned_handOn (h : ReadAbandoned s t) (none : t.re.current = none) : ReadAbandoned s (handOn a waiter t) := by
  have before : ReadAbandoned s (compared a waiter t) := by
    have frame : Only [.rq, .cu, .mp, .fu, .al] t
        (if waiter = true then confirmDone (completeFences a t) else completeFences a t) := by
      split <;> simp [Only.refl]
    have re := frame .re (by decide)
    have da := frame .da (by decide)
    unfold compared
    exact readAbandoned_recheckSlot (readAbandoned_congr h (by rw [re]) (by rw [re]) (by rw [re]) (by rw [re]) (by rw [da])
      (by rw [da]) (frame .out (by decide)) (frame .params (by decide)))
  have still : (compared a waiter t).re.current = .none := compared_segment.1.trans none
  rw [handOn_eq, compareSegment, still]
  exact readAbandoned_acceptOffer (readAbandoned_advanceEngine before still)

/-- The confirm wait whose record left the queue completes with OK (R47). -/
theorem handOn_confirms (there : s.cu = some c) (waits : c.phase = .confirmWait) (free : s.mp.offer = none) :
    (handOn a true s).cu = none
      ∧ (handOn a true s).mp = { txn := none, offer := none, completions := s.mp.completions ++ [⟨.ok, none⟩] } := by
  have done : compared a true s = completeUpstream .ok none (completeFences a s) := by
    unfold compared recheckSlot confirmDone
    simp [there, waits, completeUpstream]
  have frame : Only [.out, .da, .dm, .re, .fu, .al] (compared a true s)
      (advanceEngine (compareSegment a (compared a true s))) := by simp [Only.refl]
  have cu := frame .cu (by decide)
  have mp := frame .mp (by decide)
  rw [handOn_eq]
  generalize advanceEngine (compareSegment a (compared a true s)) = y at cu mp
  rw [done] at cu mp
  have mp' : y.mp = { txn := none, offer := none, completions := s.mp.completions ++ [⟨.ok, none⟩] } := by
    refine mp.trans ?_
    simp [completeUpstream, free]
  have rest : acceptOffer y = y := by
    unfold acceptOffer
    rw [mp']
  rw [rest]
  exact ⟨cu, mp'⟩

end

end Sys2Proof.Proofs.MirrorWindows
end

section
namespace Sys2Proof.Proofs.MirrorWindows

open Sys2Proof Sys2Proof.Machine

variable {s t u : State} {w v : WinId} {a limit q : Seq} {reject : Option RejectReason} {reason : RejectReason}

/-! ### An ACK at the scheduler and the replay queue (R82, R83) -/

theorem exec_ack_idle (up : s.lc.state = .up) (sent : later a s.ts.sentHigh = false)
    (idle : later a s.ts.ackedThrough = false) :
    exec (.ackReceived s.lc.epoch a limit 0 q) s = .next (ackLimit limit (restartLiveness s)) := by
  have session : s.isUp = true := isUp_iff.2 up
  have consistent : (restartLiveness s).ackConsistent a 0 q = true := by
    have sent' : later a (restartLiveness s).ts.sentHigh = false := sent
    unfold State.ackConsistent
    rw [sent']
    rfl
  have idle' : later a (restartLiveness s).ts.ackedThrough = false := idle
  simp only [exec, execAckReceived, inSession, session, if_true, ackArrives, consistent, applyAck, idle', Bool.false_eq_true,
    if_false]
  rfl

theorem acked_lc : (acked a limit s).lc = { s.lc with liveness := some s.params.liveness.toNat } := by
  unfold acked ackLimit
  split <;> rfl

theorem acked_rq : (acked a limit s).rq
    = { s.rq with
        records := s.rq.records.filter (fun r => later r.seq a)
        sendPtr := if atOrBefore s.rq.sendPtr a then a + 1 else s.rq.sendPtr } := by
  unfold acked ackLimit
  split <;> rfl

theorem acked_ts : (acked a limit s).ts
    = { s.ts with
        ackedThrough := a, rounds := 0
        sendLimit := if later limit s.ts.sendLimit then limit else s.ts.sendLimit
        ackTimer :=
          if ∃ r ∈ s.rq.records.filter (fun r : Record => later r.seq a), r.state = .sent then some s.params.ackTimeout.toNat
          else none } := by
  have remains : (removeHead a (restartLiveness s)).sentRemains = true
      ↔ ∃ r ∈ s.rq.records.filter (fun r : Record => later r.seq a), r.state = .sent := by
    simp only [State.sentRemains, List.any_eq_true, decide_eq_true_eq]
    rfl
  have limited : later limit (ackProgress a (restartLiveness s)).ts.sendLimit = later limit s.ts.sendLimit := rfl
  have progressed : (ackProgress a (restartLiveness s)).ts
      = { s.ts with
          ackedThrough := a, rounds := 0
          ackTimer :=
            if ∃ r ∈ s.rq.records.filter (fun r : Record => later r.seq a), r.state = .sent then some s.params.ackTimeout.toNat
            else none } := by
    simp only [← remains]
    rfl
  unfold acked ackLimit
  rw [limited]
  split
  · rw [State.setTs_ts, progressed]
  · exact progressed

/-! ### The reject an ACK carries (R84, R25) -/

theorem rejectWindow_running (on : (s.win w).state ≠ .off) (running : (s.win w).state ≠ .halted) :
    rejectWindow w reason s = enterWindow w .halted (some (.reject reason)) s := by
  unfold rejectWindow
  split
  next off => exact absurd off on
  next halted => exact absurd halted running
  all_goals rfl

theorem rejectWindow_halted (halted : (s.win w).state = .halted) : rejectWindow w reason s = s := by
  unfold rejectWindow
  rw [halted]

/-- A reject leaves the fence unit as it was, or sets the degraded flag of every pending fence (R144). -/
theorem ackReject_fu {window : Option WinId} : (ackReject reject window s).fu = s.fu
    ∨ (ackReject reject window s).fu = { s.fu with fences := s.fu.fences.map (fun f => { f with degraded := true }) } := by
  unfold ackReject rejectWindow
  repeat' split
  all_goals first
    | exact .inl rfl
    | exact .inr (enterWindow_fu (s := bump .rejectsReceived s) .halted _)

/-- `ReadAbandoned` looks at nothing else of the earlier state than the engine and the arbiter. -/
theorem readAbandoned_source (re : u.re = s.re) (da : u.da = s.da) (h : ReadAbandoned u t) : ReadAbandoned s t := by
  unfold ReadAbandoned at h ⊢
  rwa [← re, ← da]

/-- A window that is HALTED once the reject is taken stays as it is through what the ACK hands on (R20, R85). -/
theorem handOn_halted {waiter : Bool} (resyncs : SegmentResyncs s) (halted : (s.win w).state = .halted) :
    (handOn a waiter s).win w = s.win w := by
  refine handOn_win (fun g held own => ?_) (by rw [halted]; decide)
  have resync := resyncs g held
  rw [own, halted] at resync
  cases resync

/-- Settles O50. -/
theorem ackResult : Obligations.AckResult := by
  refine ⟨fun a limit q s up sent idle => ?_, fun a limit reject q s up sent progress named free quiet => ?_⟩
  · rw [exec_ack_idle up sent idle]
    unfold ackLimit
    have same : later limit (restartLiveness s).ts.sendLimit = later limit s.ts.sendLimit := rfl
    rw [same]
    split <;> rfl
  · intro kept
    have run := exec_ack (limit := limit) up sent progress named
    generalize seen : ackReject reject (s.windowOfSeq a) (acked a limit s) = x at run
    have base : Only [.rq, .lc, .ts] s (acked a limit s) := acked_only
    have frame : Only [.out, .da, .re, .fu, .al, .counters] (acked a limit s) x := by
      rw [← seen]; simp [Only.refl]
    have fu : (acked a limit s).fu = s.fu := base .fu (by decide)
    have told : x.fu.handshake = s.fu.handshake ∧ x.fu.fences.map (·.ticket) = s.fu.fences.map (·.ticket) := by
      rw [← fu, ← seen]
      rcases ackReject_fu (s := acked a limit s) (reject := reject) (window := s.windowOfSeq a) with same | same <;>
        rw [same] <;> simp
    have answered : x.fu.handshake ≠ .waiting := told.1 ▸ free
    have after : Only [.drawn, .out, .rq, .cu, .mp, .da, .dm, .re, .fu, .al, .counters] x (handOn a (s.waiterRemoved a) x) := by
      simp [Only.refl]
    refine ⟨_, run, ?_, ?_, ?_, ?_, ?_, ?_, fun c there waits offer record => ?_, fun reason r rejected found => ?_⟩
    · exact (after .lc (by decide)).trans ((frame .lc (by decide)).trans acked_lc)
    · exact (after .lanes (by decide)).trans ((frame .lanes (by decide)).trans (base .lanes (by decide)))
    · exact (after .au (by decide)).trans ((frame .au (by decide)).trans (base .au (by decide)))
    · rw [handOn_rq answered]
      exact (frame .rq (by decide)).trans acked_rq
    · exact (after .ts (by decide)).trans ((frame .ts (by decide)).trans acked_ts)
    · rw [handOn_fences answered, ← told.2, List.dropWhile_map]
      rfl
    · have removed : s.waiterRemoved a = true := by
        simpa [State.waiterRemoved, List.any_eq_true] using record
      have cu : x.cu = some c := (frame .cu (by decide)).trans ((base .cu (by decide)).trans there)
      have mp : x.mp = s.mp := (frame .mp (by decide)).trans (base .mp (by decide))
      obtain ⟨gone, done⟩ := handOn_confirms (a := a) cu waits (by rw [mp]; exact offer)
      rw [removed]
      exact ⟨gone, by rw [done, mp]⟩
    · have window : s.windowOfSeq a = some r.window := by rw [State.windowOfSeq, found]; rfl
      have rejects : x = rejectWindow r.window reason (bump .rejectsReceived (acked a limit s)) := by
        rw [← seen, rejected, window]
        rfl
      generalize counted : bump .rejectsReceived (acked a limit s) = b at rejects
      have same : Only [.rq, .lc, .ts, .counters] s b := by
        rw [← counted]
        simpa using base.mono (by decide)
      have out : b.out = s.out := same .out (by decide)
      have resyncs : SegmentResyncs b := fun g held => by
        rw [state_of_out out]
        exact quiet.2 g ((same .re (by decide)) ▸ held)
      have bcounters : (acked a limit s).counters = s.counters := base .counters (by decide)
      refine ⟨?_, fun on running => ?_, fun halted => ?_⟩
      · rw [handOn_counter (by decide), rejects, counter_of_counters rejectWindow_counters, ← counted, bump_counter_self,
          counter_of_counters bcounters]
      · have entered : x = enterWindow r.window .halted (some (.reject reason)) b := by
          rw [rejects, rejectWindow_running (by rw [state_of_out out]; exact on) (by rw [state_of_out out]; exact running)]
        have own : x.win r.window = { b.win r.window with state := .halted, haltCause := some (.reject reason) } := by
          rw [entered, enterWindow_win, if_pos rfl]
        have last : (handOn a (s.waiterRemoved a) x).win r.window = x.win r.window :=
          handOn_halted (entered ▸ segmentResyncs_enterWindow resyncs) (by rw [own])
        rw [own] at last
        refine ⟨congrArg OutWindow.state last, congrArg OutWindow.haltCause last, fun g held here resync => ?_, ?_, ?_⟩
        · have holds : b.holdsSegment r.window = true :=
            holdsSegment_iff.2 ⟨g, (congrArg ResyncEngine.current (same .re (by decide))).trans held, here⟩
          obtain ⟨read, none⟩ := enterWindow_abandons (s := b) (w := r.window) (new := .halted) (halt := some (.reject reason))
            ⟨by decide, (state_of_out out _).trans resync, holds⟩
          rw [← entered] at read none
          exact readAbandoned_handOn (readAbandoned_source (same .re (by decide)) (same .da (by decide)) read) none
        · refine flagsKept_handOn _ ?_
          rw [entered, enterWindow_al]
          exact raise_has_self _ _
        · rw [handOn_fences answered]
          intro f mem
          have mem' : f ∈ x.fu.fences := (List.dropWhile_sublist _).subset mem
          rw [entered, enterWindow_fu] at mem'
          obtain ⟨f', _, rfl⟩ := List.mem_map.1 mem'
          rfl
      · rw [rejectWindow_halted (by rw [state_of_out out]; exact halted)] at rejects
        have last : (handOn a (s.waiterRemoved a) x).win r.window = x.win r.window :=
          handOn_halted (rejects ▸ resyncs) (by rw [rejects, state_of_out out]; exact halted)
        rw [rejects, win_of_out out] at last
        rw [rejects]
        exact congrArg OutWindow.haltCause last

end Sys2Proof.Proofs.MirrorWindows
end

section
/-! PROOF. The family 01_mirror_windows, part 10: what a session end leaves at the windows, the engine and the fence unit
(O43). -/

namespace Sys2Proof.Proofs.MirrorWindows

open Sys2Proof Sys2Proof.Machine

variable {s t u : State} {w v : WinId} {g : Segment}

/-! ### The windows' part of a session end (R23, R39)

Set requests, demotions of mirrored windows and the emptying of the queue are all that it is made of. -/

theorem endWindows_discardAll_induction {P : State → Prop} (mark : ∀ t w k, P t → P (markSegment w k t))
    (demote : ∀ t w, (t.win w).state.mirrored = true → P t → P (enterWindow w .degraded none t))
    (empty : ∀ t, P t → P (discardRecords t)) (start : P s) : P (endWindows (discardAll s)) := by
  have discards (t : State) (r : Record) (h : P t) : P (discardOne t r) := by
    unfold discardOne
    split
    · have marked : P (markLine r.window r.line t) := mark _ _ _ h
      unfold discardFailure
      split
      next active => exact demote _ _ (by rw [active]; rfl) marked
      next => exact marked
    · exact h
  have ends (t : State) (w : WinId) (h : P t) : P (endWindow w t) := by
    unfold endWindow
    split
    next mirrored => exact demote t w mirrored h
    next => exact h
  rw [discardAll_eq]
  exact List.foldlRecOn _ _ (empty _ (List.foldlRecOn _ _ start fun t h r _ => discards t r h)) fun t h w _ => ends t w h

/-- No window is mirrored after a session end (R23). -/
theorem endWindows_state : ((endWindows (discardAll s)).win w).state.mirrored = false := by
  rw [endWindows_win]
  split
  · rfl
  next h => simpa using h

/-- The entry of a window that set requests and demotions have met: its dirty_count apart it is as it was, or the window was
mirrored and has entered DEGRADED with its cause raised (R23, R28). -/
def Demoted (w : WinId) (s t : State) : Prop :=
  t.win w = { s.win w with dirtyCount := (t.win w).dirtyCount }
    ∨ ((s.win w).state.mirrored = true
      ∧ t.win w = { s.win w with state := .degraded, haltCause := none, dirtyCount := (t.win w).dirtyCount }
      ∧ t.al.detail.has (.degradedEntered w) = true)

theorem demoted_markSegment {k : Nat} (h : Demoted w s t) : Demoted w s (markSegment v k t) := by
  have entry : (markSegment v k t).win w = { t.win w with dirtyCount := ((markSegment v k t).win w).dirtyCount } := by
    rw [markSegment_win]
    split
    next own => rw [own.1]
    next => rfl
  have al : (markSegment v k t).al = t.al := by simp
  rcases h with same | ⟨was, entered, flag⟩
  · exact .inl (entry.trans (by rw [same]))
  · exact .inr ⟨was, entry.trans (by rw [entered]), al ▸ flag⟩

theorem demoted_enterWindow (mirrored : (t.win v).state.mirrored = true) (h : Demoted w s t) :
    Demoted w s (enterWindow v .degraded none t) := by
  unfold Demoted
  rw [enterWindow_win]
  by_cases own : w = v
  · subst own
    rw [if_pos rfl]
    rcases h with same | ⟨_, entered, _⟩
    · refine .inr ⟨?_, ?_, ?_⟩
      · rw [same] at mirrored
        exact mirrored
      · rw [same]
      · rw [enterWindow_al]
        exact raise_has_self _ _
    · rw [entered] at mirrored
      cases mirrored
  · rw [if_neg own]
    exact h.imp_right fun ⟨was, entered, flag⟩ => ⟨was, entered, flagsKept_enterWindow t _ flag⟩

theorem demoted_ended : Demoted w s (endWindows (discardAll s)) :=
  endWindows_discardAll_induction (P := Demoted w s) (fun _ _ _ => demoted_markSegment) (fun _ _ => demoted_enterWindow)
    (fun _ h => h) (.inl rfl)

/-! ### The fences as the demotions reach them (R144) -/

/-- The fence unit that set requests and demotions have met: its fences carry the degraded flag once a mirrored window has
left the mirrored states. -/
def Degraded (s t : State) : Prop :=
  ∃ d, t.fu = { s.fu with fences := degradedBy d s.fu.fences }
    ∧ (d = true ↔ ∃ w, (s.win w).state.mirrored = true ∧ (t.win w).state.mirrored = false)
    ∧ ∀ w, (t.win w).state.mirrored = true → (s.win w).state.mirrored = true

theorem degradedBy_false (l : List Fence) : degradedBy false l = l := by simp [degradedBy]

theorem degradedBy_true {d : Bool} (l : List Fence) :
    (degradedBy d l).map (fun f => { f with degraded := true }) = degradedBy true l := by simp [degradedBy]

theorem degraded_congr (fu : u.fu = t.fu) (states : ∀ w, (u.win w).state = (t.win w).state) (h : Degraded s t) :
    Degraded s u := by
  unfold Degraded at h ⊢
  simpa only [fu, states] using h

theorem degraded_enterWindow (mirrored : (t.win v).state.mirrored = true) (h : Degraded s t) :
    Degraded s (enterWindow v .degraded none t) := by
  obtain ⟨d, fu, _, only⟩ := h
  refine ⟨true, ?_, ⟨fun _ => ⟨v, only v mirrored, by rw [enterWindow_win, if_pos rfl]; rfl⟩, fun _ => rfl⟩, fun w still => ?_⟩
  · rw [enterWindow_fu, if_pos (by rfl), fu, degradedBy_true]
  · rw [enterWindow_win] at still
    split at still
    · cases still
    · exact only w still

theorem degraded_ended : ∃ d, (endWindows (discardAll s)).fu = { s.fu with fences := degradedBy d s.fu.fences }
    ∧ (d = true ↔ ∃ w, (s.win w).state.mirrored = true) := by
  obtain ⟨d, fu, iff, _⟩ := endWindows_discardAll_induction (P := Degraded s)
    (fun t w k => degraded_congr (by simp) fun _ => markSegment_state) (fun _ _ => degraded_enterWindow) (fun _ h => h)
    (s := s) ⟨false, by rw [degradedBy_false], by simp, fun _ h => h⟩
  exact ⟨d, fu, iff.trans (exists_congr fun w => by simp [endWindows_state])⟩

/-! ### The engine as the demotions reach it (R134, R135) -/

/-- The engine that set requests and demotions have met: it holds its segment, of a window in RESYNC, or has abandoned it. -/
def HeldOrAbandoned (w : WinId) (s t : State) : Prop :=
  (t.re = { s.re with current := t.re.current } ∧ t.da = s.da ∧ t.holdsSegment w = true ∧ (t.win w).state = .resync)
    ∨ (t.re = (abandon s).re ∧ t.da = (abandon s).da)

theorem abandon_held {current : Option Segment} (re : t.re = { s.re with current := current }) (da : t.da = s.da) :
    (abandon t).re = (abandon s).re ∧ (abandon t).da = (abandon s).da := by
  unfold abandon
  rw [re]
  cases s.re.read <;> simp [withdrawCp, da]

theorem enterWindow_re {new : WinState} {halt : Option HaltCause} (away : new ≠ .resync) (stays : ¬Abandons s w new) :
    (enterWindow w new halt s).re = s.re := by
  have entered (x : OutWindow) :
      (if new.behind = true then degradeFences (raiseEntry w (s.win w).state new (s.setWin w x))
        else raiseEntry w (s.win w).state new (s.setWin w x)).re = s.re := by
    split <;> simp
  unfold enterWindow tellEngine
  dsimp only
  rw [if_neg away, entered]
  split
  next leaves => exact absurd ⟨away, leaves⟩ stays
  next => exact entered _

theorem heldOrAbandoned_enterWindow {new : WinState} {halt : Option HaltCause} (away : new ≠ .resync)
    (h : HeldOrAbandoned w s t) : HeldOrAbandoned w s (enterWindow v new halt t) := by
  rcases enterWindow_engine (s := t) (w := v) (new := new) (halt := halt) with ⟨leaves, re, da⟩ | ⟨stays, da, re⟩
  · right
    rcases h with ⟨re', da', _⟩ | ⟨re', _⟩
    · rw [re, da]
      exact abandon_held re' da'
    · obtain ⟨g, held, _⟩ := holdsSegment_iff.1 leaves.2.2
      rw [re', abandon_current.1] at held
      cases held
  · have same : (enterWindow v new halt t).re = t.re := enterWindow_re away stays
    have holds : (enterWindow v new halt t).holdsSegment w = t.holdsSegment w := by simp only [State.holdsSegment, same]
    refine h.imp (fun ⟨re', da', held, resync⟩ => ⟨by rw [same]; exact re', da.trans da', holds.trans held, ?_⟩)
      fun ⟨re', da'⟩ => ⟨same.trans re', da.trans da'⟩
    rw [enterWindow_win]
    split
    next own =>
      subst own
      exact absurd ⟨away, resync, held⟩ stays
    next => exact resync

/-- A set request changes nothing of the engine but the redirtied flag of its segment (R133). -/
theorem markSegment_segment {k : Nat} : (markSegment v k t).re = t.re
    ∨ ∃ g g', t.re.current = some g ∧ g'.window = g.window ∧ (markSegment v k t).re = { t.re with current := some g' } := by
  rw [markSegment_re]
  split
  · unfold redirty
    repeat' split
    · exact .inl rfl
    · next g held _ => exact .inr ⟨g, { g with redirtied := true }, held, rfl, rfl⟩
    · exact .inl rfl
  · exact .inl rfl

theorem heldOrAbandoned_markSegment {k : Nat} (h : HeldOrAbandoned w s t) : HeldOrAbandoned w s (markSegment v k t) := by
  have da : (markSegment v k t).da = t.da := by simp
  unfold HeldOrAbandoned at h ⊢
  rw [da, markSegment_state]
  rcases markSegment_segment (t := t) (v := v) (k := k) with same | ⟨g, g', held, own, re⟩
  · simpa only [same, State.holdsSegment] using h
  · rcases h with ⟨re', da', holds, resync⟩ | ⟨re', _⟩
    · obtain ⟨g1, held1, own1⟩ := holdsSegment_iff.1 holds
      obtain rfl : g = g1 := Option.some.inj (held.symm.trans held1)
      refine .inl ⟨?_, da', holdsSegment_iff.2 ⟨g', by rw [re], own.trans own1⟩, resync⟩
      rw [re, re']
    · rw [re', abandon_current.1] at held
      cases held

/-- After the windows' part of a session end, the segment of a window that was in RESYNC is abandoned (R134, R137). -/
theorem abandoned_ended (held : s.holdsSegment w = true) (resync : (s.win w).state = .resync) :
    (endWindows (discardAll s)).re = (abandon s).re ∧ (endWindows (discardAll s)).da = (abandon s).da := by
  have ended := endWindows_discardAll_induction (P := HeldOrAbandoned w s) (fun _ _ _ => heldOrAbandoned_markSegment)
    (fun _ _ _ => heldOrAbandoned_enterWindow (by decide)) (fun _ h => h) (.inl ⟨rfl, rfl, held, resync⟩)
  refine ended.resolve_left fun ⟨_, _, _, still⟩ => ?_
  have low := endWindows_state (s := s) (w := w)
  rw [still] at low
  cases low

end Sys2Proof.Proofs.MirrorWindows
end

section
namespace Sys2Proof.Proofs.MirrorWindows

open Sys2Proof Sys2Proof.Machine

variable {s t u : State} {w v : WinId} {g : Segment} {list : List Fence}

/-! ### Fences that fail (R146, R147, R151) -/

/-- The fences of a list answered FAILED, one after the other. -/
def failRun (list : List Fence) (s : State) : State :=
  list.foldl (fun t f => deliver f.source (some f.ticket) false f.degraded t) s

theorem failAll_eq : failAll list s
    = if s.fu.handshake = .waiting then
        deliver .line none false ((failRun list s).setFu { (failRun list s).fu with fences := [] }).someBehind
          ((failRun list s).setFu { (failRun list s).fu with fences := [] })
      else (failRun list s).setFu { (failRun list s).fu with fences := [] } := rfl

/-- The lines after a run of failures: answered by a LINE fence's, and as they were without one (R151). -/
theorem failRun_lines : ((∃ f ∈ list, f.source = .line) → (failRun list s).fu.handshake = .answered
      ∧ (failRun list s).fu.ack = true ∧ (failRun list s).fu.clean = false)
    ∧ ((∀ f ∈ list, f.source ≠ .line) → (failRun list s).fu.handshake = s.fu.handshake
      ∧ (failRun list s).fu.ack = s.fu.ack ∧ (failRun list s).fu.clean = s.fu.clean) := by
  induction list generalizing s with
  | nil => simp [failRun]
  | cons f rest ih =>
    obtain ⟨later, kept⟩ := ih (s := deliver f.source (some f.ticket) false f.degraded s)
    have step : failRun (f :: rest) s = failRun rest (deliver f.source (some f.ticket) false f.degraded s) := rfl
    rw [step]
    by_cases more : ∃ f ∈ rest, f.source = .line
    · refine ⟨fun _ => later more, fun none => ?_⟩
      obtain ⟨f', mem, line⟩ := more
      exact absurd line (none f' (List.mem_cons_of_mem _ mem))
    · have last := kept fun f' mem line => more ⟨f', mem, line⟩
      obtain ⟨hand, ack, clean⟩ := last
      rw [hand, ack, clean]
      refine ⟨fun ⟨f', mem, line⟩ => ?_, fun none => ?_⟩
      · rcases List.mem_cons.1 mem with rfl | mem
        · simp [line, deliver]
        · exact absurd ⟨f', mem, line⟩ more
      · cases source : f.source with
        | line => exact absurd source (none f (List.mem_cons_self ..))
        | port tag => simp [deliver]

theorem flagsKept_failRun : FlagsKept s (failRun list s) := flagsKept_foldl (fun t _ => flagsKept_deliver t) _ _

theorem deliver_failed {source : FenceSource} {ticket : Option Seq} {degraded : Bool} (port : source ≠ .line) :
    (deliver source ticket false degraded s).al.detail.has .fenceFailed = true := by
  cases source with
  | line => exact absurd rfl port
  | port tag => exact raise_has_self .fenceFailed (s.setFu _)

theorem failRun_flag (port : ∃ f ∈ list, f.source ≠ .line) : (failRun list s).al.detail.has .fenceFailed = true := by
  induction list generalizing s with
  | nil => simp at port
  | cons f rest ih =>
    have step : failRun (f :: rest) s = failRun rest (deliver f.source (some f.ticket) false f.degraded s) := rfl
    rw [step]
    obtain ⟨f', mem, source⟩ := port
    rcases List.mem_cons.1 mem with rfl | mem
    · exact flagsKept_failRun _ (deliver_failed source)
    · exact ih ⟨f', mem, source⟩

/-- The fences of a list fail (R146); `s` is any state with the log and the lines of the one they fail in. -/
theorem fencesFailed_failAll (log : t.fu.log = s.fu.log) (hand : t.fu.handshake = s.fu.handshake)
    (ack : t.fu.ack = s.fu.ack) (clean : t.fu.clean = s.fu.clean) : FencesFailed list s (failAll list t) := by
  obtain ⟨answered, kept⟩ := failRun_lines (s := t) (list := list)
  have line (waits : s.fu.handshake = .waiting) : (failAll list t).fu.handshake = .answered
      ∧ (failAll list t).fu.ack = true ∧ (failAll list t).fu.clean = false := by
    rw [failAll_eq, if_pos (hand.trans waits)]
    exact ⟨rfl, rfl, rfl⟩
  have other (free : s.fu.handshake ≠ .waiting) : failAll list t
      = (failRun list t).setFu { (failRun list t).fu with fences := [] } := by
    rw [failAll_eq, if_neg (hand ▸ free)]
  refine ⟨⟨fun short => ?_, fun port => ?_, fun _ => ⟨fun f mem source => ?_, fun none free => ?_⟩⟩, failAll_fences, line⟩
  · rw [failAll_log (by rw [log]; exact short), log]
  · have flag : (failAll list t).al = (failRun list t).al := by
      rw [failAll_eq]
      split <;> rfl
    simp only [Bool.false_eq_true, if_false]
    rw [flag]
    exact failRun_flag port
  · rw [Bool.false_and]
    by_cases waits : s.fu.handshake = .waiting
    · exact line waits
    · rw [other waits]
      exact answered ⟨f, mem, source⟩
  · rw [other free, ← hand, ← ack, ← clean]
    exact kept none

theorem fencesFailed_later (fu : u.fu = t.fu) (flags : FlagsKept t u) (h : FencesFailed list s t) : FencesFailed list s u := by
  obtain ⟨⟨log, port, lines⟩, empty, waiting⟩ := h
  unfold FencesFailed FencesDelivered
  rw [fu]
  exact ⟨⟨log, fun h => flags _ (port h), lines⟩, empty, waiting⟩

/-- A session end fails every fence, with or without the degraded flag of the windows' demotion (R144, R146; log 6). -/
theorem fencesFailed_failFences {d : Bool} (fu : t.fu = { s.fu with fences := degradedBy d s.fu.fences }) :
    ∃ told d' : Bool, (d' = true ↔ told = true ∧ d = true)
      ∧ FencesFailed (degradedBy d' s.fu.fences) s (failFences s.fu.fences t) := by
  have failed (list : List Fence) (b : State) (same : b.fu = t.fu) : FencesFailed list s (failAll list b) :=
    fencesFailed_failAll (by rw [same, fu]) (by rw [same, fu]) (by rw [same, fu]) (by rw [same, fu])
  have fences : t.fu.fences = degradedBy d s.fu.fences := by rw [fu]
  unfold failFences
  split
  next none =>
    have empty : degradedBy d s.fu.fences = [] := by rwa [fences, List.isEmpty_iff] at none
    exact ⟨true, d, by simp, by rw [empty]; exact failed [] t rfl⟩
  next =>
    split
    · exact ⟨false, false, by simp, by rw [degradedBy_false]; exact failed _ _ rfl⟩
    · exact ⟨true, d, by simp, by rw [fences]; exact failed _ _ rfl⟩

end Sys2Proof.Proofs.MirrorWindows
end

section
/-! PROOF. The family 01_mirror_windows, part 11: what a session end leaves at the apply unit and upstream (O43). -/

namespace Sys2Proof.Proofs.MirrorWindows

open Sys2Proof Sys2Proof.Machine

variable {s t u : State} {w v : WinId} {g : Segment} {x : Txn} {e : ApplyEntry}

/-! ### The apply unit's request through what follows (R172, R173) -/

/-- The apply unit's write is presented or holds the port. -/
def ApplyAsked (x : Txn) (s : State) : Prop := s.da.ap = some x ∨ s.da.port = some ⟨.ap, x⟩

theorem applyAsked_grant (h : ApplyAsked x s) : ApplyAsked x (grant s) := by
  obtain same | ⟨client, y, free, _, asked, given⟩ := grant_cases (s := s)
  · rwa [same]
  · have ap : s.da.ap = some x := h.resolve_right (by simp [free])
    rw [given]
    cases client with
    | ap =>
      obtain rfl : y = x := Option.some.inj (asked.symm.trans ap)
      exact .inr rfl
    | fg | cp => exact .inl ap

theorem applyAsked_presentFg {y : Txn} (h : ApplyAsked x s) : ApplyAsked x (presentFg y s) :=
  applyAsked_grant (s := s.setDa { s.da with fg := some y }) h

theorem applyAsked_forward (h : ApplyAsked x s) : ApplyAsked x (forward s) := by
  unfold Machine.forward
  split
  · exact h
  · exact applyAsked_presentFg h

theorem applyAsked_slotCheck {c : Capture} (h : ApplyAsked x s) : ApplyAsked x (slotCheck c s) := by
  obtain ⟨y, _, waits | onward⟩ := slotCheck_cases c s
  · rw [waits]; exact h
  · rw [onward]; exact applyAsked_forward (s := s.setCu y) h

theorem applyAsked_startRead (h : ApplyAsked x s) : ApplyAsked x (startRead s) := by
  unfold startRead
  repeat' split
  · exact h
  · exact applyAsked_grant (s := State.setDa _ _) h
  · exact h

theorem applyAsked_settle (h : ApplyAsked x s) : ApplyAsked x (settle s) := by
  have rechecked : ApplyAsked x (recheckSlot s) := by
    unfold recheckSlot
    repeat' split
    · exact h
    · exact applyAsked_slotCheck h
    · exact h
  have selected : ApplyAsked x (selectSegment (recheckSlot s)) := by
    unfold ApplyAsked
    rwa [selectSegment_da]
  exact applyAsked_startRead selected

theorem applyAsked_acceptOffer (h : ApplyAsked x s) : ApplyAsked x (acceptOffer s) := by
  obtain ⟨y, same, cases⟩ := acceptOffer_cases (s := s)
  have kept : ApplyAsked x y := by
    unfold ApplyAsked
    rwa [same .da (by decide)]
  obtain stays | ⟨x, asked⟩ | ⟨c, checked⟩ := cases
  · rwa [stays]
  · rw [asked]; exact applyAsked_presentFg kept
  · rw [checked]; exact applyAsked_slotCheck kept

/-! ### The entries a session end lets the apply unit take (R107, R110, R116) -/

theorem applyCheck_none : s.applyCheck e = none ↔ s.fits e = true := by
  unfold State.applyCheck State.fits State.entry
  dsimp only
  repeat' split
  all_goals simp_all

theorem fits_congr (inb : t.inb = s.inb) : t.fits = s.fits := by
  funext e
  rw [State.fits, inb, State.fits]

theorem writeOf_congr (inb : t.inb = s.inb) : t.writeOf = s.writeOf := by
  funext e
  rw [State.writeOf, inb, State.writeOf]

/-- The unit as it takes entries outside UP: it rejects those that fail their check and writes the first that passes. -/
structure EntriesTaken (s t : State) : Prop where
  queue : t.au.queue = s.au.queue.dropWhile (fun e => !s.fits e)
  applied : t.au.appliedThrough
    = (s.au.queue.takeWhile (fun e => !s.fits e)).foldl (fun _ e => e.seq) s.au.appliedThrough
  state : t.au.state = if s.au.queue.dropWhile (fun e => !s.fits e) = [] then .idle else .writing
  asked : ∀ e more, s.au.queue.dropWhile (fun e => !s.fits e) = e :: more → ApplyAsked (s.writeOf e) t

theorem takeEntries_taken {n : Nat} (enough : s.au.queue.length ≤ n) (up : s.lc.state ≠ .up) (hello : s.lc.state ≠ .hello)
    (idle : s.au.state = .idle) : EntriesTaken s (takeEntries n s) := by
  induction n generalizing s with
  | zero =>
    have none : s.au.queue = [] := List.eq_nil_of_length_eq_zero (by omega)
    exact ⟨by simp [takeEntries, none], by simp [takeEntries, none], by simp [takeEntries, none, idle], by simp [none]⟩
  | succ n ih =>
    cases waiting : s.au.queue with
    | nil =>
      have same : takeEntries (n + 1) s = s := by simp [takeEntries, waiting]
      exact ⟨by simp [same, waiting], by simp [same, waiting], by simp [same, waiting, idle], by simp [waiting]⟩
    | cons e rest =>
      cases check : s.applyCheck e with
      | some reason =>
        have fails : s.fits e = false := by
          by_contra fit
          rw [applyCheck_none.2 (by simpa using fit)] at check
          cases check
        have next : takeEntries (n + 1) s = takeEntries n (finishEntry { e with reject := some reason } s) := by
          simp only [takeEntries, waiting, idle, check, if_true]
        obtain ⟨_, au⟩ := finishEntry_down (e := { e with reject := some reason }) up hello
        have inb : (finishEntry { e with reject := some reason } s).inb = s.inb := by simp
        obtain ⟨queue, applied, state, asked⟩ := ih (s := finishEntry { e with reject := some reason } s)
          (by rw [au]; simpa [waiting] using enough) (by simpa using up) (by simpa using hello) (by rw [au])
        rw [fits_congr inb, au] at queue applied state asked
        rw [writeOf_congr inb] at asked
        rw [next]
        simp only [waiting, List.tail_cons] at queue applied state asked
        constructor <;> simp only [waiting, List.dropWhile_cons, List.takeWhile_cons, fails, Bool.not_false, if_true,
          List.foldl_cons]
        exacts [queue, applied, state, asked]
      | none =>
        have fit : s.fits e = true := applyCheck_none.1 check
        have next : takeEntries (n + 1) s = presentAp (s.applyWrite e) (s.setAu { s.au with state := .writing }) := by
          simp only [takeEntries, waiting, idle, check, if_true]
        rw [next]
        constructor <;> simp only [waiting, List.dropWhile_cons, List.takeWhile_cons, fit, Bool.not_true, if_false,
          Bool.false_eq_true, List.foldl_nil, presentAp_au, State.setAu_au, reduceCtorEq]
        · rintro e' more ⟨⟩
          exact applyAsked_grant (.inl rfl)

/-- What an apply unit that takes entries outside UP keeps (R107, R109, R116). -/
theorem takeEntries_kept (n : Nat) (up : s.lc.state ≠ .up) (hello : s.lc.state ≠ .hello) :
    (takeEntries n s).au.epoch = s.au.epoch ∧ (takeEntries n s).au.advertised = s.au.advertised
      ∧ (takeEntries n s).au.writeIgnored = s.au.writeIgnored := by
  induction n generalizing s with
  | zero => exact ⟨rfl, rfl, rfl⟩
  | succ n ih =>
    unfold takeEntries
    repeat' split
    · exact ⟨rfl, rfl, rfl⟩
    · next e rest _ _ _ reason _ =>
      obtain ⟨_, au⟩ := finishEntry_down (e := { e with reject := some reason }) up hello
      have kept := ih (s := finishEntry { e with reject := some reason } s) (by simpa using up) (by simpa using hello)
      rwa [au] at kept
    · simp
    · exact ⟨rfl, rfl, rfl⟩

/-- What a session end leaves at the apply unit (R107, R116): `u` is the state in which it takes the event, `t` the one that
the rest of the event leaves. -/
theorem applyEnded (au : u.au = s.au) (inb : u.inb = s.inb) (up : u.lc.state ≠ .up) (hello : u.lc.state ≠ .hello)
    (same : t.au = (endApply u).au) (later : ∀ x, ApplyAsked x (endApply u) → ApplyAsked x t) : ApplyEnded s t := by
  obtain ⟨_, ⟨unblocked, applied, drained⟩, unreported, delay, epoch, _⟩ := endApply_down up hello
  have kept := endApply_kept (s := u)
  generalize entered : u.setAu
    { u.au with
      state := if u.au.state = .blocked then .idle else u.au.state
      unreported := 0, ackDelay := none, lastEpoch := u.au.epoch, lastApplied := u.au.appliedThrough
      drained := u.au.queue.isEmpty } = b
  have run : endApply u = takeEntries b.au.queue.length b := by rw [← entered]; rfl
  have lc : b.lc = u.lc := by rw [← entered]; rfl
  have inb' : b.inb = s.inb := by rw [← entered]; exact inb
  have queue : b.au.queue = s.au.queue := by rw [← entered, ← au]; rfl
  have through : b.au.appliedThrough = s.au.appliedThrough := by rw [← entered, ← au]; rfl
  obtain ⟨epoch', advertised, ignored⟩ := takeEntries_kept (s := b) b.au.queue.length (by rwa [lc]) (by rwa [lc])
  rw [← run, ← same] at epoch' advertised ignored
  rw [← same] at unblocked applied drained unreported delay epoch kept
  rw [au] at epoch kept
  refine ⟨unreported, delay, unblocked, epoch, applied, drained, ?_, ?_, ?_, fun stays => ?_, fun takes => ?_⟩
  · rw [epoch', ← entered, ← au]; rfl
  · rw [advertised, ← entered, ← au]; rfl
  · rw [ignored, ← entered, ← au]; rfl
  · rw [kept stays]
    exact ⟨rfl, rfl, rfl, fun free => if_neg free⟩
  · have idle : b.au.state = .idle := by
      rw [← entered]
      simp only [State.setAu_au, au]
      rcases takes with idle | blocked
      · simp [idle]
      · simp [blocked]
    obtain ⟨left, took, state, asked⟩ := takeEntries_taken (Nat.le_refl b.au.queue.length) (by rwa [lc]) (by rwa [lc]) idle
    rw [← run] at left took state asked
    rw [← same, queue, fits_congr inb'] at left took state
    rw [through] at took
    rw [queue, fits_congr inb', writeOf_congr inb'] at asked
    exact ⟨left, took, state, fun e more rest => later _ (asked e more rest)⟩

/-! ### The upstream port at a session end (R49, R154) -/

/-- What a session end leaves at the capture unit and the upstream port before the port takes its offer (R41, R49). -/
theorem announceEnd_upstream : (announceEnd u).mp = (endCapture u).mp ∧ (announceEnd u).cu = (endCapture u).cu := by
  unfold announceEnd endCapture
  simp only [endApply_mp, endApply_cu, failFences_cu, endScheduler, State.setTs_cu, endWindows_cu, discardAll_cu]
  split
  · simp [*]
  · split <;> simp

/-- On a free port out of reset an offer that stands is taken, behind the completions already recorded (R154). -/
theorem acceptOffer_takes (free : s.mp.txn = none) (released : s.pins.resetAsserted = false) :
    (acceptOffer s).mp.offer = none ∧ s.mp.completions <+: (acceptOffer s).mp.completions := by
  unfold acceptOffer
  split
  next none => exact ⟨none, ⟨[], List.append_nil _⟩⟩
  next y offer =>
    rw [if_neg (by simp [free, released])]
    unfold acceptTxn
    dsimp only
    repeat' split
    · simp
    · simp
    · simp
    · unfold completeMalformed
      split <;> simp

end Sys2Proof.Proofs.MirrorWindows
end

section
namespace Sys2Proof.Proofs.MirrorWindows

open Sys2Proof Sys2Proof.Machine

variable {s t u : State} {w v : WinId} {g : Segment} {cause : DownCause} {peer : Option DownCause}

/-! ### The announcement of a session end, block by block (R68) -/

theorem announceEnd_afterWindows : Only [.drawn, .cu, .mp, .da, .lanes, .ts, .au, .re, .fu, .al, .counters]
    (endWindows (discardAll s)) (announceEnd s) := by
  simp [announceEnd, endScheduler, Only.refl]

theorem flagsKept_endApply (s : State) : FlagsKept s (endApply s) := by
  unfold endApply takeHead
  exact (FlagsKept.setAu (.refl s) _).trans (flagsKept_takeEntries _ _)

theorem flagsKept_afterWindows : FlagsKept (endWindows (discardAll s)) (announceEnd s) := by
  have scheduler : FlagsKept (endWindows (discardAll s)) (endScheduler (endWindows (discardAll s))) :=
    FlagsKept.setTs (.refl _) _
  have fences := scheduler.trans (flagsKept_failFences (before := s.fu.fences) _)
  exact (fences.trans (flagsKept_endCapture _)).trans (flagsKept_endApply _)

theorem announceEnd_demoted : Demoted w s (announceEnd s) ∧ ((announceEnd s).win w).state.mirrored = false := by
  have win : (announceEnd s).win w = (endWindows (discardAll s)).win w := win_of_out (announceEnd_afterWindows .out (by decide))
  unfold Demoted
  rw [win]
  exact ⟨demoted_ended.imp_right fun ⟨was, entered, flag⟩ => ⟨was, entered, flagsKept_afterWindows _ flag⟩,
    endWindows_state⟩

theorem announceEnd_dm {p : Nat} (inside : p < 4096) : (announceEnd s).dm.getLsbD p = true ↔
    s.dm.getLsbD p = true ∨ ∃ r ∈ s.rq.records, s.out[r.window].state ≠ .off ∧ s.markOf r = p := by
  have dm : (announceEnd s).dm = (s.rq.records.foldl discardOne s).dm := by
    simp [announceEnd, endScheduler, discardAll_eq, discardRecords]
  rw [dm, discard_dm_iff inside]
  simp only [OutWindow.isEnabled, bne_iff_ne]
  rfl

theorem announceEnd_fences : ∃ told d : Bool,
    (d = true ↔ told = true ∧ ∃ w : WinId, (s.win w).state.mirrored = true)
      ∧ FencesFailed (degradedBy d s.fu.fences) s (announceEnd s) := by
  obtain ⟨d, fu, any⟩ := degraded_ended (s := s)
  have scheduled : (endScheduler (endWindows (discardAll s))).fu = (endWindows (discardAll s)).fu := by simp [endScheduler]
  have run : announceEnd s = endApply (endCapture (failFences s.fu.fences (endScheduler (endWindows (discardAll s))))) := rfl
  generalize endScheduler (endWindows (discardAll s)) = b at scheduled run
  obtain ⟨told, d', both, failed⟩ := fencesFailed_failFences (s := s) (t := b) (scheduled.trans fu)
  refine ⟨told, d', both.trans (and_congr_right' any), ?_⟩
  rw [run]
  exact fencesFailed_later (by simp) ((flagsKept_endCapture _).trans (flagsKept_endApply _)) failed

/-- Entries that the apply unit takes leave the engine's segment and an abandoned read as they are (R135, R172). -/
theorem takeEntries_engine (n : Nat) (h : ReadAbandoned s t) : ReadAbandoned s (takeEntries n t)
    ∧ (takeEntries n t).re.current = t.re.current ∧ (takeEntries n t).re.state = t.re.state := by
  induction n generalizing t with
  | zero => exact ⟨h, rfl, rfl⟩
  | succ n ih =>
    unfold takeEntries
    repeat' split
    · exact ⟨h, rfl, rfl⟩
    · next e rest _ _ _ reason _ =>
      have frame : Only [.au, .lanes, .al, .counters] t (finishEntry { e with reject := some reason } t) := by
        simp [Only.refl]
      have re := frame .re (by decide)
      have da := frame .da (by decide)
      have kept := ih (t := finishEntry { e with reject := some reason } t)
        (readAbandoned_congr h (by rw [re]) (by rw [re]) (by rw [re]) (by rw [re]) (by rw [da]) (by rw [da])
          (frame .out (by decide)) (frame .params (by decide)))
      rwa [re] at kept
    · next e rest _ _ _ _ =>
      refine ⟨readAbandoned_grant (t := (t.setAu { t.au with state := .writing }).setDa
        { t.da with ap := some (t.applyWrite e) }) (readAbandoned_congr h rfl rfl rfl rfl rfl rfl rfl rfl), ?_⟩
      unfold presentAp
      rcases grant_re (s := (t.setAu { t.au with state := .writing }).setDa
        { (t.setAu { t.au with state := .writing }).da with ap := some (t.applyWrite e) }) with same | same <;>
        rw [same] <;> exact ⟨rfl, rfl⟩
    · exact ⟨h, rfl, rfl⟩

theorem announceEnd_read (held : s.holdsSegment w = true) (resync : (s.win w).state = .resync) :
    ReadAbandoned s (announceEnd s) ∧ (announceEnd s).re.current = none ∧ (announceEnd s).re.state = .select := by
  obtain ⟨re, da⟩ := abandoned_ended held resync
  have before : Only [.drawn, .cu, .mp, .ts, .fu, .al] (endWindows (discardAll s))
      (endCapture (failFences s.fu.fences (endScheduler (endWindows (discardAll s))))) := by
    simp [endScheduler, Only.refl]
  generalize ended : endCapture (failFences s.fu.fences (endScheduler (endWindows (discardAll s)))) = b at before
  have run : announceEnd s = endApply b := by rw [← ended]; rfl
  have bre : b.re = (abandon s).re := (before .re (by decide)).trans re
  have bda : b.da = (abandon s).da := (before .da (by decide)).trans da
  have read : ReadAbandoned s b := readAbandoned_of_abandon bre bda
  rw [run, endApply, takeHead]
  generalize books : b.setAu _ = b'
  have re : b'.re = b.re := by rw [← books]; rfl
  have read' : ReadAbandoned s b' := by
    rw [← books]
    exact readAbandoned_congr read rfl rfl rfl rfl rfl rfl rfl rfl
  obtain ⟨kept, current, state⟩ := takeEntries_engine b'.au.queue.length read'
  rw [current, state, re, bre]
  exact ⟨kept, abandon_current.1, abandon_current.2⟩

end Sys2Proof.Proofs.MirrorWindows
end

section
/-! PROOF. The family 01_mirror_windows, part 12: the events that end a session (O43). -/

namespace Sys2Proof.Proofs.MirrorWindows

open Sys2Proof Sys2Proof.Machine

variable {s t u : State} {w v : WinId} {g : Segment} {cause : DownCause} {peer : Option DownCause}

/-! ### The blocks after a session end (R23, R39, R49, R116, R137, R146) -/

theorem settle_kept (other : (s.win w).state ≠ .resync) : (settle s).win w = s.win w := by
  have rechecked : (recheckSlot s).win w = s.win w := win_of_out (by simp)
  have read (t : State) : (startRead t).win w = t.win w := win_of_out (by simp)
  exact (read _).trans ((selectSegment_kept (by rwa [rechecked])).trans rechecked)

theorem mirrored_iff {x : WinState} : x.mirrored = true ↔ x = .active ∨ x = .resync := by cases x <;> simp [WinState.mirrored]

/-- A confirm wait ends with ERR at a session end (R49). -/
theorem announceEnd_confirms {c : Capture} (there : s.cu = some c) (waits : c.phase = .confirmWait) :
    (announceEnd s).cu = none
      ∧ (announceEnd s).mp = { s.mp with txn := none, completions := s.mp.completions ++ [⟨.err, none⟩] } := by
  obtain ⟨mp, cu⟩ := announceEnd_upstream (u := s)
  rw [mp, cu, endCapture_confirm there waits]
  exact ⟨rfl, rfl⟩

/-- What becomes of the engine after a session end that has made it give up its segment (R135, R137). -/
theorem announced_engine (held : s.holdsSegment w = true) (resync : (s.win w).state = .resync) :
    (acceptOffer (settle (announceEnd s))).re.current = none ∧ (acceptOffer (settle (announceEnd s))).re.state = .idle
      ∧ ReadAbandoned s (acceptOffer (settle (announceEnd s))) := by
  obtain ⟨read, none, select⟩ := announceEnd_read held resync
  have lower (v : WinId) := (announceEnd_demoted (s := s) (w := v)).2
  generalize announceEnd s = a at read none select lower
  obtain ⟨current, state⟩ := recheckSlot_segment (s := a)
  have quiet (v : WinId) : ((recheckSlot a).win v).state ≠ .resync := fun resync => by
    have low := lower v
    rw [← state_of_out recheckSlot_out, resync] at low
    cases low
  obtain ⟨rest, idle⟩ := advanceEngine_rests (state.trans select) (current.trans none) quiet
  obtain ⟨same, same'⟩ := acceptOffer_segment (s := settle a)
  exact ⟨same.trans rest, same'.trans idle, readAbandoned_acceptOffer (readAbandoned_settle read none)⟩

/-- A confirm wait ended by a session end, and the offer that stands then (R49, R154). -/
theorem announced_upstream {c : Capture} (there : s.cu = some c) (waits : c.phase = .confirmWait) :
    (s.mp.offer = none → (acceptOffer (settle (announceEnd s))).cu = none
        ∧ (acceptOffer (settle (announceEnd s))).mp.completions = s.mp.completions ++ [⟨.err, none⟩])
      ∧ (s.pins.resetAsserted = false → (acceptOffer (settle (announceEnd s))).mp.offer = none
        ∧ s.mp.completions ++ [⟨.err, none⟩] <+: (acceptOffer (settle (announceEnd s))).mp.completions) := by
  obtain ⟨cu, mp⟩ := announceEnd_confirms there waits
  have settled : (settle (announceEnd s)).mp = (announceEnd s).mp := settle_mp
  refine ⟨fun offer => ?_, fun released => ?_⟩
  · rw [acceptOffer_none (by rw [settled, mp]; exact offer), settled, mp]
    exact ⟨settle_cu_none cu, rfl⟩
  · have taken := acceptOffer_takes (s := settle (announceEnd s)) (by rw [settled, mp]) (by simpa using released)
    rwa [settled, mp] at taken

/-- `BlocksEnded`, with `s` the state in which the link has left UP already. -/
theorem announceEnd_blocksEnded (up : s.lc.state ≠ .up) (hello : s.lc.state ≠ .hello)
    (capture : CaptureEnded s (acceptOffer (settle (announceEnd s)))) :
    BlocksEnded s (acceptOffer (settle (announceEnd s))) := by
  obtain ⟨rq, _, _, _, ts⟩ := announceEnd_blocks (u := s)
  have same : Only [.drawn, .out, .cu, .mp, .da, .re, .al, .counters] (announceEnd s)
      (acceptOffer (settle (announceEnd s))) := by simp [Only.refl]
  have rc : (acceptOffer (settle (announceEnd s))).rc = s.rc := by simp
  have flags : FlagsKept (announceEnd s) (acceptOffer (settle (announceEnd s))) :=
    (flagsKept_settle _).trans (flagsKept_acceptOffer _)
  have win (w : WinId) : (acceptOffer (settle (announceEnd s))).win w = (announceEnd s).win w :=
    (win_of_out acceptOffer_out).trans (settle_kept fun resync => by
      have low := (announceEnd_demoted (s := s) (w := w)).2
      rw [resync] at low
      cases low)
  have queue := (same .rq (by decide)).trans rq
  have demoted (w : WinId) : Demoted w s (acceptOffer (settle (announceEnd s))) := by
    have before := (announceEnd_demoted (s := s) (w := w)).1
    unfold Demoted at before ⊢
    rw [win]
    exact before.imp_right fun ⟨was, entered, flag⟩ => ⟨was, entered, flags _ flag⟩
  have lower (w : WinId) : ((acceptOffer (settle (announceEnd s))).win w).state.mirrored = false := by
    rw [win]
    exact announceEnd_demoted.2
  refine ⟨by rw [queue], by rw [queue], by rw [queue], fun p inside => ?_, fun w was => ?_, fun w active resync => ?_,
    fun g held resync => announced_engine (holdsSegment_iff.2 ⟨g, held, rfl⟩) resync, ?_,
    (same .ts (by decide)).trans ts, rc, ?_, fun c there waits => (announced_upstream there waits).1,
    fun c there waits => (announced_upstream there waits).2, capture⟩
  · rw [same .dm (by decide)]
    exact announceEnd_dm inside
  · rcases demoted w with kept | ⟨_, entered, flag⟩
    · have low := lower w
      rw [kept] at low
      exact absurd (mirrored_iff.2 was) (Bool.eq_false_iff.1 low)
    · exact ⟨entered, flag⟩
  · rcases demoted w with kept | ⟨was, _⟩
    · exact kept
    · exact ((mirrored_iff.1 was).elim active resync).elim
  · obtain ⟨told, d, iff, failed⟩ := announceEnd_fences (s := s)
    exact ⟨told, d, iff.trans (and_congr_right' (exists_congr fun w => mirrored_iff)),
      fencesFailed_later (same .fu (by decide)) flags failed⟩
  · have memory : Only [.drawn, .out, .cu, .mp, .dm, .rq, .ts, .fu, .al, .da, .re] s
        (endCapture (failFences s.fu.fences (endScheduler (endWindows (discardAll s))))) := by
      simp [endScheduler, Only.refl]
    have run : announceEnd s = endApply (endCapture (failFences s.fu.fences (endScheduler (endWindows (discardAll s))))) := rfl
    have later (x : Txn) (asked : ApplyAsked x (announceEnd s)) : ApplyAsked x (acceptOffer (settle (announceEnd s))) :=
      applyAsked_acceptOffer (applyAsked_settle asked)
    have au : (acceptOffer (settle (announceEnd s))).au = (announceEnd s).au := same .au (by decide)
    generalize acceptOffer (settle (announceEnd s)) = t at later au
    rw [run] at later au
    have lc := memory .lc (by decide)
    exact applyEnded (memory .au (by decide)) (memory .inb (by decide)) (by rwa [lc]) (by rwa [lc]) au later

end Sys2Proof.Proofs.MirrorWindows
end

section
namespace Sys2Proof.Proofs.MirrorWindows

open Sys2Proof Sys2Proof.Machine

variable {s t u : State} {cause : DownCause} {peer : Option DownCause}

/-! ### The events that end a session (R67 to R69) -/

theorem leaveUp_eq : ∃ lc lanes al, leaveUp cause peer s = { s with lc := lc, lanes := lanes, al := al } := by
  unfold leaveUp
  dsimp only
  split
  · exact ⟨_, _, _, rfl⟩
  · exact ⟨_, _, _, rfl⟩

/-- Neither clause looks at the link, the lanes or the alerts of the earlier state. -/
theorem blocksEnded_source {lc : LinkController} {lanes : Lanes} {al : AlertUnit}
    (h : BlocksEnded { s with lc := lc, lanes := lanes, al := al } t) : BlocksEnded s t := h

/-- What the announcement of a session end leaves is said alike of the state before and after the link has left UP. -/
theorem blocksEnded_of_left {lc : LinkController} {lanes : Lanes} {al : AlertUnit}
    (left : u = { s with lc := lc, lanes := lanes, al := al }) (up : u.lc.state ≠ .up) (hello : u.lc.state ≠ .hello)
    (capture : CaptureEnded s (acceptOffer (settle (announceEnd u)))) :
    BlocksEnded s (acceptOffer (settle (announceEnd u))) := by
  have source (t : State) (h : CaptureEnded s t) : CaptureEnded u t := by
    rw [left]
    exact h
  have ended := announceEnd_blocksEnded up hello (source _ capture)
  generalize acceptOffer (settle (announceEnd u)) = t at ended
  rw [left] at ended
  exact blocksEnded_source ended

theorem sessionEnd_blocksEnded (up : s.lc.state = .up) : BlocksEnded s (sessionEnd cause peer s) := by
  have capture := sessionEnd_captureEnded (cause := cause) (peer := peer) up
  have down : (leaveUp cause peer s).lc.state ≠ .up ∧ (leaveUp cause peer s).lc.state ≠ .hello := by
    rw [leaveUp_lc]
    dsimp only
    split <;> simp
  obtain ⟨lc, lanes, al, left⟩ := leaveUp_eq (s := s) (cause := cause) (peer := peer)
  rw [sessionEnd_up up] at capture ⊢
  exact blocksEnded_of_left left down.1 down.2 capture

theorem sessionEnd_ended (up : s.lc.state = .up) (other : cause ≠ .command) :
    SessionEnded cause peer .down s (sessionEnd cause peer s) := by
  have link := sessionEnd_linkEnded (cause := cause) (peer := peer) up
  rw [if_neg other] at link
  exact ⟨link, sessionEnd_blocksEnded up, sessionEnd_only⟩

/-- Settles O43. -/
theorem sessionEndEvents : Obligations.SessionEndEvents := by
  intro s up
  have session : s.isUp = true := isUp_iff.2 up
  refine ⟨fun n running => ⟨_, ?_, sessionEnd_ended up (by decide)⟩, ⟨_, ?_, sessionEnd_ended up (by decide)⟩,
    fun epoch reason own => ⟨_, ?_, sessionEnd_ended up (by decide)⟩,
    fun typeCode epoch undefinedType => ⟨_, ?_, sessionEnd_ended up (by decide)⟩, fun holds => ?_⟩
  · simp [exec, execLivenessExpiry, running]
  · simp [exec, execLost, lanesLost, up]
  · simp only [exec, execGoodbyeReceived, session, own, if_true]
    rfl
  · have unknown : frameTypes.contains typeCode = false := by
      simpa only [Instr.wf, Bool.not_eq_true'] using undefinedType
    simp only [exec, execUndefinedFrame, unknown, Bool.false_eq_true, if_false]
  · have run : runRequest .linkDisable s = accept (sessionEnd .command none (s.setLc { s.lc with enabled := false })) := by
      change linkDisableRun s = _
      simp only [linkDisableRun, up]
    have up' : (s.setLc { s.lc with enabled := false }).lc.state = .up := up
    have link := sessionEnd_linkEnded (cause := .command) (peer := none) up'
    have blocks := sessionEnd_blocksEnded (cause := .command) (peer := none) up'
    exact ⟨_, exec_accepted holds run, rfl, link, blocks⟩

end Sys2Proof.Proofs.MirrorWindows
end

section
/-! PROOF. The family 01_mirror_windows, part 13: RESET_MIRROR (O29). -/

namespace Sys2Proof.Proofs.MirrorWindows

open Sys2Proof Sys2Proof.Machine

variable {s t u : State} {w v : WinId} {c : Capture} {x : Txn}

/-! ### Grants where no copy read is requested (R172, R174) -/

/-- With no copy read requested, the engine keeps its state, no apply write comes to wait, and one that waits behind an access
goes on waiting. -/
structure Uncopied (s t : State) : Prop where
  re : t.re = s.re
  cp : t.da.cp = none
  ap : s.da.ap = none → t.da.ap = none
  floor : s.da.copyFloor = 0 → t.da.copyFloor = 0
  busy : s.da.port ≠ none → t.da.port = s.da.port ∧ t.da.ap = s.da.ap

theorem Uncopied.refl (cp : s.da.cp = none) : Uncopied s s := ⟨rfl, cp, id, id, fun _ => ⟨rfl, rfl⟩⟩

theorem uncopied_of_same (re : t.re = s.re) (da : t.da = s.da) (cp : s.da.cp = none) : Uncopied s t :=
  ⟨re, da ▸ cp, fun ap => da ▸ ap, fun floor => da ▸ floor, fun _ => by rw [da]; exact ⟨rfl, rfl⟩⟩

theorem Uncopied.trans (h : Uncopied s t) (h' : Uncopied t u) : Uncopied s u where
  re := h'.re.trans h.re
  cp := h'.cp
  ap := h'.ap ∘ h.ap
  floor := h'.floor ∘ h.floor
  busy port := by
    obtain ⟨same, ap⟩ := h.busy port
    obtain ⟨same', ap'⟩ := h'.busy (same ▸ port)
    exact ⟨same'.trans same, ap'.trans ap⟩

theorem uncopied_grant (cp : s.da.cp = none) : Uncopied s (grant s) := by
  obtain same | ⟨client, y, free, _, asked, given⟩ := grant_cases (s := s)
  · rw [same]; exact .refl cp
  · have floor : s.da.floorRaised = 0 := by simp [Arbiter.floorRaised, cp]
    rw [given]
    cases client with
    | fg => exact ⟨rfl, cp, id, fun _ => floor, fun port => absurd free port⟩
    | ap => exact ⟨rfl, cp, fun _ => rfl, fun _ => floor, fun port => absurd free port⟩
    | cp => simp [Arbiter.request, cp] at asked

theorem uncopied_presentFg (cp : s.da.cp = none) : Uncopied s (presentFg x s) :=
  Uncopied.trans (t := s.setDa { s.da with fg := some x }) ⟨rfl, cp, id, id, fun _ => ⟨rfl, rfl⟩⟩ (uncopied_grant cp)

theorem uncopied_forward (cp : s.da.cp = none) : Uncopied s (forward s) := by
  unfold forward
  split
  · exact .refl cp
  · exact uncopied_presentFg cp

theorem uncopied_slotCheck (cp : s.da.cp = none) : Uncopied s (slotCheck c s) := by
  obtain ⟨y, _, waits | onward⟩ := slotCheck_cases c s
  · rw [waits]; exact uncopied_of_same rfl rfl cp
  · rw [onward]
    exact Uncopied.trans (t := s.setCu y) (uncopied_of_same rfl rfl cp) (uncopied_forward cp)

theorem uncopied_recheckSlot (cp : s.da.cp = none) : Uncopied s (recheckSlot s) := by
  unfold recheckSlot
  repeat' split
  · exact .refl cp
  · exact uncopied_slotCheck cp
  · exact .refl cp

theorem uncopied_acceptOffer (cp : s.da.cp = none) : Uncopied s (acceptOffer s) := by
  obtain ⟨y, same, cases⟩ := acceptOffer_cases (s := s)
  have kept : Uncopied s y := uncopied_of_same (same .re (by decide)) (same .da (by decide)) cp
  obtain stays | ⟨x, asked⟩ | ⟨c, checked⟩ := cases
  · rwa [stays]
  · rw [asked]; exact kept.trans (uncopied_presentFg kept.cp)
  · rw [checked]; exact kept.trans (uncopied_slotCheck kept.cp)

/-! ### An offer that is taken (R154) -/

theorem acceptOffer_enables : (acceptOffer s).al.enables = s.al.enables := by
  unfold acceptOffer
  repeat' split
  · rfl
  · rfl
  · unfold acceptTxn
    dsimp only
    repeat' split
    · rfl
    · simp
    · simp
    · simp

/-- What the acceptance of an offer keeps, where no copy read is requested. -/
structure OfferAccepted (s t : State) : Prop where
  frame : Only [.drawn, .cu, .mp, .da, .re, .al, .counters] s t
  uncopied : Uncopied s t
  read : ∀ b, ReadAbandoned b s → ReadAbandoned b t
  flags : FlagsKept s t
  enables : t.al.enables = s.al.enables
  same : s.mp.offer = none → t = s

theorem offerAccepted_acceptOffer (cp : s.da.cp = none) : OfferAccepted s (acceptOffer s) where
  frame := acceptOffer_only
  uncopied := uncopied_acceptOffer cp
  read _ := readAbandoned_acceptOffer
  flags := flagsKept_acceptOffer s
  enables := acceptOffer_enables
  same := acceptOffer_none

theorem OfferAccepted.trans (h : OfferAccepted s t) (h' : OfferAccepted t u) : OfferAccepted s u where
  frame := h.frame.trans h'.frame
  uncopied := h.uncopied.trans h'.uncopied
  read b := h'.read b ∘ h.read b
  flags := h.flags.trans h'.flags
  enables := h'.enables.trans h.enables
  same free := by
    have same := h.same free
    rw [h'.same (same ▸ free), same]

end Sys2Proof.Proofs.MirrorWindows
end

section
namespace Sys2Proof.Proofs.MirrorWindows

open Sys2Proof Sys2Proof.Machine

variable {s t u : State} {w v : WinId} {c : Capture} {x : Txn} {list : List Fence}

/-! ### Failing fences and the alert unit (R146, R147) -/

theorem deliver_has {source : FenceSource} {ticket : Option Seq} {degraded : Bool} {e : Cause} :
    (deliver source ticket false degraded s).al.detail.has e = true
      ↔ s.al.detail.has e = true ∨ (e = .fenceFailed ∧ source ≠ .line) := by
  cases source with
  | line => simp [deliver]
  | port tag => simp [deliver, raise_has, or_comm]

theorem failRun_has {e : Cause} : (failRun list s).al.detail.has e = true
    ↔ s.al.detail.has e = true ∨ (e = .fenceFailed ∧ ∃ f ∈ list, f.source ≠ .line) := by
  induction list generalizing s with
  | nil => simp [failRun]
  | cons f rest ih =>
    have step : failRun (f :: rest) s = failRun rest (deliver f.source (some f.ticket) false f.degraded s) := rfl
    rw [step, ih, deliver_has, List.exists_mem_cons_iff, or_assoc, ← and_or_left]

theorem failRun_enables : (failRun list s).al.enables = s.al.enables := by
  refine List.foldlRecOn list _ (motive := fun t : State => t.al.enables = s.al.enables) rfl fun (t : State) same f _ => ?_
  rw [← same]
  cases f.source <;> simp [deliver]

theorem failAll_al : (failAll list s).al = (failRun list s).al := by
  rw [failAll_eq]
  split <;> rfl

theorem failAll_answers : (failAll list s).fu.handshake ≠ .waiting := by
  rw [failAll_eq]
  split
  · simp [deliver]
  next free =>
    obtain ⟨answered, kept⟩ := failRun_lines (s := s) (list := list)
    change (failRun list s).fu.handshake ≠ .waiting
    by_cases line : ∃ f ∈ list, f.source = .line
    · rw [(answered line).1]; decide
    · rw [(kept fun f mem is => line ⟨f, mem, is⟩).1]; exact free

/-- Without a fence and without a waiting line request nothing fails (R146). -/
theorem failFences_rest {before : List Fence} (none : s.fu.fences = []) (free : s.fu.handshake ≠ .waiting) :
    failFences before s = s := by
  have same : s.setFu { s.fu with fences := [] } = s := by
    rw [← none]
    rfl
  rw [failFences, none, List.isEmpty_nil, if_pos rfl, failAll_eq, if_neg free]
  exact same

/-! ### RESET_MIRROR up to the capture context (R3, R120, R138, R160, R207) -/

/-- The state that RESET_MIRROR leaves once windows, queue, engine and capture context have taken it. -/
def cleared (s : State) : State := endCapture (discardRecords (resetEngine (clearWindows (releaseAny s))))

theorem resetBlocks_eq : resetBlocks s
    = failAll (resetApply (recheckSlot (cleared s))).fu.fences
        ((resetApply (recheckSlot (cleared s))).setDa { (resetApply (recheckSlot (cleared s))).da with copyFloor := 0 }) := rfl

theorem cleared_only : Only [.dm, .out, .rq, .cu, .mp, .da, .re] s (cleared s) := by simp [cleared, clearWindows, Only.refl]

theorem cleared_win : (cleared s).win v = { s.win v with state := .off, haltCause := none, cursor := 0, dirtyCount := 0 } := by
  have released : Only [.mp] s (releaseAny s) := by simp [Only.refl]
  have frame : Only [.rq, .cu, .mp, .da, .re] (clearWindows (releaseAny s)) (cleared s) := by simp [cleared, Only.refl]
  rw [win_of_out (frame .out (by decide)), clearWindows_win, win_of_out (released .out (by decide))]

theorem cleared_dm : (cleared s).dm = 0 := by
  have frame : Only [.rq, .cu, .mp, .da, .re] (clearWindows (releaseAny s)) (cleared s) := by simp [cleared, Only.refl]
  rw [frame .dm (by decide)]
  rfl

theorem cleared_rq : (cleared s).rq = { s.rq with records := [], mergeTimer := none } := by
  have frame : Only [.mp, .dm, .out, .da, .re] s (resetEngine (clearWindows (releaseAny s))) := by
    simp [clearWindows, Only.refl]
  have last : Only [.cu, .mp] (discardRecords (resetEngine (clearWindows (releaseAny s)))) (cleared s) := by
    simp [cleared, Only.refl]
  rw [last .rq (by decide), discardRecords_rq, frame .rq (by decide)]

/-- The engine and the arbiter take RESET_MIRROR with the segment they hold (R135, R138). -/
theorem cleared_engine : (cleared s).re
      = { (if s.re.current.isSome = true then abandon s else s).re with state := .idle, lastServed := 7 }
    ∧ (cleared s).da = (if s.re.current.isSome = true then abandon s else s).da := by
  have before : Only [.mp, .dm, .out] s (clearWindows (releaseAny s)) := by simp [clearWindows, Only.refl]
  have after : Only [.cu, .mp, .rq] (resetEngine (clearWindows (releaseAny s))) (cleared s) := by simp [cleared, Only.refl]
  have re := before .re (by decide)
  have da := before .da (by decide)
  rw [after .re (by decide), after .da (by decide)]
  generalize clearWindows (releaseAny s) = p at re da
  unfold resetEngine
  dsimp only
  rw [re]
  obtain ⟨re', da'⟩ := abandon_congr re da
  split
  · exact ⟨by rw [State.setRe_re, re'], da'⟩
  · exact ⟨by rw [State.setRe_re, re], da⟩

end Sys2Proof.Proofs.MirrorWindows
end

section
namespace Sys2Proof.Proofs.MirrorWindows

open Sys2Proof Sys2Proof.Machine

variable {s t u : State} {w v : WinId} {c : Capture} {x : Txn}

/-! ### The engine and the capture context after RESET_MIRROR (R49, R135, R138, R160) -/

theorem cleared_rests : (cleared s).re.current = none ∧ (cleared s).re.state = .idle ∧ (cleared s).re.lastServed = 7 := by
  rw [cleared_engine.1]
  refine ⟨?_, rfl, rfl⟩
  split
  · exact abandon_current.1
  next free => simpa using free

/-- No copy read is requested any more (R135). -/
theorem cleared_cp (fits : EngineFits s) : (cleared s).da.cp = none := by
  obtain ⟨_, requested, _, asked, _⟩ := fits
  have unasked (free : s.re.read ≠ .requested) : s.da.cp = none := by
    rw [← Option.not_isSome_iff_eq_none]
    exact fun some => free (asked.1 some)
  rw [cleared_engine.2]
  split
  · unfold abandon
    split
    next read => exact unasked (by rw [read]; decide)
    next => rfl
    next read => exact unasked (by rw [read]; decide)
  next free => exact unasked fun read => free (requested read)

theorem cleared_da : (cleared s).da.ap = s.da.ap ∧ (cleared s).da.port = s.da.port := by
  rw [cleared_engine.2]
  split
  · rcases abandon_da (s := s) with same | same <;> rw [same] <;> exact ⟨rfl, rfl⟩
  · exact ⟨rfl, rfl⟩

theorem cleared_read (held : s.re.current.isSome = true) : ReadAbandoned s (cleared s) := by
  obtain ⟨re, da⟩ := cleared_engine (s := s)
  rw [if_pos held] at re da
  obtain ⟨granted, requested⟩ := abandon_read (s := s)
  refine ⟨?_, fun was => ⟨?_, .inl ?_⟩⟩
  · rw [re, da]
    exact granted
  · rw [re]
    exact (requested was).1
  · rw [re, da]
    obtain gone | ⟨_, g, current, _⟩ := (requested was).2
    · exact gone
    · rw [abandon_current.1] at current
      cases current

theorem releaseAny_cu : (releaseAny s).cu = s.cu := (show Only [.mp] s (releaseAny s) by simp [Only.refl]) .cu (by decide)

theorem cleared_upstream : (cleared s).cu = (endCapture (releaseAny s)).cu
    ∧ (cleared s).mp = (endCapture (releaseAny s)).mp := by
  have frame : Only [.dm, .out, .da, .re, .rq] (releaseAny s) (discardRecords (resetEngine (clearWindows (releaseAny s)))) := by
    simp [clearWindows, Only.refl]
  have cu := frame .cu (by decide)
  have mp := frame .mp (by decide)
  unfold cleared
  generalize discardRecords (resetEngine (clearWindows (releaseAny s))) = p at cu mp
  unfold endCapture
  rw [cu]
  repeat' split
  · exact ⟨cu, mp⟩
  · exact ⟨rfl, by rw [completeUpstream_mp, completeUpstream_mp, mp]⟩
  · exact ⟨rfl, mp⟩
  · exact ⟨rfl, mp⟩

/-- With every window OFF a capture that waits for a slot goes on as a pass-through, and another stays as it is (R42, R43). -/
theorem recheckSlot_off (off : ∀ w, (s.win w).state = .off) :
    (recheckSlot s).cu = if s.cu.any (fun c => decide (c.phase = .slotWait)) then none else s.cu := by
  unfold recheckSlot
  split
  next none => rw [none]; rfl
  next c there =>
    rw [there]
    simp only [Option.any_some, decide_eq_true_eq]
    split
    · have check : s.captureState c = .off := by
        unfold State.captureState
        rw [off, ite_self]
      unfold slotCheck
      rw [check]
      simp
    · exact there

/-- The capture context that RESET_MIRROR leaves (R42, R49). -/
theorem recheckSlot_cleared_cu : (recheckSlot (cleared s)).cu
    = match s.cu with
      | none => none
      | some c =>
        match c.phase with
        | .localWrite => some { c with sessionEnded := true }
        | .slotWait => none
        | .confirmWait => none := by
  rw [recheckSlot_off fun w => by rw [cleared_win], cleared_upstream.1]
  unfold endCapture
  rw [releaseAny_cu]
  cases there : s.cu with
  | none => simp [releaseAny_cu, there]
  | some c => cases phase : c.phase <;> simp [phase]

theorem recheckSlot_cleared_mp : (recheckSlot (cleared s)).mp = (endCapture (releaseAny s)).mp :=
  (recheckSlot_mp ..).trans cleared_upstream.2

/-! ### RESET_MIRROR at the apply unit (R59, R71, R118) -/

theorem resetApply_only : Only [.da, .lanes, .au] s (resetApply s) := by simp [Only.refl]

theorem applyQueueEmptied_only : Only [.lanes] s (applyQueueEmptied s) := by simp [Only.refl]

theorem resetApply_au : (resetApply s).au
    = { s.au with
        queue := [], state := .idle, unreported := 0, ackDelay := none, promotion := false, drained := true
        writeIgnored := s.au.writeIgnored || (decide (s.au.state = .writing) && s.da.ap.isNone) } := by
  unfold resetApply
  dsimp only
  split
  · rfl
  · rw [applyQueueEmptied_only .au (by decide)]
    rfl

theorem resetApply_da : (resetApply s).da = { s.da with ap := none } := by
  unfold resetApply
  dsimp only
  split
  · rfl
  · rw [applyQueueEmptied_only .da (by decide)]
    rfl

theorem applyQueueEmptied_lanes : (applyQueueEmptied s).lanes
    = { s.lanes with
        owed := if s.lc.state = .hello ∧ .hello ∉ s.lanes.owed then .hello :: s.lanes.owed else s.lanes.owed } := by
  unfold applyQueueEmptied
  by_cases owes : s.lc.state = .hello ∧ .hello ∉ s.lanes.owed
  · rw [if_pos owes, if_pos (by simpa using owes)]
    rfl
  · rw [if_neg owes, if_neg (by simpa using owes)]

/-- The owed ACKs leave, and a queue that is emptied in HELLO makes the withheld HELLO owed (R59, R71, R118; log 10). -/
theorem resetApply_lanes : (resetApply s).lanes
    = { s.lanes with
        owed :=
          if s.au.queue ≠ [] ∧ s.lc.state = .hello ∧ .hello ∉ s.lanes.owed then
            .hello :: s.lanes.owed.filter (fun o => !o.isAck)
          else s.lanes.owed.filter (fun o => !o.isAck) } := by
  unfold resetApply
  dsimp only
  split
  next empty =>
    have none : s.au.queue = [] := List.isEmpty_iff.1 empty
    rw [if_neg (by simp [none])]
    rfl
  next waits =>
    have some : s.au.queue ≠ [] := fun none => waits (by rw [none]; rfl)
    rw [applyQueueEmptied_lanes]
    simp [some, Owed.isAck, withdrawAp]

end Sys2Proof.Proofs.MirrorWindows
end

section
namespace Sys2Proof.Proofs.MirrorWindows

open Sys2Proof Sys2Proof.Machine

variable {s t u r : State} {w v : WinId} {c : Capture} {cause : DownCause} {peer : Option DownCause}

/-! ### The blocks after RESET_MIRROR (R207) -/

/-- What RESET_MIRROR leaves before the link and the upstream port take it. -/
structure ResetLeft (s r : State) : Prop where
  frame : Only [.out, .rq, .cu, .mp, .da, .lanes, .au, .dm, .re, .fu, .al] s r
  win : ∀ w, r.win w = { s.win w with state := .off, haltCause := none, cursor := 0, dirtyCount := 0 }
  dm : r.dm = 0
  rq : r.rq = { s.rq with records := [], mergeTimer := none }
  rests : r.re.current = none ∧ r.re.state = .idle ∧ r.re.lastServed = 7
  unread : s.re.current = none → r.re = { s.re with state := .idle, lastServed := 7 }
  read : s.re.current.isSome = true → ReadAbandoned s r
  arbiter : r.da.ap = none ∧ r.da.cp = none ∧ r.da.copyFloor = 0
  au : r.au =
    { s.au with
      queue := [], state := .idle, unreported := 0, ackDelay := none, promotion := false, drained := true
      writeIgnored := r.au.writeIgnored }
  ignores : s.au.state = .writing → s.da.ap = none → r.au.writeIgnored = true
  heeds : s.au.state ≠ .writing ∨ (s.da.ap ≠ none ∧ s.da.port ≠ none) → r.au.writeIgnored = s.au.writeIgnored
  lanes : r.lanes =
    { s.lanes with
      owed :=
        if s.au.queue ≠ [] ∧ s.lc.state = .hello ∧ .hello ∉ s.lanes.owed then
          .hello :: s.lanes.owed.filter (fun o => !o.isAck)
        else s.lanes.owed.filter (fun o => !o.isAck) }
  fences : FencesFailed s.fu.fences s r
  answers : r.fu.handshake ≠ .waiting
  flags : ∀ e, r.al.detail.has e = true
    ↔ s.al.detail.has e = true ∨ (e = .fenceFailed ∧ ∃ f ∈ s.fu.fences, f.source ≠ .line)
  enables : r.al.enables = s.al.enables
  cu : r.cu = match s.cu with
    | none => none
    | some c =>
      match c.phase with
      | .localWrite => some { c with sessionEnded := true }
      | .slotWait => none
      | .confirmWait => none
  mp : r.mp = (endCapture (releaseAny s)).mp

theorem resetLeft_resetBlocks (fits : EngineFits s) : ResetLeft s (resetBlocks s) := by
  have rechecked : Only [.cu, .da, .re] (cleared s) (recheckSlot (cleared s)) := by simp [Only.refl]
  have before : Only [.dm, .out, .rq, .cu, .mp, .da, .re] s (recheckSlot (cleared s)) :=
    cleared_only.trans (rechecked.mono (by decide))
  have uncopied := uncopied_recheckSlot (cleared_cp fits)
  have cu := recheckSlot_cleared_cu (s := s)
  have mp := recheckSlot_cleared_mp (s := s)
  have win (w : WinId) := (win_of_out (w := w) (rechecked .out (by decide))).trans cleared_win
  have dm := (rechecked .dm (by decide)).trans cleared_dm
  have rq := (rechecked .rq (by decide)).trans cleared_rq
  have read (held : s.re.current.isSome = true) := readAbandoned_recheckSlot (cleared_read held)
  rw [resetBlocks_eq]
  generalize recheckSlot (cleared s) = p at before uncopied cu mp win dm rq read
  have applied : Only [.da, .lanes, .au] p (resetApply p) := resetApply_only
  have au := resetApply_au (s := p)
  have da := resetApply_da (s := p)
  have lanes := resetApply_lanes (s := p)
  generalize resetApply p = q at applied au da lanes
  have failed : Only [.da, .fu, .al] q (failAll q.fu.fences (q.setDa { q.da with copyFloor := 0 })) := by simp [Only.refl]
  have fu : q.fu = s.fu := (applied .fu (by decide)).trans (before .fu (by decide))
  have al : q.al = s.al := (applied .al (by decide)).trans (before .al (by decide))
  have fences : FencesFailed s.fu.fences s (failAll q.fu.fences (q.setDa { q.da with copyFloor := 0 })) := by
    rw [fu]
    exact fencesFailed_failAll (by simp [fu]) (by simp [fu]) (by simp [fu]) (by simp [fu])
  have answers : (failAll q.fu.fences (q.setDa { q.da with copyFloor := 0 })).fu.handshake ≠ .waiting := failAll_answers
  have flags (e : Cause) : (failAll q.fu.fences (q.setDa { q.da with copyFloor := 0 })).al.detail.has e = true
      ↔ s.al.detail.has e = true ∨ (e = .fenceFailed ∧ ∃ f ∈ s.fu.fences, f.source ≠ .line) := by
    rw [failAll_al, failRun_has, fu, State.setDa_al, al]
  have enables : (failAll q.fu.fences (q.setDa { q.da with copyFloor := 0 })).al.enables = s.al.enables := by
    rw [failAll_al, failRun_enables, State.setDa_al, al]
  have arbiter : (failAll q.fu.fences (q.setDa { q.da with copyFloor := 0 })).da = { q.da with copyFloor := 0 } := by simp
  generalize failAll q.fu.fences (q.setDa { q.da with copyFloor := 0 }) = r at failed fences answers flags enables arbiter
  have later : Only [.da, .lanes, .au, .fu, .al] p r := (applied.mono (by decide)).trans (failed.mono (by decide))
  have re : r.re = (cleared s).re := (later .re (by decide)).trans uncopied.re
  have au' : r.au = q.au := failed .au (by decide)
  have pau : p.au = s.au := before .au (by decide)
  rw [pau] at au
  obtain ⟨ap, port⟩ := cleared_da (s := s)
  refine
    { frame := (before.mono (by decide)).trans (later.mono (by decide))
      win := fun w => (win_of_out (later .out (by decide))).trans (win w)
      dm := (later .dm (by decide)).trans dm
      rq := (later .rq (by decide)).trans rq
      rests := re ▸ cleared_rests
      unread := fun free => ?_
      read := fun held => ?_
      arbiter := ?_
      au := by rw [au', au]
      ignores := fun writing unasked => ?_
      heeds := fun stays => ?_
      lanes := ?_
      fences := fences, answers := answers, flags := flags, enables := enables
      cu := (later .cu (by decide)).trans cu
      mp := (later .mp (by decide)).trans mp }
  · rw [re, cleared_engine.1, if_neg (by simp [free])]
  · have da' : r.da.port = p.da.port ∧ r.da.cp = p.da.cp := by rw [arbiter, da]; exact ⟨rfl, rfl⟩
    have same : r.re = p.re := later .re (by decide)
    exact readAbandoned_congr (read held) (by rw [same]) (by rw [same]) (by rw [same]) (by rw [same]) da'.1 da'.2
      (later .out (by decide)) (later .params (by decide))
  · rw [arbiter, da]
    exact ⟨rfl, uncopied.cp, rfl⟩
  · rw [au', au]
    simp [writing, uncopied.ap (ap.trans unasked)]
  · rw [au', au]
    rcases stays with calm | ⟨waits, busy⟩
    · simp [calm]
    · have kept := (uncopied.busy (by rwa [port])).2.trans ap
      simp [kept, waits]
  · rw [failed .lanes (by decide), lanes, pau, before .lanes (by decide), before .lc (by decide)]

end Sys2Proof.Proofs.MirrorWindows
end

section
namespace Sys2Proof.Proofs.MirrorWindows

open Sys2Proof Sys2Proof.Machine

variable {s t u r : State} {w v : WinId} {c : Capture} {cause : DownCause} {peer : Option DownCause}

/-! ### A session end where nothing is left to end (R71, R207) -/

/-- A state whose blocks hold nothing that a session end ends. -/
structure Rested (s : State) : Prop where
  rq : s.rq.records = [] ∧ s.rq.mergeTimer = none
  low : ∀ w, (s.win w).state = .off
  re : s.re.current = none ∧ s.re.state = .idle
  fences : s.fu.fences = [] ∧ s.fu.handshake ≠ .waiting
  cu : ∀ c, s.cu = some c → c.phase = .localWrite ∧ c.sessionEnded = true
  au : s.au.queue = [] ∧ s.au.state = .idle

theorem endWindows_low (low : ∀ w, (s.win w).state = .off) : endWindows s = s := by
  refine List.foldlRecOn _ _ (motive := fun t : State => t = s) rfl fun t same w _ => ?_
  subst same
  unfold endWindow
  rw [if_neg]
  rw [low]
  decide

theorem discardAll_empty (records : s.rq.records = []) (timer : s.rq.mergeTimer = none) : discardAll s = s := by
  have same : s.setRq { s.rq with records := [], mergeTimer := none } = s := by
    rw [← records, ← timer]
    rfl
  rw [discardAll_eq, records]
  exact same

theorem endCapture_ended (ended : ∀ c, s.cu = some c → c.phase = .localWrite ∧ c.sessionEnded = true) : endCapture s = s := by
  unfold endCapture
  split
  next => rfl
  next c there =>
    obtain ⟨phase, flag⟩ := ended c there
    have same : s.setCu (some { c with sessionEnded := true }) = s := by
      rw [← flag, ← there]
      rfl
    split
    next confirm => rw [phase] at confirm; cases confirm
    next => exact same
    next => exact same

theorem takeHead_empty (none : s.au.queue = []) : takeHead s = s := by
  rw [takeHead, none]
  rfl

theorem settle_rested (h : Rested s) : settle s = s := by
  have waits : recheckSlot s = s := by
    unfold recheckSlot
    split
    next => rfl
    next c there => rw [if_neg (by rw [(h.cu c there).1]; decide)]
  unfold settle advanceEngine startRead
  rw [waits, selectSegment_idle (by rw [h.re.2]; decide), h.re.1]

/-- What a session end does to a state at rest: the ack timer and the round count clear, and the apply unit closes its books
(R76, R116). -/
theorem announceEnd_rested (h : Rested s) : settle (announceEnd s)
    = (endScheduler s).setAu
      { s.au with
        unreported := 0, ackDelay := none, lastEpoch := s.au.epoch, lastApplied := s.au.appliedThrough, drained := true } := by
  have run : announceEnd s = endApply (endScheduler s) := by
    unfold announceEnd
    rw [discardAll_empty h.rq.1 h.rq.2, endWindows_low h.low, failFences_rest (s := endScheduler s) h.fences.1 h.fences.2,
      endCapture_ended (s := endScheduler s) h.cu]
  have books : endApply (endScheduler s) = (endScheduler s).setAu
      { s.au with
        unreported := 0, ackDelay := none, lastEpoch := s.au.epoch, lastApplied := s.au.appliedThrough, drained := true } := by
    have free : (if s.au.state = .blocked then ApplyState.idle else s.au.state) = s.au.state := by simp [h.au.2]
    have empty : s.au.queue.isEmpty = true := by rw [h.au.1]; rfl
    unfold endApply
    refine (takeHead_empty (by exact h.au.1)).trans ?_
    rw [show (endScheduler s).au = s.au from rfl, free, empty]
  rw [run, books]
  exact settle_rested ⟨h.rq, h.low, h.re, h.fences, h.cu, h.au⟩

end Sys2Proof.Proofs.MirrorWindows
end

section
namespace Sys2Proof.Proofs.MirrorWindows

open Sys2Proof Sys2Proof.Machine

variable {s t u r x : State} {w v : WinId} {c : Capture} {cause : DownCause} {peer : Option DownCause}

/-! ### The session end that a RESET_MIRROR brings in UP (R71, R207) -/

theorem Rested.congr (frame : Only [.lc, .lanes, .al] s t) (h : Rested s) : Rested t := by
  have rq := frame .rq (by decide)
  have re := frame .re (by decide)
  have fu := frame .fu (by decide)
  have au := frame .au (by decide)
  exact ⟨rq ▸ h.rq, fun w => (state_of_out (frame .out (by decide)) w).trans (h.low w), re ▸ h.re, fu ▸ h.fences,
    (frame .cu (by decide)) ▸ h.cu, au ▸ h.au⟩

theorem ResetLeft.rested (h : ResetLeft s r) : Rested r where
  rq := by rw [h.rq]; exact ⟨rfl, rfl⟩
  low w := by rw [h.win]
  re := ⟨h.rests.1, h.rests.2.1⟩
  fences := ⟨h.fences.2.1, h.answers⟩
  cu c there := by
    rw [h.cu] at there
    repeat' split at there
    · cases there
    next phase =>
      obtain rfl := Option.some.inj there
      exact ⟨phase, rfl⟩
    · cases there
    · cases there
  au := by rw [h.au]; exact ⟨rfl, rfl⟩

/-- What the link makes of a state at rest, before the upstream port takes its offer: nothing outside UP, and a session end in
UP. `s` is the state in which RESET_MIRROR came. -/
structure ResetEnded (s r x : State) : Prop where
  frame : Only [.lc, .lanes, .ts, .au, .al] r x
  au : x.au = { r.au with lastEpoch := x.au.lastEpoch, lastApplied := x.au.lastApplied }
  lane : x.lanes.frame = s.lanes.frame
  flags : ∀ e, x.al.detail.has e = true ↔ r.al.detail.has e = true ∨ (e = .linkDown ∧ s.lc.state = .up)
  enables : x.al.enables = r.al.enables
  down : s.lc.state ≠ .up → x = r
  up : s.lc.state = .up → LinkEnded .resetMirror none .down s x ∧ x.ts = { s.ts with rounds := 0, ackTimer := none }
    ∧ x.au.lastEpoch = s.au.epoch ∧ x.au.lastApplied = s.au.appliedThrough

theorem leaveUp_reset_al : (leaveUp .resetMirror none s).al = (raise .linkDown s).al := rfl

theorem resetEnded_down (h : ResetLeft s r) (down : s.lc.state ≠ .up) : ResetEnded s r r where
  frame := Only.refl _ r
  au := rfl
  lane := by rw [h.lanes]
  flags e := by simp [down]
  enables := rfl
  down _ := rfl
  up up := absurd up down

theorem resetEnded_up (h : ResetLeft s r) (up : s.lc.state = .up) :
    ResetEnded s r (settle (announceEnd (leaveUp .resetMirror none r))) := by
  have left : Only [.lc, .lanes, .al] r (leaveUp .resetMirror none r) := leaveUp_only
  have au : (leaveUp .resetMirror none r).au = r.au := left .au (by decide)
  have lc : r.lc = s.lc := h.frame .lc (by decide)
  have ts : r.ts = s.ts := h.frame .ts (by decide)
  rw [announceEnd_rested (h.rested.congr left), au]
  refine ⟨?_, ?_, ?_, fun e => ?_, ?_, fun down => absurd up down, fun _ => ⟨⟨?_, ?_, ?_, by simp⟩, ?_, ?_, ?_⟩⟩
  · exact (left.mono (by decide)).trans (by simp [endScheduler, Only.refl])
  · rw [State.setAu_au, h.au]
  · change (leaveUp .resetMirror none r).lanes.frame = _
    rw [leaveUp_lanes, h.lanes]
  · change (leaveUp .resetMirror none r).al.detail.has e = true ↔ _
    rw [leaveUp_reset_al, raise_has]
    simp [up, or_comm]
  · change (leaveUp .resetMirror none r).al.enables = _
    rw [leaveUp_reset_al, raise_enables]
  · change (leaveUp .resetMirror none r).lc = _
    rw [leaveUp_lc, lc]
    rfl
  · change (leaveUp .resetMirror none r).lanes = _
    rw [leaveUp_lanes, h.lanes, lc]
    rfl
  · rw [← has_linkDown]
    change (leaveUp .resetMirror none r).al.detail.has .linkDown = true
    rw [leaveUp_reset_al, raise_has_self]
  · rw [← ts]
    rfl
  · change r.au.epoch = _
    rw [h.au]
  · change r.au.appliedThrough = _
    rw [h.au]

/-- RESET_MIRROR: the blocks, then the link, then the upstream port (R207, R71, R154). -/
theorem resetMirror_stages (fits : EngineFits s) : ∃ r x, ResetLeft s r ∧ ResetEnded s r x
    ∧ OfferAccepted x (acceptOffer (sessionEnd .resetMirror none (resetBlocks s))) := by
  have left := resetLeft_resetBlocks fits
  have lc : (resetBlocks s).lc = s.lc := left.frame .lc (by decide)
  generalize resetBlocks s = r at left lc
  by_cases up : s.lc.state = .up
  · have ended := resetEnded_up left up
    rw [sessionEnd_up (by rw [lc]; exact up)]
    generalize settle (announceEnd (leaveUp .resetMirror none r)) = x at ended
    have cp : x.da.cp = none := by
      rw [ended.frame .da (by decide)]
      exact left.arbiter.2.1
    have first := offerAccepted_acceptOffer cp
    exact ⟨r, x, left, ended, first.trans (offerAccepted_acceptOffer first.uncopied.cp)⟩
  · rw [sessionEnd_down (by rw [lc]; exact up)]
    exact ⟨r, r, left, resetEnded_down left up, offerAccepted_acceptOffer left.arbiter.2.1⟩

end Sys2Proof.Proofs.MirrorWindows
end

section
namespace Sys2Proof.Proofs.MirrorWindows

open Sys2Proof Sys2Proof.Machine

variable {s t u r x : State} {w v : WinId} {c : Capture}

/-! ### The upstream transaction at RESET_MIRROR (R49, R160) -/

theorem releaseAny_mp : (releaseAny s).mp
    = { s.mp with txn := s.mp.txn.map fun u =>
        match u.cls with
        | .capture _ _ => { u with released := true }
        | .passThrough => u
        | .refused => u } := by
  have kept (txn : Option UpTxn) (same : s.mp.txn = txn) : s.mp = { s.mp with txn := txn } := by rw [← same]
  unfold releaseAny
  split
  next none => exact kept _ (by rw [none]; rfl)
  next u held =>
    split
    next w line cls => rw [State.setMp_mp, held, Option.map_some, cls]
    next cls => exact kept _ (by rw [held, Option.map_some, cls])
    next cls => exact kept _ (by rw [held, Option.map_some, cls])

theorem endCapture_mp_other (other : ∀ c, s.cu = some c → c.phase ≠ .confirmWait) : (endCapture s).mp = s.mp := by
  unfold endCapture
  cases there : s.cu with
  | none => rfl
  | some c =>
    cases phase : c.phase with
    | confirmWait => exact absurd phase (other c there)
    | slotWait | localWrite => simp [phase]

/-- What becomes of the upstream port's transaction (R49, R160). -/
theorem endCapture_releaseAny_mp :
    (∀ c, s.cu = some c → c.phase = .confirmWait → (endCapture (releaseAny s)).mp
        = { s.mp with txn := none, completions := s.mp.completions ++ [⟨.err, none⟩] })
      ∧ ((∀ c, s.cu = some c → c.phase ≠ .confirmWait) → (endCapture (releaseAny s)).mp = (releaseAny s).mp) := by
  refine ⟨fun c there waits => ?_, fun other => endCapture_mp_other fun c there => other c (releaseAny_cu ▸ there)⟩
  rw [endCapture_confirm (releaseAny_cu.trans there) waits, completeUpstream_mp, releaseAny_mp]

theorem endCapture_releaseAny_offer : (endCapture (releaseAny s)).mp.offer = s.mp.offer := by
  obtain ⟨confirms, kept⟩ := endCapture_releaseAny_mp (s := s)
  by_cases other : ∀ c, s.cu = some c → c.phase ≠ .confirmWait
  · rw [kept other, releaseAny_mp]
  · push Not at other
    obtain ⟨c, there, waits⟩ := other
    rw [confirms c there waits]

/-- The upstream part of RESET_MIRROR, for the state `t` it leaves where no offer stands (R49, R160). -/
theorem reset_upstream (left : ResetLeft s r) (cu : t.cu = r.cu) (mp : t.mp = r.mp) :
    (∀ c, s.cu = some c → c.phase = .confirmWait →
        t.cu = none ∧ t.mp = { s.mp with txn := none, completions := s.mp.completions ++ [⟨.err, none⟩] })
      ∧ (∀ c, s.cu = some c → c.phase = .localWrite → t.cu = some { c with sessionEnded := true })
      ∧ (∀ c, s.cu = some c → c.phase = .slotWait → t.cu = none)
      ∧ (s.cu = none → t.cu = none)
      ∧ ((∀ c, s.cu = some c → c.phase ≠ .confirmWait) →
        (s.mp.txn = none → t.mp = s.mp)
          ∧ (∀ u, s.mp.txn = some u → (∀ w line, u.cls ≠ .capture w line) → t.mp = s.mp)
          ∧ ∀ u w line, s.mp.txn = some u → u.cls = .capture w line →
            t.mp = { s.mp with txn := some { u with released := true } }) := by
  obtain ⟨confirms, kept⟩ := endCapture_releaseAny_mp (s := s)
  rw [cu, mp, left.cu, left.mp]
  have txn (held : Option UpTxn) (same : s.mp.txn = held) : { s.mp with txn := held } = s.mp := by rw [← same]
  refine ⟨fun c there waits => ⟨by rw [there]; simp only [waits], confirms c there waits⟩,
    fun c there phase => by rw [there]; simp only [phase], fun c there phase => by rw [there]; simp only [phase],
    fun none => by rw [none], fun other => ?_⟩
  rw [kept other, releaseAny_mp]
  refine ⟨fun none => ?_, fun u held plain => ?_, fun u w line held cls => ?_⟩
  · rw [none]
    exact txn _ none
  · rw [held, Option.map_some]
    refine txn _ (held.trans ?_)
    cases cls : u.cls with
    | capture w line => exact absurd cls (plain w line)
    | passThrough | refused => rfl
  · rw [held, Option.map_some, cls]

/-- Settles O29. -/
theorem resetMirrorResult : Obligations.ResetMirrorResult := by
  intro s holds fits others
  have run : runRequest .resetMirror s = accept (acceptOffer (sessionEnd .resetMirror none (resetBlocks s))) := rfl
  obtain ⟨r, x, left, ended, accepted⟩ := resetMirror_stages fits
  have done := exec_accepted holds run
  generalize acceptOffer (sessionEnd .resetMirror none (resetBlocks s)) = t at accepted done
  have frame : Only [.drawn, .out, .rq, .cu, .mp, .da, .lc, .lanes, .ts, .au, .dm, .re, .fu, .al, .counters] s t :=
    ((left.frame.mono (by decide)).trans (ended.frame.mono (by decide))).trans (accepted.frame.mono (by decide))
  have late : Only [.drawn, .cu, .mp, .da, .lc, .lanes, .ts, .re, .au, .al, .counters] r t :=
    (ended.frame.mono (by decide)).trans (accepted.frame.mono (by decide))
  have win (w : WinId) : t.win w = r.win w := win_of_out (late .out (by decide))
  have re : t.re = r.re := accepted.uncopied.re.trans (ended.frame .re (by decide))
  have da : x.da = r.da := ended.frame .da (by decide)
  have au : t.au = x.au := accepted.frame .au (by decide)
  have lanes : t.lanes = x.lanes := accepted.frame .lanes (by decide)
  obtain ⟨queue, state, drained, promotion, unreported, delay, advertised, epoch, through, ignored⟩ :
      t.au.queue = [] ∧ t.au.state = .idle ∧ t.au.drained = true ∧ t.au.promotion = false ∧ t.au.unreported = 0
        ∧ t.au.ackDelay = none ∧ t.au.advertised = s.au.advertised ∧ t.au.epoch = s.au.epoch
        ∧ t.au.appliedThrough = s.au.appliedThrough ∧ t.au.writeIgnored = r.au.writeIgnored := by
    rw [au, ended.au, left.au]
    exact ⟨rfl, rfl, rfl, rfl, rfl, rfl, rfl, rfl, rfl, rfl⟩
  have flags : FlagsKept r t := fun e flag => accepted.flags e ((ended.flags e).2 (.inl flag))
  have acks : others = s.lanes.owed.filter (fun o => !o.isAck) := by
    refine List.filter_congr fun o _ => ?_
    cases o <;> rfl
  have owed (down : s.lc.state ≠ .up) : t.lanes =
      { s.lanes with
        owed :=
          if s.au.queue ≠ [] ∧ s.lc.state = .hello ∧ .hello ∉ s.lanes.owed then .hello :: others else others } := by
    rw [lanes, ended.down down, left.lanes, acks]
  refine ⟨_, done, rfl, ?_, fun w => (win w).trans (left.win w), (late .dm (by decide)).trans left.dm,
    (late .rq (by decide)).trans left.rq, ?_, ?_, ?_, fun held => ?_, fun free => re.trans (left.unread free), ?_,
    queue, state, drained, promotion, unreported, delay, advertised, epoch, through, ?_, ?_, fun writing unasked => ignored.trans (left.ignores writing unasked), fun stays => ignored.trans (left.heeds stays),
    ?_, ?_, fun hello waits withheld => ?_, fun down other => ?_, fun down => ⟨?_, ?_, ?_, ?_, ?_⟩, fun up => ?_, fun free => ?_⟩
  · exact (only_answered (by decide) (by decide)).2 (frame.mono (by decide))
  · exact (congrArg ResyncEngine.state re).trans left.rests.2.1
  · exact (congrArg ResyncEngine.current re).trans left.rests.1
  · exact (congrArg ResyncEngine.lastServed re).trans left.rests.2.2
  · have ended' : ReadAbandoned s x := by
      have same := ended.frame .re (by decide)
      exact readAbandoned_congr (left.read held) (by rw [same]) (by rw [same]) (by rw [same]) (by rw [same]) (by rw [da])
        (by rw [da]) (ended.frame .out (by decide)) (ended.frame .params (by decide))
    exact readAbandoned_congr (accepted.read s ended') rfl rfl rfl rfl rfl rfl rfl rfl
  · exact fencesFailed_later (t := r) (late .fu (by decide)) flags left.fences
  · exact accepted.uncopied.ap (by rw [da]; exact left.arbiter.1)
  · exact accepted.uncopied.floor (by rw [da]; exact left.arbiter.2.2)
  · exact (accepted.enables.trans ended.enables).trans left.enables
  · exact (congrArg Lanes.frame lanes).trans ended.lane
  · exact (congrArg Lanes.owed (owed (by rw [hello]; decide))).trans (if_pos ⟨waits, hello, withheld⟩)
  · refine (congrArg Lanes.owed (owed down)).trans (if_neg fun ⟨waits, hello, withheld⟩ => ?_)
    exact other.elim (· hello) (Or.rec waits withheld)
  · exact (accepted.frame .lc (by decide)).trans (ended.down down ▸ left.frame .lc (by decide))
  · exact (accepted.frame .ts (by decide)).trans (ended.down down ▸ left.frame .ts (by decide))
  · change t.lanes.goodbye = _
    rw [owed down]
  · exact (congrArg ApplyUnit.lastEpoch au).trans (by rw [ended.down down, left.au])
  · exact (congrArg ApplyUnit.lastApplied au).trans (by rw [ended.down down, left.au])
  · obtain ⟨⟨lc, owes, linkDown, protocol⟩, ts, lastEpoch, lastApplied⟩ := ended.up up
    refine ⟨⟨(accepted.frame .lc (by decide)).trans lc, lanes.trans owes, ?_, nofun⟩,
      (accepted.frame .ts (by decide)).trans ts, (congrArg ApplyUnit.lastEpoch au).trans lastEpoch,
      (congrArg ApplyUnit.lastApplied au).trans lastApplied⟩
    rw [← has_linkDown] at linkDown ⊢
    exact accepted.flags _ linkDown
  · have mp : x.mp = r.mp := ended.frame .mp (by decide)
    have offer : x.mp.offer = none := by rw [mp, left.mp, endCapture_releaseAny_offer, free]
    obtain rfl : t = x := accepted.same offer
    refine ⟨?_, ?_, fun e => (ended.flags e).trans ?_, reset_upstream (t := t.answered .ok []) left
      (ended.frame .cu (by decide)) mp⟩
    · exact (ended.frame .drawn (by decide)).trans (left.frame .drawn (by decide))
    · exact (ended.frame .counters (by decide)).trans (left.frame .counters (by decide))
    · rw [left.flags e, or_assoc]
      exact or_congr_right or_comm

end Sys2Proof.Proofs.MirrorWindows
end

section
/-! PROOF. The family 02_write_capture_and_the_replay_queue, part 1: the queue of records as a list (O8, O10). Each
operation is shown to keep the open tail, the bound on records and reservations, and the numbers; the events are chains of
them. -/

namespace Sys2Proof.Proofs.WriteCapture

open Sys2Proof Sys2Proof.Machine Sys2Proof.Proofs.MirrorWindows

variable {s t u : State}

/-! ### The tail of a list of records (R34, R45) -/

/-- The law of `OpenOnlyAtTail` for a list of records. -/
def TailOpen (l : List Record) : Prop :=
  (∀ r ∈ l.dropLast, r.state ≠ .opened) ∧ ∀ r ∈ l, r.state = .opened → r.kind = .write ∧ r.waiter = false

theorem openOnlyAtTail_iff : OpenOnlyAtTail s ↔ TailOpen s.rq.records := Iff.rfl

/-- A list without an OPEN record. -/
theorem tailOpen_of_closed {l : List Record} (closed : ∀ r ∈ l, r.state ≠ .opened) : TailOpen l :=
  ⟨fun r there => closed r (List.mem_of_mem_dropLast there), fun r there opened => absurd opened (closed r there)⟩

theorem tailOpen_concat {older : List Record} {r : Record} :
    TailOpen (older ++ [r])
      ↔ (∀ q ∈ older, q.state ≠ .opened) ∧ (r.state = .opened → r.kind = .write ∧ r.waiter = false) := by
  simp only [TailOpen, List.dropLast_concat, List.mem_append, List.mem_singleton]
  refine and_congr_right fun closed => ⟨fun all => all r (.inr rfl), fun last q there opened => ?_⟩
  rcases there with old | rfl
  · exact absurd opened (closed q old)
  · exact last opened

/-- Once the tail has closed no record is OPEN (R36). -/
theorem closedTail_closed {l : List Record} (h : TailOpen l) : ∀ r ∈ closedTail l, r.state ≠ .opened := by
  rcases List.eq_nil_or_concat' l with rfl | ⟨older, last, rfl⟩
  · simp [closedTail_nil]
  · rw [closedTail_append]
    intro r there
    rcases List.mem_append.1 there with old | new
    · exact (tailOpen_concat.1 h).1 r old
    · rw [List.mem_singleton.1 new]
      dsimp only
      split
      · decide
      · assumption

theorem tailOpen_filter {l : List Record} (p : Record → Bool) (h : TailOpen l) : TailOpen (l.filter p) := by
  rcases List.eq_nil_or_concat' l with rfl | ⟨older, last, rfl⟩
  · exact h
  · obtain ⟨closed, tail⟩ := tailOpen_concat.1 h
    have older' : ∀ r ∈ older.filter p, r.state ≠ .opened := fun r there => closed r (List.mem_of_mem_filter there)
    rw [List.filter_append]
    cases kept : p last with
    | true => rw [List.filter_singleton, kept]; exact tailOpen_concat.2 ⟨older', tail⟩
    | false => rw [List.filter_singleton, kept]; simpa using tailOpen_of_closed older'

/-- A change of records that opens none of them, leaves an OPEN one a WRITE and gives it no waiter. -/
theorem tailOpen_map {l : List Record} {f : Record → Record} (opens : ∀ r, (f r).state = .opened → r.state = .opened)
    (kept : ∀ r, (f r).kind = r.kind ∧ (r.waiter = false → (f r).waiter = false)) (h : TailOpen l) :
    TailOpen (l.map f) := by
  rcases List.eq_nil_or_concat' l with rfl | ⟨older, last, rfl⟩
  · exact h
  · obtain ⟨closed, tail⟩ := tailOpen_concat.1 h
    rw [List.map_append, List.map_singleton]
    refine tailOpen_concat.2 ⟨fun r there opened => ?_, fun opened => ?_⟩
    · obtain ⟨q, old, rfl⟩ := List.mem_map.1 there
      exact closed q old (opens q opened)
    · obtain ⟨write, waiter⟩ := tail (opens last opened)
      exact ⟨(kept last).1.trans write, (kept last).2 waiter⟩

/-! ### Consecutive numbers (R31) -/

/-- Records numbered one after the other, from the number after `a` on. -/
def Consecutive : Seq → List Record → Prop
  | _, [] => True
  | a, r :: rest => r.seq = a + 1 ∧ Consecutive (a + 1) rest

theorem one_toNat : (1 : Seq).toNat = 1 := rfl

theorem next_add (a : Seq) (n : Nat) : a + 1 + BitVec.ofNat 16 n = a + BitVec.ofNat 16 (n + 1) := by
  apply BitVec.eq_of_toNat_eq
  simp only [BitVec.toNat_add, BitVec.toNat_ofNat, one_toNat]
  omega

/-- The indexed form of the law. -/
theorem consecutive_iff {a : Seq} {l : List Record} :
    Consecutive a l ↔ ∀ (k : Nat) (h : k < l.length), l[k].seq = a + BitVec.ofNat 16 (k + 1) := by
  induction l generalizing a with
  | nil => simp [Consecutive]
  | cons r rest ih =>
    rw [Consecutive, ih]
    constructor
    · rintro ⟨first, others⟩ k h
      cases k with
      | zero => simpa using first
      | succ k => rw [List.getElem_cons_succ, others k (by simpa using h), next_add]
    · intro all
      refine ⟨all 0 (Nat.succ_pos _), fun k h => ?_⟩
      have number := all (k + 1) (by simpa using h)
      rw [List.getElem_cons_succ] at number
      rw [number, next_add]

/-- The numbers decide it. -/
theorem consecutive_congr {a : Seq} {l l' : List Record} (seqs : l'.map (·.seq) = l.map (·.seq)) (h : Consecutive a l) :
    Consecutive a l' := by
  have length : l'.length = l.length := by simpa using congrArg List.length seqs
  rw [consecutive_iff] at h ⊢
  intro k inside
  have same : (l'.map (·.seq))[k]'(by simpa using inside) = (l.map (·.seq))[k]'(by simpa [← length] using inside) := by
    simp only [seqs]
  simp only [List.getElem_map] at same
  rw [same]
  exact h k (length ▸ inside)

theorem consecutive_concat {a : Seq} {l : List Record} {r : Record} (h : Consecutive a l)
    (last : r.seq = a + BitVec.ofNat 16 (l.length + 1)) : Consecutive a (l ++ [r]) := by
  induction l generalizing a with
  | nil => exact ⟨by simpa using last, trivial⟩
  | cons q rest ih =>
    refine ⟨h.1, ih h.2 ?_⟩
    rw [last, next_add, List.length_cons]

/-- A queued number lies at most the queue's length behind the number before the first. -/
theorem consecutive_mem {a : Seq} {l : List Record} {r : Record} (h : Consecutive a l) (there : r ∈ l)
    (short : l.length < 65536) : 1 ≤ (r.seq - a).toNat ∧ (r.seq - a).toNat ≤ l.length := by
  obtain ⟨k, inside, rfl⟩ := List.mem_iff_getElem.1 there
  rw [consecutive_iff.1 h k inside]
  simp only [BitVec.toNat_sub, BitVec.toNat_add, BitVec.toNat_ofNat]
  have := a.isLt
  omega

/-- From `a` to another number `b`, one step takes one off the distance. -/
theorem step_distance {a b : Seq} (apart : b ≠ a) : (b - (a + 1)).toNat + 1 = (b - a).toNat := by
  have differ : b.toNat ≠ a.toNat := fun same => apart (BitVec.eq_of_toNat_eq same)
  have := a.isLt
  have := b.isLt
  simp only [BitVec.toNat_sub, BitVec.toNat_add, one_toNat]
  omega

/-- The number after `a` is not later than a `b` in the half range after `a`. -/
theorem not_later_next {a b : Seq} (apart : b ≠ a) (near : (b - a).toNat ≤ 32767) : later (a + 1) b = false := by
  have differ : b.toNat ≠ a.toNat := fun same => apart (BitVec.eq_of_toNat_eq same)
  have := a.isLt
  have := b.isLt
  simp only [later, Bool.and_eq_false_iff, decide_eq_false_iff_not, BitVec.toNat_sub, BitVec.toNat_add, one_toNat]
    at near ⊢
  omega

/-- Head removal up to the number before the first takes nothing. -/
theorem removeHead_self {a b : Seq} {l : List Record} (start : b = a) (h : Consecutive a l) (short : l.length ≤ 32767) :
    Consecutive b (l.filter (fun r => later r.seq b))
      ∧ (l.filter (fun r => later r.seq b)).length + (b - a).toNat = l.length := by
  have all : l.filter (fun r => later r.seq b) = l := by
    refine List.filter_eq_self.2 fun r there => ?_
    have range := consecutive_mem h there (by omega)
    rw [start]
    simp only [later, Bool.and_eq_true, decide_eq_true_eq]
    omega
  rw [all, start]
  exact ⟨h, by simp⟩

/-- Head removal up to `b`, a number of the queue or the one before its first, takes the records up to `b`, and the others
go on from there (R38). -/
theorem consecutive_removeHead {a b : Seq} {l : List Record} (h : Consecutive a l) (short : l.length ≤ 32767)
    (inside : (b - a).toNat ≤ l.length) :
    Consecutive b (l.filter (fun r => later r.seq b))
      ∧ (l.filter (fun r => later r.seq b)).length + (b - a).toNat = l.length := by
  by_cases start : b = a
  · exact removeHead_self start h short
  · have step := step_distance start
    induction l generalizing a with
    | nil => simp only [List.length_nil] at inside; omega
    | cons r rest ih =>
      have before : later r.seq b = false := by
        rw [h.1]
        exact not_later_next start (by omega)
      rw [List.length_cons] at inside short
      have others : Consecutive b (rest.filter (fun r => later r.seq b))
          ∧ (rest.filter (fun r => later r.seq b)).length + (b - (a + 1)).toNat = rest.length := by
        by_cases there : b = a + 1
        · exact removeHead_self there h.2 (by omega)
        · exact ih h.2 (by omega) (by omega) there (step_distance there)
      rw [List.filter_cons_of_neg (by simp [before]), List.length_cons]
      exact ⟨others.1, by omega⟩

theorem closedTail_seq (l : List Record) : (closedTail l).map (·.seq) = l.map (·.seq) := by
  rcases List.eq_nil_or_concat' l with rfl | ⟨older, last, rfl⟩
  · rfl
  · rw [closedTail_append]
    simp

/-- `NumbersFit`, with the numbers as a run. -/
theorem numbersFit_iff : NumbersFit s ↔ (s.lc.state = .up → Consecutive s.ts.ackedThrough s.rq.records
    ∧ s.rq.nextSeq = s.ts.ackedThrough + BitVec.ofNat 16 (s.rq.records.length + 1)
    ∧ (s.ts.sentHigh - s.ts.ackedThrough).toNat ≤ s.rq.records.length) := by
  unfold NumbersFit
  rw [← consecutive_iff]

theorem numbersFit_of_down (down : s.lc.state ≠ .up) : NumbersFit s := fun up => absurd up down

end Sys2Proof.Proofs.WriteCapture
end

section
/-! PROOF. The family 02_write_capture_and_the_replay_queue, part 2: what every step keeps of the engine's read (O8). -/

namespace Sys2Proof.Proofs.WriteCapture

open Sys2Proof Sys2Proof.Machine Sys2Proof.Proofs.MirrorWindows

variable {s t u : State} {w : WinId} {held : Bool}

/-! ### The engine's read and the arbiter (R32, R125, R128, R135)

`held` says that the access of a completed copy read is still on the port: between the engine's taking of the result and
the next grant. -/

/-- The law of `EngineFits`; what becomes of a read without a segment it leaves open. -/
structure ReadLaw (held : Bool) (s : State) : Prop where
  reserved : s.re.reservation = true ↔ s.re.read ≠ .absent
  requested : s.re.read = .requested → s.re.current.isSome = true
  draining : s.re.state = .draining → s.re.read = .absent
  asked : s.da.cp.isSome = true ↔ s.re.read = .requested
  port : (∃ x, s.da.port = some ⟨.cp, x⟩) ↔ held = true ∨ s.re.read = .granted
  ended : held = true → s.re.read ≠ .granted

theorem readLaw_iff : ReadLaw false s ↔ EngineFits s :=
  ⟨fun h => ⟨h.reserved, h.requested, h.draining, h.asked, by simpa using h.port⟩,
    fun ⟨reserved, requested, draining, asked, port⟩ => ⟨reserved, requested, draining, asked, by simpa using port, by simp⟩⟩

/-- A change that keeps the law of the engine's read and takes no reservation for it. -/
structure EngineKept (s t : State) : Prop where
  reservation : t.re.reservation = true → s.re.reservation = true
  law : ∀ held, ReadLaw held s → ReadLaw held t

theorem EngineKept.trans (h : EngineKept s t) (h' : EngineKept t u) : EngineKept s u :=
  ⟨h.reservation ∘ h'.reservation, fun held => h'.law held ∘ h.law held⟩

theorem engineKept_of_eq (re : t.re = s.re) (da : t.da = s.da) : EngineKept s t := by
  refine ⟨fun taken => re ▸ taken, fun held ⟨reserved, requested, draining, asked, port, ended⟩ => ?_⟩
  constructor <;> simp only [re, da] <;> assumption

theorem EngineKept.refl (s : State) : EngineKept s s := engineKept_of_eq rfl rfl

theorem EngineKept.congr (h : EngineKept s t) (re : u.re = t.re) (da : u.da = t.da) : EngineKept s u :=
  h.trans (engineKept_of_eq re da)

theorem EngineKept.foldl {α : Type} {f : State → α → State} (h : EngineKept s t) (each : ∀ u a, EngineKept u (f u a))
    (l : List α) : EngineKept s (l.foldl f t) :=
  List.foldlRecOn l f (motive := EngineKept s) h fun u kept a _ => kept.trans (each u a)

/-- A change of the engine that touches neither its read nor whether it has a segment, and does not take it to DRAINING. -/
theorem engineKept_setRe {x : ResyncEngine} (read : x.read = s.re.read) (reservation : x.reservation = s.re.reservation)
    (current : x.current.isSome = s.re.current.isSome) (state : x.state ≠ .draining ∨ x.state = s.re.state) :
    EngineKept s (s.setRe x) where
  reservation taken := reservation ▸ taken
  law held h :=
    { reserved := by simpa [read, reservation] using h.reserved
      requested := by simpa [read, current] using h.requested
      draining := fun drains => by
        simp only [State.setRe_re] at drains ⊢
        rw [read]
        exact state.elim (absurd drains) fun same => h.draining (same ▸ drains)
      asked := by simpa [read] using h.asked
      port := by simpa [read] using h.port
      ended := by simpa [read] using h.ended }

theorem engineKept_abandon : EngineKept s (abandon s) := by
  unfold abandon
  cases read : s.re.read with
  | absent =>
    refine ⟨id, fun held ⟨reserved, requested, draining, asked, port, ended⟩ => ?_⟩
    constructor <;> simp_all
  | requested =>
    refine ⟨by simp, fun held ⟨reserved, requested, draining, asked, port, ended⟩ => ?_⟩
    constructor <;> simp_all [withdrawCp]
  | granted =>
    refine ⟨id, fun held ⟨reserved, requested, draining, asked, port, ended⟩ => ?_⟩
    constructor <;> simp_all

theorem engineKept_grant : EngineKept s (grant s) := by
  refine ⟨fun taken => ?_, fun held h => ?_⟩
  · rcases grant_re (s := s) with same | same <;> rwa [same] at taken
  obtain same | ⟨client, x, free, _, asks, given⟩ := grant_cases (s := s)
  · rwa [same]
  · obtain ⟨reserved, requested, draining, asked, port, ended⟩ := h
    rw [free] at port
    have idle : held = false ∧ s.re.read ≠ .granted := by simpa using port
    rw [given]
    cases client with
    | fg | ap => constructor <;> simp_all [readGranted, Arbiter.granted]
    | cp =>
      have waits : s.re.read = .requested := asked.1 (by simp_all [Arbiter.request])
      constructor <;> simp_all [readGranted, Arbiter.granted]

theorem engineKept_enterWindow {new : WinState} {halt : Option HaltCause} : EngineKept s (enterWindow w new halt s) := by
  rcases enterWindow_engine (s := s) (w := w) (new := new) (halt := halt) with ⟨_, re, da⟩ | ⟨_, da, re | ⟨_, re⟩⟩
  · exact engineKept_abandon.congr re da
  · exact engineKept_of_eq re da
  · have wakes : EngineKept s (s.setRe { s.re with state := .select }) := engineKept_setRe rfl rfl rfl (.inl (by simp))
    exact wakes.congr re da

theorem engineKept_markSegment {k : Nat} : EngineKept s (markSegment w k s) := by
  have redirtied : EngineKept s (redirty w k s) := by
    unfold redirty
    repeat' split
    · exact .refl s
    · exact engineKept_setRe rfl rfl (by simp [*]) (.inr rfl)
    · exact .refl s
  have da : (markSegment w k s).da = s.da := by simp
  have re := markSegment_re (s := s) (w := w) (k := k)
  split at re
  · exact redirtied.congr re (by simp)
  · exact engineKept_of_eq re da

theorem engineKept_toResync : EngineKept s (toResync w s) := by
  unfold toResync
  split <;> exact engineKept_enterWindow

theorem engineKept_leaveActive {towards : Bool} : EngineKept s (leaveActive towards w s) := by
  unfold leaveActive
  repeat' split
  · exact engineKept_toResync
  · exact engineKept_enterWindow
  · exact .refl s

theorem engineKept_endWindows : EngineKept s (endWindows (discardAll s)) :=
  endWindows_discardAll_induction (fun _ _ _ h => h.trans engineKept_markSegment)
    (fun _ _ _ h => h.trans engineKept_enterWindow) (fun _ h => h.congr rfl rfl) (.refl s)

theorem engineKept_enable {full : Bool} : EngineKept s (enableState w (enableMarks full w s)) := by
  have marks : EngineKept s (enableMarks full w s) := engineKept_of_eq (by simp [enableMarks]; split <;> rfl)
    (by simp [enableMarks]; split <;> rfl)
  refine marks.trans ?_
  unfold enableState
  repeat' split
  all_goals exact engineKept_enterWindow

theorem engineKept_turnOff : EngineKept s (turnOff w s) := by
  unfold turnOff
  dsimp only
  split
  · refine EngineKept.trans ?_ engineKept_abandon
    exact engineKept_of_eq rfl rfl
  · exact engineKept_of_eq rfl rfl

theorem engineKept_resetEngine : EngineKept s (resetEngine s) := by
  unfold resetEngine
  dsimp only
  split
  · exact engineKept_abandon.trans (engineKept_setRe rfl rfl rfl (.inl (by simp)))
  · exact engineKept_setRe rfl rfl rfl (.inl (by simp))

/-- RESET_MIRROR at the windows and the engine (R207). -/
theorem engineKept_clear : EngineKept s (resetEngine (clearWindows (releaseAny s))) := by
  have cleared : Only [.mp, .out, .dm] s (clearWindows (releaseAny s)) := by simp [Only.refl]
  exact (engineKept_of_eq (cleared .re (by decide)) (cleared .da (by decide))).trans engineKept_resetEngine

theorem engineKept_selectSegment : EngineKept s (selectSegment s) := by
  obtain same | idle | ⟨v, k, _, _, taken⟩ := selectSegment_cases (s := s)
  · rw [same]; exact .refl s
  · rw [idle]; exact engineKept_setRe rfl rfl rfl (.inl (by simp))
  · rw [taken]
    refine ⟨id, fun held ⟨reserved, requested, draining, asked, port, ended⟩ => ?_⟩
    constructor <;> simp_all [takeSegment, State.setWin]

/-- A DRAINING engine finishes its segment with no read outstanding (R132). -/
theorem engineKept_segmentDone {g : Segment} (drains : s.re.state = .draining) : EngineKept s (segmentDone g s) := by
  have left : EngineKept s (s.setRe { s.re with current := none, state := .select }) := by
    refine ⟨id, fun held ⟨reserved, requested, draining, asked, port, ended⟩ => ?_⟩
    constructor <;> simp_all
  have cleared := left.congr (u := clearSegment g.window g.index (s.setRe { s.re with current := none, state := .select }))
    (by simp) (by simp)
  unfold segmentDone
  dsimp only
  repeat' split
  · exact left
  · exact cleared.trans engineKept_enterWindow
  · exact cleared

/-! ### Every step keeps the engine's read and the arbiter in step -/

theorem ReadLaw.startRead (h : ReadLaw held s) : ReadLaw held (startRead s) := by
  unfold Machine.startRead
  split
  next => exact h
  next g current =>
    split
    next may =>
      simp only [State.mayRead, Bool.and_eq_true, decide_eq_true_eq] at may
      obtain ⟨⟨⟨⟨copying, absent⟩, _⟩, _⟩, _⟩ := may
      refine engineKept_grant.law held ?_
      obtain ⟨reserved, requested, draining, asked, port, ended⟩ := h
      constructor <;> simp_all
    next => exact h

theorem ReadLaw.ask {d : Arbiter} (h : ReadLaw held s) (g : AskGuard s.da d) : ReadLaw held (grant (s.setDa d)) := by
  refine engineKept_grant.law held ?_
  have owner : (∃ x, d.port = some ⟨.cp, x⟩) ↔ ∃ x, s.da.port = some ⟨.cp, x⟩ := by
    rcases g.port with same | ⟨free, other⟩
    · rw [same]
    · simp [free, other]
  obtain ⟨reserved, requested, draining, asked, port, ended⟩ := h
  exact ⟨reserved, requested, draining, by simpa [g.cp] using asked, owner.trans port, ended⟩

theorem ReadLaw.releasePort (h : ReadLaw true s) : ReadLaw false (releasePort s) := by
  refine engineKept_grant.law false ?_
  obtain ⟨reserved, requested, draining, asked, port, ended⟩ := h
  constructor <;> simp_all

/-- The access of a copy read that completes is a granted one (R125). -/
theorem ReadLaw.granted (h : ReadLaw false s) (owner : s.portClient = some .cp) : s.re.read = .granted := by
  obtain ⟨⟨client, x⟩, there, rfl⟩ := Option.map_eq_some_iff.1 owner
  simpa using h.port.1 ⟨x, there⟩

theorem ReadLaw.taken (h : ReadLaw false s) (owner : s.portClient = some .cp) (m : CopyTaken s t) : ReadLaw true t := by
  have granted := h.granted owner
  obtain ⟨reserved, requested, draining, asked, port, ended⟩ := h
  cases m with
  | ended => unfold endRead; constructor <;> simp_all
  | copied => unfold copyOk endRead; constructor <;> simp_all

theorem ReadLaw.move (m : Move s t) (h : ReadLaw held s) : ReadLaw held t := by
  have kept (k : EngineKept s t) : ReadLaw held t := k.law held h
  cases m with
  | quiet q => exact kept (engineKept_of_eq (q.only .re (by decide)) (q.only .da (by decide)))
  | link | complete | drop | hold | pass | capture | record | config | inbound | params =>
    exact kept (engineKept_of_eq rfl rfl)
  | leave => exact kept (EngineKept.trans (engineKept_of_eq (by simp) (by simp)) engineKept_endWindows)
  | ask d guard => exact h.ask guard
  | calm d guard =>
    obtain ⟨reserved, requested, draining, asked, port, ended⟩ := h
    exact ⟨reserved, requested, draining, by simpa [guard.cp] using asked, by simpa [guard.port] using port, ended⟩
  | enter => exact kept engineKept_enterWindow
  | mark => exact kept (((EngineKept.refl s).foldl (fun _ _ => engineKept_markSegment) _).trans engineKept_leaveActive)
  | select => exact kept engineKept_selectSegment
  | read => exact h.startRead
  | segment g up held drains => exact kept (engineKept_segmentDone drains)
  | enable => exact kept engineKept_enable
  | disable w =>
    have released (x : State) : Only [.mp] x (releaseCapture w x) := by simp [Only.refl]
    exact kept (engineKept_turnOff.congr (released _ .re (by decide)) (released _ .da (by decide)))
  | clear => exact kept engineKept_clear

theorem readLaw_pinReset {pending drawn pins nodeId offer} :
    ReadLaw false (State.pinReset pending drawn pins nodeId offer) := by
  constructor <;> simp [State.pinReset]

theorem step_keeps_engineFits (fits : EngineFits s) (e : step s = .next t) : EngineFits t :=
  readLaw_iff.1 (step_keeps (P := ReadLaw false) (weak := ReadLaw true)
    (fun _ _ ⟨reserved, requested, draining, asked, port, ended⟩ => ⟨reserved, requested, draining, asked, port, ended⟩)
    (fun _ _ _ _ _ => readLaw_pinReset) (fun m h => h.move m) (fun m h => h.move m) (fun owner m h => h.taken owner m)
    ReadLaw.releasePort s t (readLaw_iff.2 fits) e)

end Sys2Proof.Proofs.WriteCapture
end

section
/-! PROOF. The family 02_write_capture_and_the_replay_queue, part 3: what the operations of the capture unit and the
records keep of the queue (O8, O10). -/

namespace Sys2Proof.Proofs.WriteCapture

open Sys2Proof Sys2Proof.Machine Sys2Proof.Proofs.MirrorWindows

variable {s t u : State} {w : WinId}

/-! ### What an operation keeps of the queue's laws -/

/-- A change that keeps the tail's law and the bound of R32. -/
structure Bounded (s t : State) : Prop where
  tail : OpenOnlyAtTail s → OpenOnlyAtTail t
  slots : s.slotsTaken ≤ 64 → t.slotsTaken ≤ 64

/-- A change that keeps the consecutive numbers of R31 as well. -/
structure Keeps (s t : State) : Prop extends Bounded s t where
  numbers : s.slotsTaken ≤ 64 → NumbersFit s → NumbersFit t

theorem Bounded.trans (h : Bounded s t) (h' : Bounded t u) : Bounded s u :=
  ⟨h'.tail ∘ h.tail, h'.slots ∘ h.slots⟩

theorem Keeps.trans (h : Keeps s t) (h' : Keeps t u) : Keeps s u :=
  ⟨h.toBounded.trans h'.toBounded, fun room fit => h'.numbers (h.slots room) (h.numbers room fit)⟩

/-- The records and their numbers stay as they are, and the link does not come UP. -/
structure SameQueue (s t : State) : Prop where
  records : t.rq.records = s.rq.records
  next : t.rq.nextSeq = s.rq.nextSeq
  acked : t.ts.ackedThrough = s.ts.ackedThrough
  sent : t.ts.sentHigh = s.ts.sentHigh
  link : t.lc.state = .up → s.lc.state = .up

theorem SameQueue.keeps (h : SameQueue s t) (slots : s.slotsTaken ≤ 64 → t.slotsTaken ≤ 64) : Keeps s t where
  tail := by rw [openOnlyAtTail_iff, openOnlyAtTail_iff, h.records]; exact id
  slots := slots
  numbers _ fit := by
    rw [numbersFit_iff] at fit ⊢
    intro up
    rw [h.records, h.next, h.acked, h.sent]
    exact fit (h.link up)

/-- The reservations of the capture unit and of the engine. -/
def reservations (s : State) : Nat := (if s.cu.any (·.reservation) then 1 else 0) + (if s.re.reservation then 1 else 0)

theorem slotsTaken_eq : s.slotsTaken = s.rq.records.length + reservations s := by
  unfold State.slotsTaken reservations
  omega

/-- No reservation is taken. -/
theorem reservations_le (capture : t.cu.any (·.reservation) = true → s.cu.any (·.reservation) = true)
    (engine : t.re.reservation = true → s.re.reservation = true) : reservations t ≤ reservations s := by
  unfold reservations
  have first : (if t.cu.any (·.reservation) then 1 else 0) ≤ if s.cu.any (·.reservation) then 1 else 0 := by
    by_cases taken : t.cu.any (·.reservation) = true
    · simp [taken, capture taken]
    · simp [taken]
  have second : (if t.re.reservation then 1 else 0) ≤ if s.re.reservation then 1 else 0 := by
    by_cases taken : t.re.reservation = true
    · simp [taken, engine taken]
    · simp [taken]
  omega

/-- Nothing the queue's laws speak of changes but that a reservation can be released. -/
theorem SameQueue.idle (h : SameQueue s t) (capture : t.cu.any (·.reservation) = true → s.cu.any (·.reservation) = true)
    (engine : t.re.reservation = true → s.re.reservation = true) : Keeps s t :=
  h.keeps fun room => by
    have fewer := reservations_le capture engine
    rw [slotsTaken_eq] at room ⊢
    rw [h.records]
    omega

/-- The blocks that the queue's laws do not speak of. -/
def beside : List StateField :=
  [.pending, .drawn, .pins, .port, .params, .out, .inb, .mp, .da, .lanes, .rc, .au, .dm, .fu, .al, .counters]

@[simp] theorem mem_beside (f : StateField) :
    f ∈ beside ↔ f ≠ .rq ∧ f ≠ .cu ∧ f ≠ .lc ∧ f ≠ .ts ∧ f ≠ .re := by
  cases f <;> decide

theorem sameQueue_of_only (h : Only (.cu :: .re :: beside) s t) : SameQueue s t := by
  have rq : t.rq = s.rq := h .rq (by decide)
  have ts : t.ts = s.ts := h .ts (by decide)
  have lc : t.lc = s.lc := h .lc (by decide)
  exact ⟨by rw [rq], by rw [rq], by rw [ts], by rw [ts], by rw [lc]; exact id⟩

theorem keeps_of_only (h : Only beside s t) : Keeps s t := by
  have cu : t.cu = s.cu := h .cu (by decide)
  have re : t.re = s.re := h .re (by decide)
  exact (sameQueue_of_only (h.mono (by decide))).idle (by rw [cu]; exact id) (by rw [re]; exact id)

theorem Keeps.refl (s : State) : Keeps s s := keeps_of_only (Only.refl _ s)

theorem Keeps.only (h : Keeps s t) (frame : Only beside t u) : Keeps s u := h.trans (keeps_of_only frame)

theorem Keeps.ite {c : Prop} [Decidable c] {a b : State} (ha : c → Keeps s a) (hb : ¬c → Keeps s b) :
    Keeps s (if c then a else b) := by
  split
  · exact ha ‹_›
  · exact hb ‹_›

theorem Keeps.foldl {α : Type} {f : State → α → State} (h : Keeps s t) (each : ∀ u a, Keeps u (f u a)) (l : List α) :
    Keeps s (l.foldl f t) :=
  List.foldlRecOn l f (motive := Keeps s) h fun u kept a _ => kept.trans (each u a)

/-- A change of the engine and of blocks beside the queue. -/
theorem keeps_of_engine (frame : Only (.re :: beside) s t) (kept : EngineKept s t) : Keeps s t := by
  have cu : t.cu = s.cu := frame .cu (by decide)
  exact (sameQueue_of_only (frame.mono (by decide))).idle (by rw [cu]; exact id) kept.reservation

/-! ### The blocks, the flags and the counters -/

theorem Keeps.setMp {x : MemoryPath} (h : Keeps s t) : Keeps s (t.setMp x) := h.only (by simp [Only.refl])

theorem Keeps.setDrawn {n : Nat} (h : Keeps s t) : Keeps s (t.setDrawn n) := h.only (by simp [Only.refl])

theorem Keeps.setDa {x : Arbiter} (h : Keeps s t) : Keeps s (t.setDa x) := h.only (by simp [Only.refl])

theorem Keeps.setAu {x : ApplyUnit} (h : Keeps s t) : Keeps s (t.setAu x) := h.only (by simp [Only.refl])

theorem Keeps.setRc {x : Checker} (h : Keeps s t) : Keeps s (t.setRc x) := h.only (by simp [Only.refl])

theorem Keeps.setFu {x : FenceUnit} (h : Keeps s t) : Keeps s (t.setFu x) := h.only (by simp [Only.refl])

theorem Keeps.setLc {x : LinkController} (h : Keeps s t) (link : x.state = .up → t.lc.state = .up) : Keeps s (t.setLc x) :=
  h.trans (SameQueue.idle ⟨rfl, rfl, rfl, rfl, link⟩ id id)

theorem Keeps.setTs {x : Scheduler} (h : Keeps s t) (acked : x.ackedThrough = t.ts.ackedThrough)
    (sent : x.sentHigh = t.ts.sentHigh) : Keeps s (t.setTs x) :=
  h.trans (SameQueue.idle ⟨rfl, rfl, acked, sent, id⟩ id id)

theorem Keeps.setLanes {x : Lanes} (h : Keeps s t) : Keeps s (t.setLanes x) := h.only (by simp [Only.refl])

theorem Keeps.bump {c : Counter} (h : Keeps s t) : Keeps s (bump c t) := h.only (by simp [Only.refl])

theorem Keeps.raise {c : Cause} (h : Keeps s t) : Keeps s (raise c t) := h.only (by simp [Only.refl])

theorem Keeps.owe {o : Owed} (h : Keeps s t) : Keeps s (owe o t) := h.only (by simp [Only.refl])

/-! ### The arbiter and the engine -/

theorem keeps_grant {d : Arbiter} : Keeps s (grant (s.setDa d)) :=
  (Keeps.refl s).setDa.trans
    (keeps_of_engine (by simp [Only.refl]) engineKept_grant)

theorem Keeps.presentFg {x : Txn} (h : Keeps s t) : Keeps s (presentFg x t) := h.trans keeps_grant

theorem Keeps.presentAp {x : Txn} (h : Keeps s t) : Keeps s (presentAp x t) := h.trans keeps_grant

theorem Keeps.releasePort (h : Keeps s t) : Keeps s (releasePort t) := h.trans keeps_grant

theorem Keeps.forward (h : Keeps s t) : Keeps s (forward t) := by
  unfold Machine.forward
  split
  · exact h
  · exact h.presentFg

theorem Keeps.enterWindow {new : WinState} {halt : Option HaltCause} (h : Keeps s t) : Keeps s (enterWindow w new halt t) :=
  h.trans (keeps_of_engine (by simp [Only.refl]) engineKept_enterWindow)

theorem Keeps.toResync (h : Keeps s t) : Keeps s (toResync w t) := .ite (fun _ => h.enterWindow) fun _ => h.enterWindow

theorem Keeps.markSegment {k : Nat} (h : Keeps s t) : Keeps s (markSegment w k t) :=
  h.trans (keeps_of_engine (by simp [Only.refl]) engineKept_markSegment)

theorem Keeps.captureFailure (h : Keeps s t) : Keeps s (captureFailure w t) :=
  .ite (fun _ => .ite (fun _ => h.toResync) fun _ => h.enterWindow) fun _ => h

/-- The engine takes a reservation only where a slot is free (R32, R128). -/
theorem Keeps.startRead (h : Keeps s t) : Keeps s (startRead t) := by
  refine h.trans ?_
  have frame : Only (.re :: beside) t (Machine.startRead t) := by simp [Only.refl]
  refine (sameQueue_of_only (frame.mono (by decide))).keeps fun room => ?_
  unfold Machine.startRead
  split
  next => exact room
  next g current =>
    split
    next may =>
      have free : t.slotsTaken < 64 := by
        simp only [State.mayRead, Bool.and_eq_true, State.slotFree, decide_eq_true_eq] at may
        exact may.2
      have asked : Keeps (t.setRe { t.re with read := .requested, reservation := true })
          (presentCp (t.copyRead g) (t.setRe { t.re with read := .requested, reservation := true })) := keeps_grant
      refine asked.slots ?_
      change t.rq.records.length + (if t.cu.any (·.reservation) then 1 else 0) + 1 ≤ 64
      unfold State.slotsTaken at free
      omega
    next => exact room

theorem Keeps.selectSegment (h : Keeps s t) : Keeps s (selectSegment t) :=
  h.trans (keeps_of_engine (by simp [Only.refl]) engineKept_selectSegment)

theorem Keeps.advanceEngine (h : Keeps s t) : Keeps s (advanceEngine t) := h.selectSegment.startRead

/-! ### The capture unit (R42 to R49) -/

theorem Keeps.setCu {y : Option Capture} (h : Keeps s t)
    (reserved : y.any (·.reservation) = true → t.cu.any (·.reservation) = true) : Keeps s (t.setCu y) :=
  h.trans (SameQueue.idle ⟨rfl, rfl, rfl, rfl, id⟩ reserved id)

theorem Keeps.completeUpstream {r : Result} {bytes : Option LineData} (h : Keeps s t) :
    Keeps s (completeUpstream r bytes t) :=
  Keeps.setCu (y := none) h.setMp nofun

theorem Keeps.captureUnrecorded {c : Capture} (h : Keeps s t)
    (own : c.reservation = true → t.cu.any (·.reservation) = true) : Keeps s (captureUnrecorded c t) :=
  (h.setCu (by simpa using own)).forward

/-- A free slot can be reserved for the capture (R32, R42). -/
theorem keeps_reserve {c : Capture} (free : s.slotFree = true) : Keeps s (s.setCu (some c)) := by
  refine SameQueue.keeps ⟨rfl, rfl, rfl, rfl, id⟩ fun _ => ?_
  have room : s.slotsTaken < 64 := by simpa [State.slotFree, Config.replaySlots] using free
  have one : (if (some c).any (·.reservation) then 1 else 0) ≤ 1 := by split <;> omega
  change s.rq.records.length + (if (some c).any (·.reservation) then 1 else 0) + (if s.re.reservation then 1 else 0) ≤ 64
  unfold State.slotsTaken at room
  omega

/-- The slot check takes a reservation only where a slot is free (R42). -/
theorem Keeps.slotCheck {c : Capture} (h : Keeps s t) (own : c.reservation = true → t.cu.any (·.reservation) = true) :
    Keeps s (slotCheck c t) := by
  unfold Machine.slotCheck
  split
  next => exact (h.setCu (by simp)).forward
  next => exact h.captureUnrecorded own
  next => exact h.captureUnrecorded own
  all_goals
    unfold slotCheckMirrored
    exact .ite (fun free => (h.trans (keeps_reserve free)).forward) fun _ =>
      .ite (fun _ => (h.setCu (by simpa using own)).forward) fun _ => h.setCu (by simpa using own)

theorem Keeps.recheckSlot (h : Keeps s t) : Keeps s (recheckSlot t) := by
  unfold Machine.recheckSlot
  split
  next => exact h
  next c there => exact .ite (fun _ => h.slotCheck (by simp [there])) fun _ => h

theorem Keeps.settle (h : Keeps s t) : Keeps s (settle t) := h.recheckSlot.advanceEngine

theorem Keeps.completeMalformed {x : Txn} (h : Keeps s t) : Keeps s (completeMalformed x t) := by
  unfold Machine.completeMalformed
  split
  · exact h.completeUpstream.setDrawn
  · exact h.completeUpstream

theorem Keeps.acceptTxn {x : Txn} (h : Keeps s t) : Keeps s (acceptTxn x t) := by
  have freed : Keeps s (t.setMp { t.mp with offer := none }) := h.setMp
  unfold Machine.acceptTxn
  refine .ite (fun _ => ?_) fun _ => freed.completeMalformed
  split
  · exact freed.completeUpstream.raise.bump
  · exact freed.setMp.presentFg
  · refine freed.setMp.slotCheck ?_
    simp [Capture.start]

theorem Keeps.acceptOffer (h : Keeps s t) : Keeps s (acceptOffer t) := by
  unfold Machine.acceptOffer
  split
  · exact h
  · exact .ite (fun _ => h) fun _ => h.acceptTxn

theorem Keeps.markCapture {c : Capture} {r : Result} (h : Keeps s t) : Keeps s (markCapture c r t) := by
  unfold Machine.markCapture markLine
  exact h.markSegment.captureFailure.completeUpstream

theorem Keeps.endCapture (h : Keeps s t) : Keeps s (endCapture t) := by
  unfold Machine.endCapture
  split
  next => exact h
  next c there =>
    split
    · exact h.completeUpstream
    all_goals exact h.setCu (by simp [there])

/-! ### The apply unit (R107 to R118) -/

theorem Keeps.takeEntries (n : Nat) (h : Keeps s t) : Keeps s (takeEntries n t) := by
  induction n generalizing t with
  | zero => exact h
  | succ n ih =>
    unfold Machine.takeEntries
    split
    · exact h
    · refine .ite (fun _ => ?_) fun _ => h
      split
      · exact ih (h.only (by simp [Only.refl]))
      · exact h.setAu.presentAp

theorem Keeps.takeHead (h : Keeps s t) : Keeps s (takeHead t) := h.takeEntries _

/-! ### The records (R33, R35, R36, R38, R39) -/

/-- A change of the replay queue that keeps the number of records and their numbers, and the tail's law. -/
theorem keeps_setRq {x : ReplayQueue} (tail : TailOpen s.rq.records → TailOpen x.records)
    (seqs : x.records.map (·.seq) = s.rq.records.map (·.seq)) (next : x.nextSeq = s.rq.nextSeq) : Keeps s (s.setRq x) := by
  have length : x.records.length = s.rq.records.length := by simpa using congrArg List.length seqs
  refine ⟨⟨tail, fun room => ?_⟩, fun _ fit => ?_⟩
  · rw [slotsTaken_eq] at room ⊢
    rw [State.setRq_rq, length]
    exact room
  · rw [numbersFit_iff] at fit ⊢
    intro up
    obtain ⟨numbers, after, sent⟩ := fit up
    simp only [State.setRq_rq, State.setRq_ts, next, length]
    exact ⟨consecutive_congr seqs numbers, after, sent⟩

theorem Keeps.closeTail (h : Keeps s t) : Keeps s (closeTail t) :=
  h.trans (keeps_setRq (fun tail => tailOpen_of_closed (closedTail_closed tail)) (closedTail_seq _) rfl)

theorem Keeps.merge {mask : Mask} {data : LineData} (h : Keeps s t) : Keeps s (merge mask data t) := by
  refine h.trans ?_
  rcases List.eq_nil_or_concat' t.rq.records with none | ⟨older, r, tail⟩
  · have same : Machine.merge mask data t = t := by simp [Machine.merge, none]
    rw [same]
    exact .refl t
  · have merged := merge_rq mask data tail
    have put : Machine.merge mask data t = t.setRq (Machine.merge mask data t).rq := by simp [Machine.merge, tail]
    rw [put, merged]
    refine keeps_setRq (fun law => ?_) (by simp [tail, Record.merged]) rfl
    rw [tail] at law
    obtain ⟨closed, last⟩ := tailOpen_concat.1 law
    refine tailOpen_concat.2 ⟨closed, fun opened => last ?_⟩
    simp only [Record.merged] at opened
    split at opened
    · cases opened
    · exact opened

theorem openOnlyAtTail_append {r : Record} (fresh : r.state = .opened → r.kind = .write ∧ r.waiter = false)
    (h : OpenOnlyAtTail s) : OpenOnlyAtTail (append r s) :=
  tailOpen_concat.2 ⟨closedTail_closed h, fresh⟩

/-- An appended record takes the next number (R31, R33). -/
theorem numbersFit_append {r : Record} (h : NumbersFit s) : NumbersFit (append r s) := by
  rw [numbersFit_iff] at h ⊢
  intro up
  obtain ⟨numbers, next, sent⟩ := h (by simpa using up)
  simp only [append_rq, append_ts, List.length_append, List.length_singleton, closedTail_length]
  refine ⟨consecutive_concat (consecutive_congr (closedTail_seq _) numbers) (by rw [closedTail_length]; exact next), ?_,
    by omega⟩
  rw [next, BitVec.add_assoc, BitVec.ofNat_add (s.rq.records.length + 1) 1]
  rfl


/-- A write that is recorded has a reservation, or there is a slot for it (R44). -/
theorem Keeps.recordWrite {c : Capture} (h : Keeps s t) (there : t.cu = some c)
    (room : c.reservation = true ∨ t.slotFree = true) : Keeps s (recordWrite c t) := by
  refine h.trans ?_
  have fresh : (writeRecord c t).state = .opened → (writeRecord c t).kind = .write ∧ (writeRecord c t).waiter = false := by
    simp only [writeRecord]
    split
    · simp
    · rename_i closed
      simp only [not_or] at closed
      simpa using closed.2.1
  have put : ∃ y x, Machine.recordWrite c t = (((append (writeRecord c t) t).setDrawn (t.drawn + 1)).setMp x).setCu y
      ∧ y.any (·.reservation) = false := by
    unfold Machine.recordWrite
    dsimp only
    split
    · exact ⟨none, _, rfl, rfl⟩
    · exact ⟨_, t.mp, rfl, rfl⟩
  obtain ⟨y, x, put, free⟩ := put
  rw [put]
  refine ⟨⟨openOnlyAtTail_append fresh, fun bound => ?_⟩, fun _ fit => ?_⟩
  · have taken : t.rq.records.length + 1 + (if t.re.reservation then 1 else 0) ≤ 64 := by
      simp only [State.slotFree, Config.replaySlots, decide_eq_true_eq] at room
      simp only [State.slotsTaken, there, Option.any_some] at room bound
      rcases room with reserved | slot
      · simp only [reserved, if_true] at bound
        omega
      · omega
    simp only [State.slotsTaken, State.setCu_rq, State.setMp_rq, State.setDrawn_rq, append_rq, List.length_append,
      closedTail_length, List.length_singleton, State.setCu_cu, free, State.setCu_re, State.setMp_re, State.setDrawn_re,
      append_re]
    simpa using taken
  · exact numbersFit_append fit

theorem Keeps.mirrorWrite {c : Capture} (h : Keeps s t) (there : t.cu = some c) : Keeps s (mirrorWrite c t) :=
  .ite (fun _ => h.merge.completeUpstream) fun _ =>
    .ite (fun room => h.recordWrite there (by simpa using room)) fun _ => h.bump.markCapture

theorem keeps_localWriteDone {c : Capture} {r : Result} (there : s.cu = some c) : Keeps s (localWriteDone c r s) := by
  have same := Keeps.refl s
  cases r with
  | ok =>
    simp only [localWriteDone, localWriteOk]
    split
    · exact same.completeUpstream
    · exact same.markCapture
    · exact same.markCapture
    all_goals exact .ite (fun _ => same.markCapture) fun _ => same.mirrorWrite there
  | err =>
    simp only [localWriteDone, localWriteErr]
    split
    · exact same.completeUpstream
    all_goals exact same.raise.bump.markCapture

theorem keeps_confirmExpired {c : Capture} : Keeps s (confirmExpired c s) := by
  have dropped : Keeps s (dropWaiter s) := keeps_setRq
    (fun tail => tailOpen_map (f := fun r => { r with waiter := false }) (fun _ => id) (fun _ => ⟨rfl, fun _ => rfl⟩) tail)
    (by simp) rfl
  unfold confirmExpired
  dsimp only
  split
  · exact dropped.completeUpstream
  all_goals exact dropped.markCapture

end Sys2Proof.Proofs.WriteCapture
end

section
/-! PROOF. The family 02_write_capture_and_the_replay_queue, part 4: what session ends, acknowledgements and the lanes
keep of the queue (O8, O10). -/

namespace Sys2Proof.Proofs.WriteCapture

open Sys2Proof Sys2Proof.Machine Sys2Proof.Proofs.MirrorWindows

variable {s t u : State} {w : WinId}

/-! ### The session end (R39, R67, R68) -/

theorem bounded_discardRecords : Bounded s (discardRecords s) where
  tail _ := tailOpen_of_closed (l := []) (by simp)
  slots room := by
    rw [slotsTaken_eq] at room ⊢
    have same : reservations (discardRecords s) = reservations s := rfl
    rw [same, discardRecords_rq, List.length_nil]
    omega

/-- Outside UP no number is looked at (R31). -/
theorem Bounded.down (h : Bounded s t) (down : t.lc.state ≠ .up) : Keeps s t :=
  ⟨h, fun _ _ => numbersFit_of_down down⟩

/-- A session end leaves no record, and the link is not UP (R39, R67). -/
theorem keeps_leave {cause : DownCause} {peer : Option DownCause} :
    Keeps s (endWindows (discardAll (leaveUp cause peer s))) := by
  have down : (leaveUp cause peer s).lc.state ≠ .up := by
    rw [leaveUp_lc]
    dsimp only
    split <;> decide
  have left : Keeps s (leaveUp cause peer s) :=
    SameQueue.idle ⟨by simp, by simp, by simp, by simp, fun up => absurd up down⟩ (by simp) (by simp)
  refine (endWindows_discardAll_induction (P := fun t => Keeps s t ∧ t.lc.state ≠ .up) (fun t w k h => ?_)
    (fun t w _ h => ?_) (fun t h => ?_) ⟨left, down⟩).1
  · exact ⟨h.1.markSegment, by simpa using h.2⟩
  · exact ⟨h.1.enterWindow, by simpa using h.2⟩
  · exact ⟨h.1.trans (bounded_discardRecords.down h.2), h.2⟩

theorem Keeps.failFences {before : List Fence} (h : Keeps s t) : Keeps s (failFences before t) :=
  h.only (by simp [Only.refl])

theorem Keeps.endApply (h : Keeps s t) : Keeps s (endApply t) := h.setAu.takeHead

theorem Keeps.endScheduler (h : Keeps s t) : Keeps s (endScheduler t) := h.setTs rfl rfl

theorem Keeps.sessionEnd {cause : DownCause} {peer : Option DownCause} (h : Keeps s t) : Keeps s (sessionEnd cause peer t) :=
  .ite (fun _ => (h.trans keeps_leave).endScheduler.failFences.endCapture.endApply.settle.acceptOffer) fun _ => h

/-! ### Fences (R142, R145) -/

theorem Keeps.issueFence {source : FenceSource} (h : Keeps s t) : Keeps s (issueFence source t) := by
  unfold Machine.issueFence
  dsimp only
  split
  · exact h.closeTail.only (by simp [Only.refl])
  · exact h.closeTail.only (by simp [Only.refl])

theorem Keeps.completeRun (a : Seq) (list : List Fence) (h : Keeps s t) : Keeps s (completeRun a list t) := by
  induction list generalizing t with
  | nil => exact h
  | cons f rest ih =>
    unfold Machine.completeRun
    refine .ite (fun _ => ih ?_) fun _ => h
    have delivered : Keeps s (deliver f.source (some f.ticket) true f.degraded
        (t.setFu { t.fu with fences := t.fu.fences.tail })) := h.only (by simp [Only.refl])
    unfold completeFront issueWaiting
    split
    · exact delivered.issueFence
    all_goals exact delivered

/-! ### Acknowledgements (R81 to R85) -/

/-- Head removal up to a number that has been sent and is not yet acknowledged (R38, R82). -/
theorem keeps_ackProgress {a : Seq} (progress : later a s.ts.ackedThrough = true) (sent : later a s.ts.sentHigh = false) :
    Keeps s (ackProgress a s) := by
  have rq : (ackProgress a s).rq.records = s.rq.records.filter (fun r => later r.seq a) := rfl
  have fewer : (s.rq.records.filter (fun r => later r.seq a)).length ≤ s.rq.records.length := List.length_filter_le ..
  refine ⟨⟨fun tail => ?_, fun room => ?_⟩, fun room fit => ?_⟩
  · exact tailOpen_filter _ tail
  · rw [slotsTaken_eq] at room ⊢
    have same : reservations (ackProgress a s) = reservations s := rfl
    rw [same, rq]
    omega
  · have short : s.rq.records.length ≤ 64 := by
      rw [slotsTaken_eq] at room
      omega
    rw [numbersFit_iff] at fit ⊢
    intro up
    obtain ⟨numbers, next, high⟩ := fit up
    have inside : (a - s.ts.ackedThrough).toNat ≤ (s.ts.sentHigh - s.ts.ackedThrough).toNat := by
      have := a.isLt
      have := s.ts.ackedThrough.isLt
      have := s.ts.sentHigh.isLt
      simp only [later, Bool.and_eq_true, Bool.and_eq_false_iff, decide_eq_true_eq, decide_eq_false_iff_not,
        BitVec.toNat_sub] at progress sent high ⊢
      omega
    obtain ⟨rest, length⟩ := consecutive_removeHead numbers (by omega) (inside.trans high)
    rw [rq]
    refine ⟨rest, ?_, ?_⟩
    · change s.rq.nextSeq = a + _
      rw [next]
      have := a.isLt
      have := s.ts.ackedThrough.isLt
      apply BitVec.eq_of_toNat_eq
      simp only [BitVec.toNat_add, BitVec.toNat_sub, BitVec.toNat_ofNat] at length ⊢
      omega
    · change (s.ts.sentHigh - a).toNat ≤ _
      have := a.isLt
      have := s.ts.ackedThrough.isLt
      have := s.ts.sentHigh.isLt
      simp only [BitVec.toNat_sub] at inside length high ⊢
      omega

theorem Keeps.ackLimit {limit : Seq} (h : Keeps s t) : Keeps s (ackLimit limit t) :=
  .ite (fun _ => h.setTs rfl rfl) fun _ => h

theorem Keeps.ackReject {reason : Option RejectReason} {window : Option WinId} (h : Keeps s t) :
    Keeps s (ackReject reason window t) := by
  unfold Machine.ackReject
  split
  · exact h
  · split
    · exact h.bump
    · unfold rejectWindow
      split
      · exact h.bump
      · exact h.bump
      all_goals exact h.bump.enterWindow

theorem Keeps.handOn {a : Seq} {waiter : Bool} (h : Keeps s t) : Keeps s (handOn a waiter t) := by
  have fenced : Keeps s (completeFences a t) := h.completeRun a _
  have confirmed : Keeps s (if waiter then confirmDone (completeFences a t) else completeFences a t) := by
    refine .ite (fun _ => ?_) fun _ => fenced
    unfold confirmDone
    split
    · exact fenced
    · exact .ite (fun _ => fenced.completeUpstream) fun _ => fenced
  refine Keeps.acceptOffer (Keeps.advanceEngine ?_)
  unfold compareSegment
  split
  · exact confirmed.recheckSlot
  · refine .ite (fun drains => confirmed.recheckSlot.trans ?_) fun _ => confirmed.recheckSlot
    exact keeps_of_engine (by simp [Only.refl]) (engineKept_segmentDone drains.1)

theorem Keeps.ackArrives {a limit q : Seq} {reason : Byte} (h : Keeps s t) : Keeps s (ackArrives a limit reason q t) := by
  unfold Machine.ackArrives
  refine .ite (fun consistent => ?_) fun _ => h.sessionEnd
  have sent : later a t.ts.sentHigh = false := by
    simp only [State.ackConsistent, Bool.and_eq_true, Bool.not_eq_true'] at consistent
    exact consistent.1
  unfold applyAck
  dsimp only
  split
  next progress => exact (h.trans (keeps_ackProgress progress sent)).ackLimit.ackReject.handOn
  next => exact h.ackLimit.ackReject

theorem Keeps.startRound {e : Seq} (h : Keeps s t) : Keeps s (startRound e t) := by
  refine .ite (fun _ => ?_) fun _ => h.sessionEnd
  have pointed : Keeps s (t.setRq { t.rq with sendPtr := e }) := h.trans (keeps_setRq id rfl rfl)
  exact (pointed.setTs (by rfl) (by rfl)).bump

theorem Keeps.nakArrives {e : Seq} (h : Keeps s t) : Keeps s (nakArrives e t) := by
  unfold Machine.nakArrives
  refine .ite (fun _ => h.bump.sessionEnd) fun _ => .ite (fun _ => h.bump) fun _ => .ite (fun _ => ?_) fun _ =>
    h.bump.startRound
  exact .ite (fun _ => h.bump.trans (keeps_setRq id rfl rfl)) fun _ => h.bump

/-! ### The lanes (R77, R78, R80) -/

theorem Keeps.beginFrame {f : Frame} (h : Keeps s t) : Keeps s (beginFrame f t) :=
  .ite (fun _ => h.setLanes.setLc (by exact id)) fun _ => h.setLanes

/-- A record that is transmitted is one of the queue (R37, R77). -/
theorem mem_of_sendable {r : Record} (h : s.sendable = some r) : r ∈ s.rq.records := by
  unfold State.sendable at h
  split at h
  · exact List.mem_of_find?_eq_some ((Option.filter_eq_some_iff.1 h).1 : r ∈ s.pointed)
  · cases h

/-- A record that has been transmitted is SENT, and the highest number sent is that of a queued record (R75, R78). -/
theorem keeps_sent {r : Record} (there : r ∈ s.rq.records) {timer : Option Nat} :
    Keeps s ((s.setRq { s.rq with records := markSent r.seq s.rq.records, sendPtr := r.seq + 1 }).setTs
      { s.ts with sentHigh := if later r.seq s.ts.sentHigh then r.seq else s.ts.sentHigh, ackTimer := timer }) := by
  have marked : Keeps s (s.setRq { s.rq with records := markSent r.seq s.rq.records, sendPtr := r.seq + 1 }) := by
    refine keeps_setRq (fun tail => tailOpen_map (fun q opened => ?_) (fun q => ?_) tail) ?_ rfl
    · split at opened
      · cases opened
      · exact opened
    · split <;> exact ⟨rfl, id⟩
    · unfold markSent
      rw [List.map_map]
      refine List.map_congr_left fun q _ => ?_
      simp only [Function.comp]
      split <;> rfl
  refine ⟨⟨marked.tail, marked.slots⟩, fun room fit => ?_⟩
  have short : s.rq.records.length ≤ 64 := by
    rw [slotsTaken_eq] at room
    omega
  have before := numbersFit_iff.1 fit
  have after := numbersFit_iff.1 (marked.numbers room fit)
  rw [numbersFit_iff]
  intro up
  obtain ⟨numbers, _, _⟩ := before up
  obtain ⟨numbers', next, high⟩ := after up
  refine ⟨numbers', next, ?_⟩
  simp only [State.setTs_ts, State.setTs_rq]
  split
  · have range := (consecutive_mem numbers there (by omega)).2
    simpa [markSent] using range
  · exact high

theorem Keeps.beginOwed (h : Keeps s t) : Keeps s (beginOwed t) := by
  have popped : Keeps s (popOwed t) := h.setLanes
  unfold Machine.beginOwed
  split
  next => exact h
  next through limit reject _ =>
    have begun : Keeps s (advertise limit (Machine.beginFrame (.ack t.lc.epoch through limit reject) (popOwed t))) :=
      .ite (fun _ => popped.beginFrame.setAu) fun _ => popped.beginFrame
    exact .ite (fun _ => begun.setAu.takeHead) fun _ => begun
  next => exact popped.beginFrame.bump
  next => exact popped.beginFrame.setLc (by exact id)
  next => exact popped.beginFrame

theorem Keeps.beginType {f : FrameType} (h : Keeps s t) : Keeps s (beginType f t) := by
  have data : Keeps s (beginData t) := by
    unfold beginData
    split
    next => exact h
    next r sendable => exact Keeps.beginFrame (h.trans (keeps_sent (mem_of_sendable sendable)))
  have goodbye : Keeps s (beginGoodbye t) := by
    unfold beginGoodbye
    split
    · exact h
    · exact h.setLanes.beginFrame
  cases f with
  | data => exact data
  | ack | nak | hello | helloAck => exact h.beginOwed
  | goodbye => exact goodbye

/-! ### The link (R52 to R62) -/

theorem Keeps.enterTraining (h : Keeps s t) : Keeps s (enterTraining t) := h.setLanes.setLc (by simp)

theorem Keeps.enterDown (h : Keeps s t) : Keeps s (enterDown t) :=
  Keeps.setLanes (h.setLc (x := { t.lc with state := .down, training := none, helloInterval := none, holdoff := _ }) (by simp))

theorem Keeps.enterFault (h : Keeps s t) : Keeps s (enterFault t) :=
  (Keeps.setLanes (h.setLc (x := { t.lc with
      state := .fault, training := none, holdoff := none, helloInterval := none, liveness := none, keepalive := none,
      proposal := 0, attempts := 0, peerHello := none }) (by simp))).raise

theorem Keeps.oweHello (h : Keeps s t) : Keeps s (oweHello t) := .ite (fun _ => h.owe) fun _ => h

theorem Keeps.retryHello (h : Keeps s t) : Keeps s (retryHello t) := .ite (fun _ => h.oweHello) fun _ => h.enterDown

theorem Keeps.linkOff (h : Keeps s t) : Keeps s (linkOff t) :=
  Keeps.setLanes (h.setLc (x := { t.lc with
      state := .off, training := none, holdoff := none, helloInterval := none, liveness := none, keepalive := none,
      proposal := 0, attempts := 0, peerHello := none }) (by simp))

end Sys2Proof.Proofs.WriteCapture
end

section
/-! PROOF. The family 02_write_capture_and_the_replay_queue, part 5: what the maintenance commands keep of the queue
(O8, O10). -/

namespace Sys2Proof.Proofs.WriteCapture

open Sys2Proof Sys2Proof.Machine Sys2Proof.Proofs.MirrorWindows

variable {s t u : State} {w : WinId}

/-! ### What an event keeps of the queue's laws -/

/-- An event that keeps the laws of the queue, given those of the engine and of the link being down. -/
structure EventKeeps (s t : State) : Prop where
  tail : OpenOnlyAtTail s → OpenOnlyAtTail t
  slots : SlotsFit s → t.slotsTaken ≤ 64
  numbers : SlotsFit s → QuietWhileDown s → NumbersFit s → NumbersFit t

theorem Keeps.event (h : Keeps s t) : EventKeeps s t :=
  ⟨h.tail, fun fit => h.slots fit.1, fun fit _ => h.numbers fit.1⟩

theorem EventKeeps.refl (s : State) : EventKeeps s s := (Keeps.refl s).event

theorem EventKeeps.then (h : EventKeeps s t) (h' : Keeps t u) : EventKeeps s u :=
  ⟨h'.tail ∘ h.tail, fun fit => h'.slots (h.slots fit), fun fit quiet numbers =>
    h'.numbers (h.slots fit) (h.numbers fit quiet numbers)⟩

theorem EventKeeps.ite {c : Prop} [Decidable c] {a b : State} (ha : c → EventKeeps s a) (hb : ¬c → EventKeeps s b) :
    EventKeeps s (if c then a else b) := by
  split
  · exact ha ‹_›
  · exact hb ‹_›

/-! ### The window commands (R8 to R21) -/

theorem keeps_setOut {x : Vector OutWindow 8} : Keeps s (s.setOut x) := keeps_of_only (by simp [Only.refl])

theorem keeps_setEntry {x : InWindow} : Keeps s (s.setEntry w x) := keeps_of_only (by simp [Only.refl])

theorem keeps_onWindow {b : Byte} {run : WinId → State → Execution} (h : ∀ w, Keeps s (run w s).2.2) :
    Keeps s (onWindow b run s).2.2 := by
  unfold onWindow
  split
  · exact .refl s
  · exact h _

theorem keeps_winConfig {base length mapOffset policy autoResync} :
    Keeps s (winConfigAt base length mapOffset policy autoResync w s).2.2 := by
  unfold winConfigAt
  dsimp only
  repeat' split
  · exact .refl s
  · exact keeps_setOut
  · exact .refl s
  · exact .refl s

theorem keeps_winEnable {mode} : Keeps s (winEnableAt mode w s).2.2 := by
  have enabled (full : Bool) : Keeps s (enableState w (enableMarks full w s)) := by
    refine keeps_of_engine ?_ engineKept_enable
    unfold enableState enableMarks
    repeat' split
    all_goals simp [Only.refl]
  unfold winEnableAt
  dsimp only
  repeat' split
  · exact .refl s
  · exact .refl s
  · exact .refl s
  · exact (enabled _).settle
  · exact .refl s

theorem keeps_winDisable : Keeps s (winDisableAt w s).2.2 := by
  have off : Keeps s (turnOff w s) := keeps_of_engine (by simp [Only.refl]) engineKept_turnOff
  unfold winDisableAt
  split
  · exact (off.only (u := releaseCapture w (turnOff w s)) (by simp [Only.refl])).settle
  · exact .refl s

theorem keeps_winResync : Keeps s (winResyncAt w s).2.2 := by
  unfold winResyncAt
  repeat' split
  · exact .refl s
  · exact .refl s
  · exact .refl s
  · exact .refl s
  · exact (Keeps.refl s).toResync.settle
  · exact .refl s

theorem keeps_winHalt : Keeps s (winHaltAt w s).2.2 := by
  unfold winHaltAt
  split
  · exact .refl s
  · exact .refl s
  all_goals exact (Keeps.refl s).enterWindow.settle

theorem keeps_winResume : Keeps s (winResumeAt w s).2.2 := by
  unfold winResumeAt
  split
  · exact (Keeps.ite (fun _ => (Keeps.refl s).enterWindow.toResync) fun _ => (Keeps.refl s).enterWindow).settle
  all_goals exact .refl s

theorem keeps_winMark {first count} : Keeps s (winMarkAt first count w s).2.2 := by
  have marked (n m : Nat) : Keeps s (markRun w n m s) := (Keeps.refl s).foldl (fun u _ => (Keeps.refl u).markSegment) _
  unfold winMarkAt
  dsimp only
  split
  · split
    · exact .refl s
    · exact (Keeps.ite (fun _ => (marked _ _).toResync) fun _ => marked _ _).settle
  · exact .refl s

/-! ### The inbound entries (R12 to R14) -/

theorem keeps_inConfig {base length guard} : Keeps s (inConfigAt base length guard w s).2.2 := by
  unfold inConfigAt
  dsimp only
  repeat' split
  · exact .refl s
  · exact .refl s
  · exact keeps_setEntry
  · exact .refl s

theorem keeps_inEnable : Keeps s (inEnableAt w s).2.2 := by
  unfold inEnableAt
  dsimp only
  repeat' split
  · exact .refl s
  · exact .refl s
  · exact keeps_setEntry

/-! ### The link, fences and the words (R55, R56, R147, R148, R185 to R192, R203) -/

theorem keeps_linkEnable : Keeps s (linkEnableRun s).2.2 := by
  have enabled : Keeps s (s.setLc { s.lc with enabled := true }) := (Keeps.refl s).setLc (by exact id)
  exact .ite (fun _ => enabled.enterTraining) fun _ => enabled

theorem keeps_linkDisable : Keeps s (linkDisableRun s).2.2 := by
  have disabled : Keeps s (s.setLc { s.lc with enabled := false }) := (Keeps.refl s).setLc (by exact id)
  unfold linkDisableRun
  dsimp only
  split
  · exact disabled.sessionEnd
  · exact disabled
  all_goals exact disabled.linkOff

theorem keeps_fence {tag} : Keeps s (fenceRun tag s).2.2 := by
  unfold fenceRun
  split
  · exact .refl s
  · exact (Keeps.refl s).issueFence

theorem keeps_fenceLog {clear} : Keeps s (fenceLogRun clear s).2.2 := by
  unfold fenceLogRun
  split
  · exact .refl s
  · exact .ite (fun _ => (Keeps.refl s).setFu) fun _ => .refl s

theorem keeps_alertEnable {ew el ef ei} : Keeps s (alertEnableRun ew el ef ei s).2.2 := by
  unfold alertEnableRun
  split
  · exact keeps_of_only (by simp [accept, Only.refl])
  · exact .refl s

theorem keeps_causeRead {category} : Keeps s (causeReadRun category s).2.2 := by
  unfold causeReadRun
  split <;> exact .refl s

theorem keeps_causeClear {category list} : Keeps s (causeClearRun category list s).2.2 := by
  unfold causeClearRun
  repeat' split
  · exact .refl s
  · exact keeps_of_only (by simp [accept, Only.refl])
  · exact .refl s

theorem keeps_countersRead {clear} : Keeps s (countersReadRun clear s).2.2 := by
  unfold countersReadRun
  split
  · exact .refl s
  · exact keeps_of_only (by simp [Only.refl])

theorem keeps_getParam {word} : Keeps s (getParamRun word s).2.2 := by
  unfold getParamRun
  split <;> exact .refl s

theorem keeps_setParam {word value} : Keeps s (setParamRun word value s).2.2 := by
  unfold setParamRun
  repeat' split
  · exact .refl s
  · exact keeps_of_only (by simp [accept, Only.refl])
  · exact .refl s
  · exact .refl s

/-! ### RESET_MIRROR (R207) -/

theorem Bounded.resetBlocks (h : Bounded s t) : Bounded s (resetBlocks t) := by
  have cleared : Keeps t (resetEngine (clearWindows (releaseAny t))) :=
    keeps_of_engine (by simp [Only.refl]) engineKept_clear
  have discarded : Bounded s (discardRecords (resetEngine (clearWindows (releaseAny t)))) :=
    (h.trans cleared.toBounded).trans bounded_discardRecords
  have others : Keeps (discardRecords (resetEngine (clearWindows (releaseAny t)))) (Machine.resetBlocks t) :=
    (Keeps.refl _).endCapture.recheckSlot.only (by simp [Machine.resetBlocks, Only.refl])
  exact discarded.trans others.toBounded

/-- After a session end or outside a session the link is not UP (R67). -/
theorem sessionEnd_not_up {cause : DownCause} {peer : Option DownCause} : (sessionEnd cause peer s).lc.state ≠ .up := by
  by_cases up : s.lc.state = .up
  · rw [sessionEnd_lc up, leaveUp_lc]
    dsimp only
    split <;> decide
  · rwa [sessionEnd_down up]

theorem keeps_resetMirror : Keeps s (resetMirrorRun s).2.2 := by
  have blocks : Bounded s (resetBlocks s) := (Keeps.refl s).toBounded.resetBlocks
  have ended : Keeps (resetBlocks s) (sessionEnd .resetMirror none (resetBlocks s)) := (Keeps.refl _).sessionEnd
  exact Keeps.acceptOffer ((blocks.trans ended.toBounded).down sessionEnd_not_up)

/-! ### The maintenance port (R194 to R199) -/

theorem keeps_runRequest (r : Request) : Keeps s (runRequest r s).2.2 := by
  cases r with
  | winConfig => exact keeps_onWindow fun _ => keeps_winConfig
  | winEnable => exact keeps_onWindow fun _ => keeps_winEnable
  | winDisable => exact keeps_onWindow fun _ => keeps_winDisable
  | winResync => exact keeps_onWindow fun _ => keeps_winResync
  | winHalt => exact keeps_onWindow fun _ => keeps_winHalt
  | winResume => exact keeps_onWindow fun _ => keeps_winResume
  | winMark => exact keeps_onWindow fun _ => keeps_winMark
  | winStatus => exact keeps_onWindow fun _ => .refl s
  | inConfig => exact keeps_onWindow fun _ => keeps_inConfig
  | inEnable => exact keeps_onWindow fun _ => keeps_inEnable
  | inDisable => exact keeps_onWindow fun _ => keeps_setEntry
  | inStatus => exact keeps_onWindow fun _ => .refl s
  | linkEnable => exact keeps_linkEnable
  | linkDisable => exact keeps_linkDisable
  | linkStatus => exact .refl s
  | fence => exact keeps_fence
  | fenceLog => exact keeps_fenceLog
  | alertRead => exact keeps_of_only (by simp [runRequest, alertReadRun, Only.refl])
  | alertEnable => exact keeps_alertEnable
  | causeRead => exact keeps_causeRead
  | causeClear => exact keeps_causeClear
  | countersRead => exact keeps_countersRead
  | getParam => exact keeps_getParam
  | setParam => exact keeps_setParam
  | resetMirror => exact keeps_resetMirror

theorem Keeps.setPort {x : Port} (h : Keeps s t) : Keeps s (t.setPort x) := h.only (by simp [Only.refl])

theorem Keeps.setPins {x : Pins} (h : Keeps s t) : Keeps s (t.setPins x) := h.only (by simp [Only.refl])

theorem keeps_completeRequest {r : Request} {crc : Byte} : Keeps s (completeRequest r crc s) :=
  .ite (fun _ => (keeps_runRequest r).setPort.setPins) fun _ => (Keeps.refl s).setPort.setPins

theorem keeps_onRequest {r : Request} {crc : Byte} : Keeps s (onRequest r crc s) :=
  .ite (fun _ => keeps_completeRequest) fun _ => .refl s

theorem keeps_portByte {b : Byte} : Keeps s (portByte b s) := by
  have same := Keeps.refl s
  unfold portByte
  refine .ite (fun _ => same) fun _ => ?_
  split
  next => exact same
  next => exact same.setPins
  next =>
    unfold receiveByte
    split
    next => exact .ite (fun _ => same.setPort.setPins) fun _ => same.setPort.setPins
    next =>
      split
      · exact keeps_completeRequest
      · exact same.setPort.setPins
  next => exact same.setPins
  next => exact same.setPort.setPins
  next => exact same.setPins

end Sys2Proof.Proofs.WriteCapture
end

section
/-! PROOF. The family 02_write_capture_and_the_replay_queue, part 6: what every row of the table keeps of the queue (O8,
O10). -/

namespace Sys2Proof.Proofs.WriteCapture

open Sys2Proof Sys2Proof.Machine Sys2Proof.Proofs.MirrorWindows

variable {s t u : State} {w : WinId}

/-! ### The rows of the memory ports (R154 to R163, R44 to R48) -/

theorem keeps_offerUpstream {x : Txn} : Keeps s (offerUpstream x s) := by
  unfold offerUpstream
  split
  · exact .refl s
  · exact (Keeps.refl s).setMp.acceptOffer

theorem keeps_localWriteEnds {c : Capture} {r : Result} (there : s.cu = some c) :
    Keeps s (acceptOffer (releasePort (settle (localWriteDone c r s)))) :=
  (keeps_localWriteDone there).settle.releasePort.acceptOffer

theorem keeps_stallExpired {c : Capture} (there : s.cu = some c) :
    Keeps s (advanceEngine (captureUnrecorded c (bump .stallExpiries s))) :=
  ((Keeps.refl s).bump.captureUnrecorded (by simp [there])).advanceEngine

/-- The result of an apply write at the apply unit (R109, R118). -/
theorem keeps_applyWriteDone {r : Result} : Keeps s (applyWriteDone r s) := by
  have same := Keeps.refl s
  have finished (e : ApplyEntry) (t : State) (h : Keeps s t) : Keeps s (finishEntry e t) :=
    h.only (by simp [Only.refl])
  unfold applyWriteDone
  refine .ite (fun _ => same.setAu) fun _ => ?_
  unfold finishWrite
  split
  · exact same
  · refine .ite (fun _ => ?_) fun _ => same
    cases r with
    | ok => exact (finished _ s same).takeHead
    | err => exact (finished _ (applyError s) same.raise.bump).takeHead

/-! ### The rows of the link (R57 to R69) -/

theorem keeps_lanesLost : Keeps s (lanesLost s) := by
  unfold lanesLost
  split
  · exact (Keeps.refl s).enterDown
  · exact (Keeps.refl s).sessionEnd
  all_goals exact .refl s

theorem keeps_helloArrives {proposal nodeId : Byte} {limit : Seq} : Keeps s (helloArrives proposal nodeId limit s) := by
  have same := Keeps.refl s
  unfold helloArrives
  split
  · exact .ite (fun _ => same.enterFault) fun _ => Keeps.owe (same.setLc (by exact id))
  · unfold helloInUp
    split
    · exact same
    · exact .ite (fun _ => same.owe) fun _ => same
  all_goals exact same

/-- The session starts on the empty queue that DOWN left (R31, R39, R63). -/
theorem eventKeeps_startSession {agreed : Epoch} {limit : Seq} (down : s.lc.state ≠ .up) :
    EventKeeps s (startSession limit (linkUp agreed s)) := by
  have records : (startSession limit (linkUp agreed s)).rq.records = s.rq.records := by simp [startSession, linkUp]
  have cu : (startSession limit (linkUp agreed s)).cu = s.cu := by simp [startSession, linkUp]
  have re : (startSession limit (linkUp agreed s)).re = s.re := by simp [startSession, linkUp]
  have next : (startSession limit (linkUp agreed s)).rq.nextSeq = 0 := rfl
  have ts : (startSession limit (linkUp agreed s)).ts =
    { ackedThrough := Config.seqNone, sendLimit := limit, sentHigh := Config.seqNone, rounds := 0, ackTimer := none } := rfl
  refine ⟨fun law => ?_, fun fit => ?_, fun _ quiet _ => ?_⟩
  · rwa [openOnlyAtTail_iff, records]
  · rw [State.slotsTaken, records, cu, re]
    exact fit.1
  · rw [numbersFit_iff, records, next, ts, (quiet.1 down).1]
    exact fun _ => ⟨trivial, by simp [Config.seqNone], by simp⟩

theorem eventKeeps_reachUp {agreed : Epoch} {limit : Seq} (down : s.lc.state ≠ .up) :
    EventKeeps s (reachUp agreed limit s) := by
  have resumed (u : State) : Keeps u (resumeWindows u) :=
    (Keeps.refl u).foldl (fun u w => .ite (fun _ => (Keeps.refl u).toResync) fun _ => .refl u) _
  exact (eventKeeps_startSession down).then (resumed _).settle

theorem eventKeeps_helloAck {agreed nodeId : Byte} (hello : s.lc.state = .hello) :
    EventKeeps s (helloAckInHello agreed nodeId s) := by
  have same := Keeps.refl s
  unfold helloAckInHello
  refine .ite (fun _ => same.enterFault.event) fun _ => ?_
  split
  · exact .refl s
  · refine .ite (fun _ => eventKeeps_reachUp (by simp [hello])) fun _ => ?_
    exact (Keeps.retryHello (same.setLc (by exact id))).event

theorem keeps_inSession {epoch : Byte} {handle : State → State} (h : ∀ u, Keeps u (handle u)) :
    Keeps s (inSession epoch handle s) := by
  have restarted : Keeps s (restartLiveness s) := (Keeps.refl s).setLc (by exact id)
  exact .ite (fun _ => .ite (fun _ => restarted.trans (h _)) fun _ => (Keeps.refl s).bump) fun _ => .refl s

/-! ### The rows of the receive checker (R99 to R105) -/

theorem Keeps.oweAck (h : Keeps s t) : Keeps s (oweAck t) := h.only (by simp [Only.refl])

theorem Keeps.oweNak (h : Keeps s t) : Keeps s (oweNak t) := h.only (by simp [Only.refl])

theorem keeps_badCrc : Keeps s (badCrcArrives s) := by
  unfold badCrcArrives
  split
  · exact (Keeps.refl s).bump.raise.oweNak
  · exact (Keeps.refl s).bump.raise
  all_goals exact .refl s

theorem keeps_dataArrives {seq : Seq} {kind window : BitVec 4} {line : BitVec 24} {mask : Mask} {data : LineData} :
    Keeps s (dataArrives seq kind window line mask data s) := by
  have same := Keeps.refl s
  unfold dataArrives
  split
  · exact same.sessionEnd
  · unfold judgeData
    refine .ite (fun _ => .ite (fun _ => same.bump.raise) fun _ => ?_) fun _ =>
      .ite (fun _ => same.bump.oweNak) fun _ => same.bump.oweAck
    exact same.setAu.setRc.takeHead

/-! ### The rows of the fence line and of pin reset (R150 to R152, R167, R168) -/

theorem Keeps.requestLine (h : Keeps s t) : Keeps s (requestLine t) := by
  unfold Machine.requestLine
  split
  · exact .ite (fun _ => h.issueFence) fun _ => h.setFu
  all_goals exact h

theorem Keeps.releaseLine (h : Keeps s t) : Keeps s (releaseLine t) := by
  unfold Machine.releaseLine
  split
  · exact h
  all_goals exact h.setFu

/-- Pin reset leaves no record, no reservation and no session (R167). -/
theorem eventKeeps_pinReset {pending drawn pins nodeId offer} :
    EventKeeps s (State.pinReset pending drawn pins nodeId offer) where
  tail _ := tailOpen_of_closed (l := []) (by simp)
  slots _ := by simp [State.slotsTaken, State.pinReset]
  numbers _ _ _ := numbersFit_of_down (by simp [State.pinReset, LinkController.reset])

theorem eventKeeps_releaseReset {nodeId : BitVec 4} : EventKeeps s (releaseReset nodeId s) :=
  .ite (fun _ => eventKeeps_pinReset) fun _ => eventKeeps_pinReset.then (Keeps.refl _).setPort.setPins

/-! ### The completion of a copy read (R130, R131, R136) -/

theorem keeps_endRead : Keeps s (endRead s) := SameQueue.idle ⟨rfl, rfl, rfl, rfl, id⟩ id nofun

/-- The COPY record takes the slot that the engine has reserved for it, and the next number (R31, R32, R130). -/
theorem eventKeeps_copyOk {g : Segment} {bytes : LineData} (owner : s.portClient = some .cp) :
    EventKeeps s (copyOk g bytes s) where
  tail h := openOnlyAtTail_append (r := copyRecord g bytes s) (by simp [copyRecord]) h
  slots fit := by
    have reserved : s.re.reservation = true := by
      have law := readLaw_iff.2 fit.2
      exact law.reserved.2 (by simp [law.granted owner])
    have room := fit.1
    simp only [reserved, if_true] at room
    change (closedTail s.rq.records ++ [copyRecord g bytes s]).length + (if s.cu.any (·.reservation) then 1 else 0) + 0 ≤ 64
    rw [List.length_append, closedTail_length, List.length_singleton]
    omega
  numbers _ _ fit := numbersFit_append (r := copyRecord g bytes s) fit

theorem eventKeeps_copyReadDone {r : Result} {bytes : LineData} (owner : s.portClient = some .cp) :
    EventKeeps s (copyReadDone r bytes s) := by
  unfold copyReadDone
  split
  · exact keeps_endRead.event
  · refine .ite (fun _ => keeps_endRead.event) fun _ => ?_
    cases r with
    | ok => exact eventKeeps_copyOk owner
    | err => exact keeps_endRead.raise.bump.enterWindow.event

/-! ### Every row of the table -/

theorem eventKeeps_next (h : EventKeeps s u) (e : (.next u : Step) = .next t) : EventKeeps s t := by
  cases e
  exact h

theorem exec_keepsQueue {c : Instr} (e : exec c s = .next t) : EventKeeps s t := by
  have same := Keeps.refl s
  have row {u : State} (e : (.next u : Step) = .next t) (h : Keeps s u) : EventKeeps s t := eventKeeps_next h.event e
  cases c with
  | winConfig | winEnable | winDisable | winResync | winHalt | winResume | winMark | winStatus | inConfig | inEnable
  | inDisable | inStatus | linkEnable | linkDisable | linkStatus | fence | fenceLog | alertRead | alertEnable
  | causeRead | causeClear | countersRead | getParam | setParam | resetMirror => exact row e keeps_onRequest
  | unknownCommand code =>
    refine row (u := refuseCommand code s) e ?_
    unfold refuseCommand
    split
    · exact .ite (fun _ => same) fun _ => same.setPort.setPins
    · exact same
  | mcsNFall =>
    refine row (u := chipSelect s) e (.ite (fun _ => same.setPins) fun _ => ?_)
    split
    · exact same.setPins.setPort.setPins
    · exact same.setPins
  | mcsNRise => exact row (u := chipRelease s) e (.ite (fun _ => same.setPins) fun _ => same.setPins.setPort)
  | resetNAssert => exact eventKeeps_next (.ite (fun _ => same.event) fun _ => eventKeeps_pinReset) e
  | resetNRelease =>
    refine eventKeeps_next (.ite (fun _ => ?_) fun _ => same.event) e
    exact eventKeeps_releaseReset.then (Keeps.refl _).acceptOffer
  | fenceReqRise =>
    exact row e (.ite (fun _ => same) fun _ => .ite (fun _ => same.setPins) fun _ => same.setPins.requestLine)
  | fenceReqFall =>
    exact row e (.ite (fun _ => .ite (fun _ => same.setPins) fun _ => same.setPins.releaseLine) fun _ => same)
  | upstreamOffer => exact row e keeps_offerUpstream
  | passThroughComplete => exact row e (.ite (fun _ => same.completeUpstream.releasePort.acceptOffer) fun _ => same)
  | localWriteComplete =>
    refine row e ?_
    split
    next => exact same
    next c there => exact .ite (fun _ => keeps_localWriteEnds there) fun _ => same
  | stallTimerExpiry =>
    refine row e ?_
    split
    next => exact same
    next c there => exact .ite (fun _ => keeps_stallExpired there) fun _ => same
  | confirmTimerExpiry =>
    refine row e ?_
    split
    next => exact same
    next => exact .ite (fun _ => keeps_confirmExpired.settle.acceptOffer) fun _ => same
  | mergeTimerExpiry => exact row e (.ite (fun _ => same.closeTail) fun _ => same)
  | aligned => exact row e (.ite (fun _ => Keeps.oweHello (same.setLc (by simp))) fun _ => same)
  | lost => exact row e keeps_lanesLost
  | trainingTimerExpiry => exact row e (.ite (fun _ => same.enterDown) fun _ => same)
  | holdoffTimerExpiry => exact row e (.ite (fun _ => same.enterTraining) fun _ => same)
  | helloIntervalExpiry =>
    exact row e (.ite (fun _ => Keeps.retryHello (same.setLc (by exact id))) fun _ => same)
  | helloReceived => exact row e keeps_helloArrives
  | helloAckReceived => exact eventKeeps_next (.ite (fun hello => eventKeeps_helloAck hello) fun _ => same.event) e
  | livenessExpiry => exact row e (.ite (fun _ => same.sessionEnd) fun _ => same)
  | keepaliveExpiry => exact row e (.ite (fun _ => Keeps.oweAck (same.setLc (by exact id))) fun _ => same)
  | goodbyeReceived =>
    exact row e (.ite (fun _ => .ite (fun _ => same.sessionEnd) fun _ => same.bump) fun _ => same)
  | undefinedFrame => exact row e (.ite (fun _ => same) fun _ => same.sessionEnd)
  | badCrcFrame => exact row e keeps_badCrc
  | dataReceived => exact row e (keeps_inSession fun _ => keeps_dataArrives)
  | ackReceived => exact row e (keeps_inSession fun u => (Keeps.refl u).ackArrives)
  | nakReceived => exact row e (keeps_inSession fun u => (Keeps.refl u).nakArrives)
  | ackTimerExpiry => exact row e (.ite (fun _ => same.startRound) fun _ => same)
  | transmitData | transmitAck | transmitNak | transmitHello | transmitHelloAck | transmitGoodbye =>
    exact row e (.ite (fun _ => same.beginType) fun _ => same)
  | frameEnd =>
    refine row e (.ite (fun _ => ?_) fun _ => same)
    unfold takeNext
    split
    · exact same.setLanes
    · exact same.setLanes.beginType
  | applyWriteComplete => exact row e (.ite (fun _ => keeps_applyWriteDone.releasePort) fun _ => same)
  | ackDelayExpiry => exact row e (.ite (fun _ => same.oweAck) fun _ => same)
  | copyReadComplete =>
    refine eventKeeps_next (.ite (fun owner => ?_) fun _ => same.event) e
    exact (eventKeeps_copyReadDone owner).then (Keeps.refl _).settle.releasePort
  | maintenanceByteComplete => exact row e keeps_portByte

/-- The front of the queue of commands is none of the laws' business. -/
theorem step_keepsQueue (e : step s = .next t) : EventKeeps s t := by
  unfold step at e
  split at e
  · exact eventKeeps_next (.refl s) e
  · have ran := exec_keepsQueue e
    exact ⟨ran.tail, ran.slots, ran.numbers⟩

/-! ### The statements -/

/-- Settles O8. -/
theorem stepKeepsQueue : Obligations.StepKeepsQueue :=
  ⟨fun _ _ law e => (step_keepsQueue e).tail law,
    fun _ _ fit e => ⟨(step_keepsQueue e).slots fit, step_keeps_engineFits fit.2 e⟩⟩

/-- Settles O10. -/
theorem stepKeepsNumbers : Obligations.StepKeepsNumbers := fun _ _ ⟨fit, quiet, numbers⟩ e =>
  ⟨stepKeepsQueue.2 _ _ fit e, stepKeepsDownState.2 _ _ quiet e, (step_keepsQueue e).numbers fit quiet numbers⟩

end Sys2Proof.Proofs.WriteCapture
end

section
/-! PROOF. The family 02_write_capture_and_the_replay_queue, part 7: the slot check of a captured write (O33). -/

namespace Sys2Proof.Proofs.WriteCapture

open Sys2Proof Sys2Proof.Machine Sys2Proof.Proofs.MirrorWindows

variable {s t u : State} {w : WinId} {c : Capture} {line : LineIndex} {x : Txn}

/-! ### The slot check by its outcomes (R42, R43) -/

/-- The last record is the OPEN record of a write to this line (R35). -/
def TailTakes (s : State) (w : WinId) (line : LineIndex) : Prop :=
  ∃ r, s.rq.records.getLast? = some r ∧ r.state = .opened ∧ r.kind = .write ∧ r.window = w ∧ r.line = line

theorem tailTakes_iff : s.tailTakes w line = true ↔ TailTakes s w line := by
  unfold State.tailTakes TailTakes
  split
  next none => simp [none]
  next r last => simp [last]

theorem slotFree_iff : s.slotFree = true
    ↔ s.rq.records.length + (if s.cu.any (·.reservation) then 1 else 0) + (if s.re.reservation then 1 else 0) < 64 := by
  rw [State.slotFree, decide_eq_true_iff]
  rfl

theorem forward_held {held : UpTxn} (h : s.mp.txn = some held) : forward s = presentFg held.txn s := by
  simp [forward, h]

theorem slotCheck_off (off : s.captureState c = .off) : slotCheck c s = forward (s.setCu none) := by
  simp only [slotCheck, off]

theorem slotCheck_unmirrored (state : s.captureState c = .degraded ∨ s.captureState c = .halted) :
    slotCheck c s = captureUnrecorded c s := by
  rcases state with state | state <;> simp only [slotCheck, state]

theorem slotCheck_mirrored (state : s.captureState c = .active ∨ s.captureState c = .resync) :
    slotCheck c s = slotCheckMirrored c s := by
  rcases state with state | state <;> simp only [slotCheck, state]

theorem slotCheck_free (state : s.captureState c = .active ∨ s.captureState c = .resync) (free : s.slotFree = true) :
    slotCheck c s = forward (s.setCu (some
      { c with phase := .localWrite, path := some .record, reservation := true, stallTimer := none })) := by
  rw [slotCheck_mirrored state, slotCheckMirrored, if_pos free]

theorem slotCheck_takes (state : s.captureState c = .active ∨ s.captureState c = .resync) (full : s.slotFree = false)
    (takes : TailTakes s c.window c.line) :
    slotCheck c s = forward (s.setCu (some
      { c with phase := .localWrite, path := some .mergeOnly, stallTimer := none })) := by
  rw [slotCheck_mirrored state, slotCheckMirrored, if_neg (by simp [full]), if_pos (tailTakes_iff.2 takes)]

theorem slotCheck_waits (state : s.captureState c = .active ∨ s.captureState c = .resync) (full : s.slotFree = false)
    (refuses : ¬TailTakes s c.window c.line) :
    slotCheck c s = s.setCu (some
      { c with phase := .slotWait, stallTimer := some (c.stallTimer.getD s.params.stallLimit.toNat) }) := by
  rw [slotCheck_mirrored state, slotCheckMirrored, if_neg (by simp [full]), if_neg (by rwa [tailTakes_iff])]

/-! ### The foreground's request on a free port (R172, R174) -/

theorem presentFg_busy (busy : s.da.port.isSome = true) : presentFg x s = s.setDa { s.da with fg := some x } := by
  rw [presentFg, grant_busy (by exact busy)]

/-- With no other request waiting the foreground's is granted. -/
theorem grant_fg (free : s.da.port = none) (asks : s.da.fg = some x) (ap : s.da.ap = none) (cp : s.da.cp = none) :
    grant s = s.setDa { s.da with port := some ⟨.fg, x⟩, fg := none, copyFloor := 0 } := by
  have chosen : s.da.choose s.au.promotion = some .fg := by simp [Arbiter.choose, asks, ap, cp]
  unfold grant
  simp only [free, chosen, Arbiter.request, asks]
  simp only [readGranted, Arbiter.granted, Arbiter.floorRaised, cp, Option.isSome_none, Bool.false_eq_true, if_false]

theorem presentFg_alone (free : s.da.port = none) (ap : s.da.ap = none) (cp : s.da.cp = none) :
    presentFg x s = s.setDa { s.da with port := some ⟨.fg, x⟩, fg := none, copyFloor := 0 } := by
  rw [presentFg, grant_fg (by exact free) rfl (by exact ap) (by exact cp)]
  rfl

/-! ### The class of a captured write (R157, R158) -/

theorem not_guarded {a : Nat} (outside : ∀ i : WinId, ¬(s.inb[i].enabled = true ∧ s.inb[i].guard = true
    ∧ lineInExtent a s.inb[i].base.toNat s.inb[i].length.toNat = true)) : s.guarded a = false := by
  refine Bool.eq_false_iff.2 fun found => ?_
  obtain ⟨e, there, holds⟩ := List.any_eq_true.1 found
  obtain ⟨i, inside, rfl⟩ := Vector.mem_iff_getElem.1 (Vector.mem_toList_iff.1 there)
  simp only [Bool.and_eq_true] at holds
  exact outside ⟨i, inside⟩ ⟨holds.1.1, holds.1.2, holds.2⟩

theorem windowAt_only {a : Nat} (only : ∀ v : WinId, s.out[v].state ≠ .off
    ∧ lineInExtent a s.out[v].base.toNat (s.out[v].length * s.segBytes) = true ↔ v = w) : s.windowAt a = some w := by
  have extent (v : WinId) : s.extentSize (s.win v) = s.out[v].length * s.segBytes := by
    rw [State.extentSize, win_eq]; rfl
  have found (v : WinId) : ((s.win v).isEnabled && lineInExtent a (s.win v).base.toNat (s.extentSize (s.win v))) = true
      ↔ v = w := by
    rw [Bool.and_eq_true, enabled_iff, extent]
    exact only v
  cases located : s.windowAt a with
  | none => exact absurd ((found w).2 rfl) (List.find?_eq_none.1 located w (List.mem_finRange w))
  | some v =>
    obtain ⟨enabled, inside⟩ := windowAt_spec located
    rw [(only v).1 ⟨enabled, by rwa [extent] at inside⟩]

theorem captureState_captured {y : Txn} (taken : s.mp.txn = some ⟨y, .capture w line, false⟩) :
    s.captureState c = s.out[c.window].state := captureState_on (by simp [taken])

/-- A write that goes on from the slot check is the capture unit's and asks for the port, in a state that was idle before
it. -/
theorem onward_forward {v : State} (taken : v.mp.txn.map (·.txn) = some x) (da : v.da = s.da) (re : v.re = s.re) :
    (forward (v.setCu (some c))).cu = some c ∧ ForegroundAsked x s (forward (v.setCu (some c)))
      ∧ (s.da.port.isSome = true → (forward (v.setCu (some c))).da = { s.da with fg := some x }
        ∧ (forward (v.setCu (some c))).re = s.re)
      ∧ (s.da.port = none → s.da.ap = none → s.da.cp = none →
        (forward (v.setCu (some c))).da = { s.da with port := some ⟨.fg, x⟩, fg := none, copyFloor := 0 }
          ∧ (forward (v.setCu (some c))).re = s.re) := by
  obtain ⟨held, there, rfl⟩ := Option.map_eq_some_iff.1 taken
  rw [forward_held (s := v.setCu (some c)) there]
  refine ⟨by simp, presentFg_asked fun _ => by simp [da], fun busy => ?_, fun free ap cp => ?_⟩
  · rw [presentFg_busy (by simpa [da] using busy)]
    simp [da, re]
  · rw [presentFg_alone (by simpa [da] using free) (by simpa [da] using ap) (by simpa [da] using cp)]
    simp [da, re]

/-- The state in which a captured write makes its slot check. -/
def captureTaken (x : Txn) (w : WinId) (line : LineIndex) (s : State) : State :=
  s.setMp { txn := some ⟨x, .capture w line, false⟩, offer := none, completions := [] }

theorem exec_upstreamOffer_captured (txn : s.mp.txn = none) (offer : s.mp.offer = none)
    (running : s.pins.resetAsserted = false) (formed : wellFormedTxn x = true)
    (classified : classify s x = .capture w line) :
    exec (.upstreamOffer x) s = .next (slotCheck (Capture.start w line) (captureTaken x w line s)) := by
  have offered : acceptOffer (s.setMp { s.mp with offer := some x, completions := [] })
      = acceptTxn x (s.setMp { s.mp with offer := some x, completions := [] }) := by
    simp [acceptOffer, running, txn]
  have same : classify (s.setMp { s.mp with offer := some x, completions := [] }) x = .capture w line := classified
  simp only [exec, execUpstreamOffer, offerUpstream, offer, offered, acceptTxn, formed, if_true, same]
  rfl

theorem slotFree_captureTaken (idle : s.cu = none) : (captureTaken x w line s).slotFree = true
    ↔ s.rq.records.length + (if s.re.reservation then 1 else 0) < 64 := by
  have none : (captureTaken x w line s).cu = none := idle
  rw [slotFree_iff, none]
  rfl

/-- Settles O33. -/
theorem upstreamOfferCaptured : Obligations.UpstreamOfferCaptured := by
  intro x mask data w s txn offer idle running formed write bytes outside only line held mergeable fresh onward
  have classified : classify s x = .capture w line := by
    simp only [classify, write, not_guarded outside, windowAt_only only, if_neg bytes, Bool.false_eq_true, if_false]
    rfl
  have state : (captureTaken x w line s).captureState (Capture.start w line) = s.out[w].state := captureState_captured rfl
  have slot : (captureTaken x w line s).slotFree = true ↔ held < 64 := slotFree_captureTaken idle
  have full (h : 64 ≤ held) : (captureTaken x w line s).slotFree = false :=
    Bool.eq_false_iff.2 fun free => absurd (slot.1 free) (Nat.not_lt.2 h)
  have onwards (c : Capture) : onward (forward ((captureTaken x w line s).setCu (some c))) c := onward_forward rfl rfl rfl
  refine ⟨_, exec_upstreamOffer_captured txn offer running formed classified, by simp [captureTaken, Only.refl],
    by simp [captureTaken], fun low => ?_, fun high => ⟨fun free => ?_, fun many takes => ?_, fun many refuses => ?_⟩⟩
  · rw [slotCheck_unmirrored (state.symm ▸ low)]
    exact onwards _
  · rw [slotCheck_free (state.symm ▸ high) (slot.2 free)]
    exact onwards _
  · rw [slotCheck_takes (c := Capture.start w line) (state.symm ▸ high) (full many) takes]
    exact onwards _
  · rw [slotCheck_waits (c := Capture.start w line) (state.symm ▸ high) (full many) refuses]
    exact ⟨rfl, rfl, rfl⟩

end Sys2Proof.Proofs.WriteCapture
end

section
/-! PROOF. The family 02_write_capture_and_the_replay_queue, part 8: the recheck of a write that waits for a slot (O60). -/

namespace Sys2Proof.Proofs.WriteCapture

open Sys2Proof Sys2Proof.Machine Sys2Proof.Proofs.MirrorWindows

variable {s t u : State} {w : WinId} {c : Capture} {x : Txn} {held : UpTxn} {a limit q : Seq} {g : Segment}

/-! ### The recheck (R43) -/

theorem recheckSlot_waits (there : s.cu = some c) (waits : c.phase = .slotWait) : recheckSlot s = slotCheck c s := by
  simp only [recheckSlot, there, waits, if_true]

/-- Outside SLOT_WAIT there is no slot to wait for. -/
theorem recheckSlot_rests (h : s.cu = none ∨ ∃ c, s.cu = some c ∧ c.phase ≠ .slotWait) : recheckSlot s = s := by
  rcases h with none | ⟨c, there, other⟩
  · exact recheckSlot_none none
  · simp only [recheckSlot, there, if_neg other]

theorem captureState_held (taken : s.mp.txn = some held) (kept : held.released = false) :
    s.captureState c = s.out[c.window].state := captureState_on (by simp [taken, kept])

/-- A capture that goes on waiting keeps its stall timer, and with it the state as it was. -/
theorem slotWait_stays (there : s.cu = some c) (waits : c.phase = .slotWait) (runs : c.stallTimer.isSome = true) :
    s.setCu (some { c with phase := .slotWait, stallTimer := some (c.stallTimer.getD s.params.stallLimit.toNat) }) = s := by
  obtain ⟨n, timer⟩ := Option.isSome_iff_exists.1 runs
  have same : ({ c with phase := .slotWait, stallTimer := some (c.stallTimer.getD s.params.stallLimit.toNat) } : Capture)
      = c := by
    rw [timer, ← waits, Option.getD_some, ← timer]
  rw [same, ← there]
  rfl

theorem slotFree_held (there : s.cu = some c) : s.slotFree = true
    ↔ s.rq.records.length + (if c.reservation then 1 else 0) + (if s.re.reservation then 1 else 0) < 64 := by
  rw [slotFree_iff, there]
  rfl

/-- O60, the recheck by its outcomes. -/
theorem recheckSlot_outcomes (there : s.cu = some c) (waits : c.phase = .slotWait) (taken : s.mp.txn = some held) :
    let onward (path : CapturePath) (reservation : Bool) : State :=
      grant
        { s with
          cu := some
            { c with
              phase := .localWrite, path := some path, reservation := c.reservation || reservation
              stallTimer := none }
          da := { s.da with fg := some held.txn } }
    let slots := s.rq.records.length + (if c.reservation then 1 else 0) + if s.re.reservation then 1 else 0
    let mirrored := held.released = false ∧ (s.out[c.window].state = .active ∨ s.out[c.window].state = .resync)
    (held.released = true ∨ s.out[c.window].state = .off →
        recheckSlot s = grant { s with cu := none, da := { s.da with fg := some held.txn } })
      ∧ (held.released = false → s.out[c.window].state = .degraded ∨ s.out[c.window].state = .halted →
        recheckSlot s = onward .noRecord false)
      ∧ (mirrored → slots < 64 → recheckSlot s = onward .record true)
      ∧ (mirrored → 64 ≤ slots → TailTakes s c.window c.line → recheckSlot s = onward .mergeOnly false)
      ∧ (mirrored → 64 ≤ slots → ¬TailTakes s c.window c.line → c.stallTimer.isSome = true → recheckSlot s = s) := by
  intro onward slots mirrored
  have check := recheckSlot_waits there waits
  have forwards (y : Option Capture) :
      forward (s.setCu y) = grant { s with cu := y, da := { s.da with fg := some held.txn } } := forward_held taken
  have full (h : 64 ≤ slots) : s.slotFree = false :=
    Bool.eq_false_iff.2 fun free => absurd ((slotFree_held there).1 free) (Nat.not_lt.2 h)
  refine ⟨fun off => ?_, fun kept low => ?_, fun ⟨kept, high⟩ free => ?_, fun ⟨kept, high⟩ many takes => ?_,
    fun ⟨kept, high⟩ many refuses runs => ?_⟩
  · have none : s.captureState c = .off := captureState_off (off.imp_left fun released => by simp [taken, released])
    rw [check, slotCheck_off none, forwards]
  all_goals have state : s.captureState c = s.out[c.window].state := captureState_held taken kept
  · rw [check, slotCheck_unmirrored (state.symm ▸ low), captureUnrecorded, forwards]
    simp only [onward, Bool.or_false]
  · rw [check, slotCheck_free (state.symm ▸ high) ((slotFree_held there).2 free), forwards]
    simp only [onward, Bool.or_true]
  · rw [check, slotCheck_takes (state.symm ▸ high) (full many) takes, forwards]
    simp only [onward, Bool.or_false]
  · rw [check, slotCheck_waits (state.symm ▸ high) (full many) refuses, slotWait_stays there waits runs]

/-! ### The foreground's request behind the engine (R85, R132) -/

/-- `ForegroundAsked` looks at the port and the foreground's request. -/
theorem foregroundAsked_congr (port : u.da.port = t.da.port) (fg : u.da.fg = t.da.fg) (h : ForegroundAsked x s t) :
    ForegroundAsked x s u := by
  unfold ForegroundAsked at h ⊢
  rwa [port, fg]

theorem enterWindow_da_fg {new : WinState} {halt : Option HaltCause} : (enterWindow w new halt s).da.fg = s.da.fg := by
  rcases enterWindow_engine (s := s) (w := w) (new := new) (halt := halt) with ⟨_, _, da⟩ | ⟨_, da, _⟩
  · rw [da]
    rcases abandon_da (s := s) with same | withdrawn
    · rw [same]
    · rw [withdrawn]
  · rw [da]

theorem compareSegment_da : (compareSegment a s).da.port = s.da.port ∧ (compareSegment a s).da.fg = s.da.fg := by
  obtain same | ⟨g, _, done⟩ := compareSegment_cases (a := a) (s := s)
  · rw [same]
    exact ⟨rfl, rfl⟩
  · rw [done, segmentDone]
    dsimp only
    repeat' split
    · exact ⟨rfl, rfl⟩
    · rw [enterWindow_da_port, enterWindow_da_fg, clearSegment_da]
      exact ⟨rfl, rfl⟩
    · rw [clearSegment_da]
      exact ⟨rfl, rfl⟩

/-- A write that goes on asks for the port also once the engine has compared its segment and selected. -/
theorem forward_engine_asked {v : State} (taken : v.mp.txn = some held)
    (busy : s.da.port.isSome = true → v.da.port = s.da.port) :
    ForegroundAsked held.txn s (advanceEngine (compareSegment a (forward v))) := by
  refine ForegroundAsked.advanceEngine (foregroundAsked_congr compareSegment_da.1 compareSegment_da.2 ?_)
  rw [forward_held taken]
  exact presentFg_asked busy

theorem engine_only : Only [.out, .da, .dm, .re, .fu, .al] s (advanceEngine (compareSegment a s)) := by simp [Only.refl]

theorem acceptOffer_busy (busy : s.mp.txn = some held) : acceptOffer s = s := by
  unfold acceptOffer
  split
  · rfl
  · simp [busy]

/-! ### An ACK that frees a slot (R43, R85) -/

/-- Fences that complete remove no record; the issue of a waiting one can close the tail (R142, R145, R150). -/
theorem completeRun_length (l : List Fence) (s : State) : (completeRun a l s).rq.records.length = s.rq.records.length := by
  have issued (source : FenceSource) (t : State) : (issueFence source t).rq.records.length = t.rq.records.length := by
    unfold issueFence
    dsimp only
    split
    · have told : (deliver source none false t.someBehind (closeTail t)).rq = (closeTail t).rq := by simp
      simp [closeTail, closedTail_length]
    · simp [closeTail, closedTail_length]
  induction l generalizing s with
  | nil => rfl
  | cons f rest ih =>
    unfold completeRun
    split
    · rw [ih]
      unfold completeFront issueWaiting
      split
      · rw [issued]; simp
      all_goals simp
    · rfl

/-- An ACK that leaves room for a record lets a waiting write go on with one. -/
theorem ack_frees_slot (up : s.lc.state = .up) (sent : later a s.ts.sentHigh = false)
    (progress : later a s.ts.ackedThrough = true) (there : s.cu = some c) (waits : c.phase = .slotWait)
    (unreserved : c.reservation = false) (taken : s.mp.txn = some held) (kept : held.released = false)
    (high : s.out[c.window].state = .active ∨ s.out[c.window].state = .resync)
    (room : (s.rq.records.filter (fun r => later r.seq a)).length + (if s.re.reservation then 1 else 0) < 64) :
    ∃ t, exec (.ackReceived s.lc.epoch a limit 0 q) s = .next t
      ∧ t.cu = some { c with phase := .localWrite, path := some .record, reservation := true, stallTimer := none }
      ∧ ForegroundAsked held.txn s t := by
  have run := exec_ack_plain (limit := limit) (q := q) up sent progress
  generalize fenced : completeFences a (acked a limit s) = f at run
  have frame : Only [.rq, .lc, .ts, .fu, .al] s f := by
    rw [← fenced]
    simpa using acked_only.mono (by decide)
  have cu : f.cu = some c := (frame .cu (by decide)).trans there
  have txn : f.mp.txn = some held := (congrArg MemoryPath.txn (frame .mp (by decide))).trans taken
  have length : f.rq.records.length = (s.rq.records.filter (fun r => later r.seq a)).length := by
    rw [← fenced, completeFences, completeRun_length, acked_rq]
  have state : f.captureState c = s.out[c.window].state :=
    (captureState_held txn kept).trans (state_of_out (frame .out (by decide)) c.window)
  have free : f.slotFree = true := by
    rw [slotFree_held cu, length, unreserved, frame .re (by decide)]
    simpa using room
  have rechecked : compared a (s.waiterRemoved a) (acked a limit s) = forward (f.setCu (some
      { c with phase := .localWrite, path := some .record, reservation := true, stallTimer := none })) := by
    have confirm : (if s.waiterRemoved a then confirmDone (completeFences a (acked a limit s))
        else completeFences a (acked a limit s)) = f := by
      have none : confirmDone f = f := by simp [confirmDone, cu, waits]
      rw [fenced, none, ite_self]
    rw [compared, confirm, recheckSlot_waits cu waits, slotCheck_free (state.symm ▸ high) free]
  rw [handOn_eq, rechecked] at run
  rw [acceptOffer_busy (by rw [engine_only .mp (by decide)]; simpa using txn)] at run
  refine ⟨_, run, ?_, forward_engine_asked txn fun _ => congrArg Arbiter.port (frame .da (by decide))⟩
  rw [engine_only .cu (by decide)]
  simp

/-! ### A WIN_HALT of its window (R20, R43) -/

theorem winHalt_unrecorded {b : Byte} (h : s.holds (.winHalt b)) (own : b.toNat = c.window.val) (there : s.cu = some c)
    (waits : c.phase = .slotWait) (taken : s.mp.txn = some held) (kept : held.released = false)
    (high : s.out[c.window].state = .active ∨ s.out[c.window].state = .resync) :
    ∃ t, exec (.winHalt b (Request.crc (.winHalt b))) s = .next t
      ∧ t.cu = some { c with phase := .localWrite, path := some .noRecord, stallTimer := none }
      ∧ ForegroundAsked held.txn s t := by
  have ran : runRequest (.winHalt b) s = accept (settle (enterWindow c.window .halted (some .command) s)) := by
    change onWindow b winHaltAt s = _
    rw [onWindow_run own]
    refine winHaltAt_enabled ?_ ?_ <;> (rw [win_eq]; rcases high with state | state <;> rw [state] <;> decide)
  have halted : (enterWindow c.window .halted (some .command) s).captureState c = .halted := by
    rw [captureState_on (by simp [taken, kept]), enterWindow_win, if_pos rfl]
  have rechecked : recheckSlot (enterWindow c.window .halted (some .command) s)
      = captureUnrecorded c (enterWindow c.window .halted (some .command) s) := by
    rw [recheckSlot_waits (by simpa using there) waits, slotCheck_unmirrored (.inr halted)]
  refine ⟨_, exec_accepted h ran, ?_, ?_⟩
  · simp [State.answered, settle, rechecked, captureUnrecorded]
  · refine foregroundAsked_congr (t := settle (enterWindow c.window .halted (some .command) s)) (by simp [State.answered])
      (by simp [State.answered]) ?_
    unfold settle
    rw [rechecked, captureUnrecorded, forward_held (held := held) (by simpa using taken)]
    refine (presentFg_asked fun _ => ?_).advanceEngine
    rw [State.setCu_da, enterWindow_da_port]

/-- Settles O60. -/
theorem slotWaitResult : Obligations.SlotWaitResult :=
  ⟨fun _ => recheckSlot_rests, fun _ _ _ there waits taken => recheckSlot_outcomes there waits taken,
    fun _ _ _ _ _ _ up sent progress there waits unreserved taken kept high room =>
      ack_frees_slot up sent progress there waits unreserved taken kept high room,
    fun _ _ _ _ h own there waits taken kept high => winHalt_unrecorded h own there waits taken kept high⟩

end Sys2Proof.Proofs.WriteCapture
end

section
/-! PROOF. The family 02_write_capture_and_the_replay_queue, part 9: captured writes that are recorded (O36, O37). -/

namespace Sys2Proof.Proofs.WriteCapture

open Sys2Proof Sys2Proof.Machine Sys2Proof.Proofs.MirrorWindows

variable {s t u : State} {w : WinId} {c : Capture} {x : Txn} {held : UpTxn} {mask : Mask} {data : LineData}

/-! ### The end of a recorded write's access (R128, R173) -/

/-- Behind a busy port a started read leaves the arbiter as it was but for the copy request (R128, R172). -/
theorem startRead_da (busy : s.da.port.isSome = true) : (startRead s).da = { s.da with cp := (startRead s).da.cp } := by
  unfold startRead presentCp
  repeat' split
  · rfl
  · rw [grant_busy (by exact busy)]
    rfl
  · rfl

theorem selectSegment_read : (selectSegment s).re.read = s.re.read := by
  obtain same | idle | ⟨w, k, _, _, taken⟩ := selectSegment_cases (s := s)
  · rw [same]
  · rw [idle]; rfl
  · rw [taken]; rfl

/-- The end of a captured write's access where no write waits for a slot: the engine is served, the port freed and granted,
and an offer that stands is accepted (R154, R173). -/
theorem localWriteEnds_rests (rests : recheckSlot u = u) (da : u.da = s.da) (read : u.re.read = s.re.read)
    (busy : s.da.port.isSome = true) :
    LocalWriteEnds s ((settle u).setDa { (settle u).da with port := none }) (acceptOffer (releasePort (settle u))) := by
  have selected : (selectSegment u).da = s.da ∧ (selectSegment u).re.read = s.re.read :=
    ⟨by simpa using da, selectSegment_read.trans read⟩
  have settled : settle u = startRead (selectSegment u) := by
    unfold settle advanceEngine
    rw [rests]
  rw [settled]
  generalize selectSegment u = y at selected
  obtain ⟨same, pending⟩ := selected
  have held : y.da.port.isSome = true := by rw [same]; exact busy
  have arbiter := startRead_da held
  obtain ⟨fixed, served⟩ := engineServed_startRead held
  rw [pending, same] at served
  refine ⟨?_, ⟨startRead_fixed_setDa fixed, served⟩, offerTaken_acceptOffer⟩
  change { (startRead y).da with port := none } = _
  rw [arbiter, same]
  rfl

/-! ### The write in hand (R34, R44, R153) -/

theorem writeInHand_write (taken : s.mp.txn = some held) (write : held.txn.access = .write mask data) :
    s.writeInHand = (effectiveMask held.txn mask, data) := by
  simp only [State.writeInHand, taken, write]

theorem mergeLine_get {old new : LineData} (k : Fin 64) :
    (mergeLine mask old new)[k] = if mask.getLsbD k then new[k] else old[k] := by
  simp [mergeLine]

/-- A write that completed with OK in a mirrored window, with a path to a record and in its session, is recorded (R44). -/
theorem localWriteDone_mirrored (state : s.captureState c = .active ∨ s.captureState c = .resync)
    (session : c.sessionEnded = false) (path : c.path ≠ some .noRecord) : localWriteDone c .ok s = mirrorWrite c s := by
  have kept : ¬(c.sessionEnded = true ∨ c.path = some .noRecord) := by simp [session, path]
  rcases state with state | state <;> simp only [localWriteDone, localWriteOk, state, if_neg kept]

/-! ### A write that is appended (R33, R34, R44, R45) -/

theorem mirrorWrite_records (refuses : ¬TailTakes s c.window c.line) (room : c.reservation = true ∨ s.slotFree = true) :
    mirrorWrite c s = recordWrite c s := by
  rw [mirrorWrite, if_neg (by rwa [tailTakes_iff]), if_pos (by simpa using room)]

theorem recordWrite_only : Only [.drawn, .rq, .cu, .mp] s (recordWrite c s) := by
  unfold recordWrite
  split <;> simp [Only.refl]

theorem recordWrite_rq : (recordWrite c s).rq = (append (writeRecord c s) s).rq := by
  unfold recordWrite
  dsimp only
  split <;> rfl

theorem recordWrite_posted (posted : (s.win c.window).policy ≠ .confirmed) :
    (recordWrite c s).cu = none
      ∧ (recordWrite c s).mp = { s.mp with txn := none, completions := s.mp.completions ++ [⟨.ok, none⟩] } := by
  unfold recordWrite
  split
  · exact ⟨rfl, rfl⟩
  · next confirmed => exact absurd confirmed posted

theorem recordWrite_confirmed (confirmed : (s.win c.window).policy = .confirmed) :
    (recordWrite c s).mp = s.mp ∧ (recordWrite c s).cu = some
      { c with phase := .confirmWait, reservation := false, confirmTimer := some s.params.confirmTimeout.toNat } := by
  unfold recordWrite
  rw [confirmed]
  exact ⟨rfl, rfl⟩

/-- A recorded write has completed or waits for its confirmation, not for a slot (R45). -/
theorem recordWrite_rests : recheckSlot (recordWrite c s) = recordWrite c s := by
  refine recheckSlot_rests ?_
  by_cases confirmed : (s.win c.window).policy = .confirmed
  · exact .inr ⟨_, (recordWrite_confirmed confirmed).2, by simp⟩
  · exact .inl (recordWrite_posted confirmed).1

/-- What follows an event outside SLOT_WAIT leaves the capture unit. -/
theorem settle_cu_rests (rests : recheckSlot u = u) : (settle u).cu = u.cu := by
  unfold settle
  rw [rests]
  simp

theorem writeRecord_opened : (writeRecord c s).state = .opened
    ↔ ¬((s.win c.window).policy = .confirmed) ∧ s.writeInHand.1 ≠ fullMask ∧ s.params.mergeTime ≠ 0 := by
  simp only [writeRecord, decide_eq_true_eq]
  split
  next closed => simp only [reduceCtorEq, false_iff]; tauto
  next opened => simp only [true_iff]; tauto

theorem writeRecord_ready (closed : ¬(writeRecord c s).state = .opened) : (writeRecord c s).state = .ready := by
  simp only [writeRecord] at closed ⊢
  split
  · rfl
  · next opened => rw [if_neg opened] at closed; exact absurd rfl closed

/-- Settles O36. -/
theorem capturedWriteAppended : Obligations.CapturedWriteAppended := by
  intro c u x mask data s there port phase session path taken kept write mirrored room refuses confirmed open'
  have state : s.captureState c = s.out[c.window].state := captureState_held taken kept
  have slot : c.reservation = true ∨ s.slotFree = true := by
    cases reserved : c.reservation with
    | true => exact .inl rfl
    | false => exact .inr ((slotFree_held there).2 (by simpa [reserved] using room))
  have run := exec_localWriteComplete (r := .ok) there port phase
  rw [localWriteDone_mirrored (state.symm ▸ mirrored) session path,
    mirrorWrite_records (fun ⟨r, last, takes⟩ => refuses r last takes) slot] at run
  have ends := localWriteEnds_rests (s := s) (recordWrite_rests (c := c) (s := s)) (recordWrite_only .da (by decide))
    (congrArg ResyncEngine.read (recordWrite_only .re (by decide))) (by simp [port])
  have frame : Only [.drawn, .rq, .cu, .mp, .da, .re, .out] s
      ((settle (recordWrite c s)).setDa { (settle (recordWrite c s)).da with port := none }) := by
    have recorded : Only [.drawn, .rq, .cu, .mp, .da, .re, .out] s (recordWrite c s) := recordWrite_only.mono (by decide)
    simpa using recorded
  have hand := writeInHand_write taken write
  have opened : (writeRecord c s).state = .opened ↔ open' := by rw [writeRecord_opened, hand]; rfl
  have rq : ((settle (recordWrite c s)).setDa { (settle (recordWrite c s)).da with port := none }).rq
      = (append (writeRecord c s) s).rq := by simp [recordWrite_rq]
  refine ⟨_, _, { writeRecord c s with seq := s.rq.nextSeq }, run, ends, frame, by rw [rq]; rfl, by rw [rq]; rfl,
    by rw [rq]; rfl, rfl, rfl, rfl, rfl, congrArg Prod.fst hand, rfl, decide_eq_true_iff, fun opens => ⟨opened.2 opens, ?_⟩,
    fun closes => ?_, fun k set => ?_, fun policy => ?_, fun policy => ?_⟩
  · rw [rq, append_rq]
    exact if_pos (opened.2 opens)
  · have closed := mt opened.1 closes
    refine ⟨writeRecord_ready closed, ?_⟩
    rw [rq, append_rq]
    exact if_neg closed
  · refine (mergeLine_get k).trans ((if_pos set).trans ?_)
    rw [hand]
  · obtain ⟨mp, cu⟩ := recordWrite_confirmed policy
    exact ⟨settle_mp.trans mp, (settle_cu_rests recordWrite_rests).trans cu⟩
  · obtain ⟨cu, mp⟩ := recordWrite_posted policy
    exact ⟨(settle_cu_rests recordWrite_rests).trans cu, settle_mp.trans mp⟩

/-! ### A write that merges into the tail (R35, R36, R44) -/

theorem mirrorWrite_merges (takes : TailTakes s c.window c.line) :
    mirrorWrite c s = completeUpstream .ok none (merge s.writeInHand.1 s.writeInHand.2 s) := by
  rw [mirrorWrite, if_pos (tailTakes_iff.2 takes)]

/-- Settles O37. -/
theorem capturedWriteMerged : Obligations.CapturedWriteMerged := by
  intro c u x mask data older r s there port phase session path taken kept write mirrored records opened kind window line m
    closes
  have state : s.captureState c = s.out[c.window].state := captureState_held taken kept
  have run := exec_localWriteComplete (r := .ok) there port phase
  rw [localWriteDone_mirrored (state.symm ▸ mirrored) session path,
    mirrorWrite_merges ⟨r, by simp [records], opened, kind, window, line⟩, writeInHand_write taken write] at run
  generalize merged : merge m data s = b at run
  have frame : Only [.rq] s b := merged ▸ merge_only
  have da : b.da = s.da := frame .da (by decide)
  have re : b.re = s.re := frame .re (by decide)
  have mp : b.mp = s.mp := frame .mp (by decide)
  have rq : b.rq = _ := merged ▸ merge_rq m data records
  have closing : (decide (r.mask ||| m = fullMask) || decide (s.params.mergeTime = 0)) = true ↔ closes := by
    rw [Bool.or_eq_true, decide_eq_true_iff, decide_eq_true_iff]
  generalize (decide (r.mask ||| m = fullMask) || decide (s.params.mergeTime = 0)) = close at rq closing
  have done : ((settle (completeUpstream .ok none b)).setDa { (settle (completeUpstream .ok none b)).da with port := none }).rq
      = b.rq := by simp
  have ends := localWriteEnds_settle (s := s) (u := completeUpstream .ok none b) rfl
    (by simpa using da) (by simp [re]) (by simp [port])
  refine ⟨_, _, r.merged m data close, run, ends, ?_, by rw [done, rq], by rw [done, rq], by rw [done, rq], fun yes => ?_,
    fun no => ?_, rfl, rfl, rfl, rfl, rfl, rfl, rfl, fun k => mergeLine_get k, settle_cu_none rfl, ?_⟩
  · have wide : Only [.rq, .cu, .mp, .da, .re, .out] s b := frame.mono (by decide)
    simpa using wide
  · rw [done, rq, closing.2 yes]
    exact ⟨rfl, by simp [Record.merged]⟩
  · rw [done, rq, Bool.eq_false_iff.2 (mt closing.1 no)]
    exact ⟨rfl, by simpa [Record.merged] using opened⟩
  · refine settle_mp.trans ?_
    simp [completeUpstream, mp]

end Sys2Proof.Proofs.WriteCapture
end

section
/-! PROOF. The family 02_write_capture_and_the_replay_queue, part 10: protocol violations and retransmission rounds (O49,
O53). -/

namespace Sys2Proof.Proofs.WriteCapture

open Sys2Proof Sys2Proof.Machine Sys2Proof.Proofs.MirrorWindows

variable {s t u : State} {cause : DownCause} {peer : Option DownCause}

/-! ### A session end in the frame that restarted the liveness timer (R65, R67) -/

theorem exec_dataReceived {seq : Seq} {kind window : BitVec 4} {line : BitVec 24} {mask : Mask} {data : LineData}
    (up : s.lc.state = .up) : exec (.dataReceived s.lc.epoch seq kind window line mask data) s
      = .next (dataArrives seq kind window line mask data (restartLiveness s)) := by
  simp only [exec, execDataReceived, inSession, isUp_iff.2 up, if_true]

theorem exec_ackReceived {a limit q : Seq} {reason : Byte} (up : s.lc.state = .up) :
    exec (.ackReceived s.lc.epoch a limit reason q) s = .next (ackArrives a limit reason q (restartLiveness s)) := by
  simp only [exec, execAckReceived, inSession, isUp_iff.2 up, if_true]

theorem exec_nakReceived {e : Seq} (up : s.lc.state = .up) :
    exec (.nakReceived s.lc.epoch e) s = .next (nakArrives e (restartLiveness s)) := by
  simp only [exec, execNakReceived, inSession, isUp_iff.2 up, if_true]

/-- The session end stops the liveness timer, so that its restart before leaves no trace. -/
theorem sessionEnded_restarted {after : LinkState} (h : SessionEnded cause peer after (restartLiveness s) t) :
    SessionEnded cause peer after s t := by
  obtain ⟨link, blocks, frame⟩ := h
  refine ⟨link, blocksEnded_source (lanes := s.lanes) (al := s.al) blocks, Only.trans ?_ frame⟩
  simp [restartLiveness, Only.refl]

theorem sessionEnd_restarted (up : s.lc.state = .up) (other : cause ≠ .command) :
    SessionEnded cause peer .down s (sessionEnd cause peer (restartLiveness s)) :=
  sessionEnded_restarted (sessionEnd_ended (s := restartLiveness s) up other)

/-- The drain of a session end takes entries from the apply queue and adds none (R116). -/
theorem sessionEnd_queue (up : s.lc.state = .up) :
    (sessionEnd cause peer s).au.queue.length ≤ s.au.queue.length := by
  have down : (leaveUp cause peer s).lc.state ≠ .up ∧ (leaveUp cause peer s).lc.state ≠ .hello := by
    rw [leaveUp_lc]
    dsimp only
    split <;> simp
  have announced : announceEnd (leaveUp cause peer s) = endApply (endCapture (failFences (leaveUp cause peer s).fu.fences
      (endScheduler (endWindows (discardAll (leaveUp cause peer s)))))) := rfl
  have before : Only [.drawn, .out, .rq, .cu, .mp, .da, .ts, .dm, .re, .fu, .al] (leaveUp cause peer s)
      (endCapture (failFences (leaveUp cause peer s).fu.fences
        (endScheduler (endWindows (discardAll (leaveUp cause peer s)))))) := by simp [endScheduler, Only.refl]
  rw [sessionEnd_up up, acceptOffer_au, settle_au, announced]
  generalize endCapture _ = b at before
  have lc := before .lc (by decide)
  have au : b.au = s.au := (before .au (by decide)).trans leaveUp_au
  obtain ⟨-, -, -, -, -, length⟩ := endApply_down (s := b) (by rw [lc]; exact down.1) (by rw [lc]; exact down.2)
  rwa [au] at length

/-! ### The protocol violations (R81, R100) -/

/-- Contents that are not well-formed make no entry (R100). -/
theorem dataEntry_none {seq : Seq} {kind window : BitVec 4} {line : BitVec 24} {mask : Mask} {data : LineData}
    (bad : (kind ≠ 1 ∧ kind ≠ 2) ∨ 7 < window.toNat ∨ 2 ^ 22 ≤ line.toNat ∨ mask = 0
      ∨ (kind = 2 ∧ mask ≠ BitVec.allOnes 64)) : dataEntry seq kind window line mask data = none := by
  unfold dataEntry
  split
  next k w kinds windows =>
    refine if_neg fun ⟨lines, written, full⟩ => ?_
    rcases bad with ⟨write, copy⟩ | far | far | empty | ⟨copy, lacking⟩
    · rw [kindOf, if_neg write, if_neg copy] at kinds
      cases kinds
    · have inside : window.toNat < 8 := by
        unfold winId at windows
        split at windows
        next small => exact (BitVec.toNat_setWidth_of_le (by decide)).symm.trans_lt small
        next => cases windows
      omega
    · omega
    · exact written empty
    · rw [copy] at kinds
      have copies : kindOf 2 = some .copy := rfl
      exact lacking (full (Option.some.inj (kinds.symm.trans copies)))
  next => rfl

/-- The reject reasons have the codes 1 to 3 (R210). -/
theorem rejectOf_undefined {reason : Byte} (code : 3 < reason.toNat) : rejectOf reason = none := by
  have differ (n : Byte) (small : n.toNat ≤ 3) : reason ≠ n := fun same => by rw [same] at code; omega
  rw [rejectOf, if_neg (differ 1 (by decide)), if_neg (differ 2 (by decide)), if_neg (differ 3 (by decide))]

/-- The checks of R81 on an ACK. -/
theorem ackConsistent_false {a q : Seq} {reason : Byte}
    (bad : later a s.ts.sentHigh = true
      ∨ (reason ≠ 0 ∧ (later a s.ts.ackedThrough = false ∨ q ≠ a ∨ 3 < reason.toNat))) :
    s.ackConsistent a reason q = false := by
  unfold State.ackConsistent
  rcases bad with high | ⟨reject, violated⟩
  · rw [high]
    rfl
  · rw [decide_eq_false reject, Bool.false_or]
    rcases violated with idle | other | code
    · rw [idle, Bool.false_and, Bool.false_and, Bool.and_false]
    · rw [decide_eq_false other, Bool.and_false, Bool.false_and, Bool.and_false]
    · rw [rejectOf_undefined code, Option.isSome_none, Bool.and_false, Bool.and_false]

/-- Settles O49. -/
theorem violationsEndSession : Obligations.ViolationsEndSession := by
  refine ⟨fun seq kind window line mask data s up bad => ?_, fun a limit reason q s up bad => ?_⟩
  · have ended := sessionEnd_restarted (cause := .protocol) (peer := none) up (by decide)
    refine ⟨_, exec_dataReceived up, ?_⟩
    simp only [dataArrives, dataEntry_none bad]
    exact ⟨ended, sessionEnd_queue (s := restartLiveness s) up⟩
  · have inconsistent : (restartLiveness s).ackConsistent a reason q = false := ackConsistent_false bad
    refine ⟨_, exec_ackReceived up, ?_⟩
    rw [ackArrives, if_neg (by simp [inconsistent])]
    exact sessionEnd_restarted up (by decide)

/-! ### Rounds (R86 to R91) -/

theorem startRound_within {e : Seq} (within : s.ts.rounds < s.params.retryLimit.toNat) :
    startRound e s = bump .retransmitRounds
      { s with
        rq := { s.rq with sendPtr := e }
        ts := { s.ts with rounds := s.ts.rounds + 1, ackTimer := some s.params.ackTimeout.toNat } } := if_pos within

/-- At the retry limit the session ends with RETRY (R90, R91). -/
theorem startRound_limit {e : Seq} (up : s.lc.state = .up) (limit : s.params.retryLimit.toNat ≤ s.ts.rounds) :
    SessionEnded .retry none .down s (startRound e s) := by
  rw [startRound, if_neg (Nat.not_lt.2 limit)]
  exact sessionEnd_ended up (by decide)

theorem sentRemains_iff : s.sentRemains = true ↔ ∃ r ∈ s.rq.records, r.state = .sent := by
  simp [State.sentRemains]

/-- A NAK of the number after the last transmitted one cuts a round short (R88). -/
theorem cutRound_eq : cutRound s = { s with
    rq := { s.rq with
      sendPtr := if later (s.ts.sentHigh + 1) s.rq.sendPtr then s.ts.sentHigh + 1 else s.rq.sendPtr } } := by
  unfold cutRound
  split <;> rfl

theorem later_self (a : Seq) : later a a = false := by simp [later]

/-- Settles O53. -/
theorem roundsResult : Obligations.RoundsResult := by
  refine ⟨fun e s up => ?_, fun s up => ⟨fun stopped => ?_, fun runs waits => ?_⟩⟩
  · intro run counted high
    have ran : run = .next (if later e high then sessionEnd .protocol none counted
        else if atOrBefore e s.ts.ackedThrough then counted else if e = high then cutRound counted
        else startRound e counted) := exec_nakReceived up
    have live : counted.lc.state = .up := up
    refine ⟨fun beyond => ?_, fun sent old => ?_, fun next fresh => ?_, fun other sent fresh => ?_⟩
    · rw [if_pos beyond] at ran
      exact ⟨_, ran, sessionEnd_ended live (by decide)⟩
    · rwa [sent, if_neg Bool.false_ne_true, if_pos old] at ran
    · have sent : later e high = false := by rw [next]; exact later_self high
      rw [sent, fresh, if_neg Bool.false_ne_true, if_neg Bool.false_ne_true, if_pos next, cutRound_eq] at ran
      exact ran
    · rw [sent, fresh, if_neg Bool.false_ne_true, if_neg Bool.false_ne_true, if_neg other] at ran
      refine ⟨fun within => ?_, fun limit => ⟨_, ran, startRound_limit live limit⟩⟩
      rw [startRound_within (s := counted) within] at ran
      exact ran
  · have still : ¬(s.ts.ackTimer.isSome = true ∧ s.sentRemains = true) := by
      rintro ⟨runs, remains⟩
      obtain ⟨r, there, sent⟩ := sentRemains_iff.1 remains
      rcases stopped with none | quiet
      · simp [none] at runs
      · exact quiet r there sent
    simp only [exec, execAckTimerExpiry, if_neg still]
  · have run : exec .ackTimerExpiry s = .next (startRound (s.ts.ackedThrough + 1) s) := by
      simp only [exec, execAckTimerExpiry, runs, sentRemains_iff.2 waits, and_self, if_true]
    rw [run]
    exact ⟨fun within => congrArg _ (startRound_within within), fun limit => ⟨_, rfl, startRound_limit up limit⟩⟩

end Sys2Proof.Proofs.WriteCapture
end

section
/-! PROOF. The family 03_link_sessions, part 1: the link controller (O24, O40, O41). Each row is one of the controller's
entries into a state, or a HELLO made owed; the lemmas say what each of these leaves, and a row's clause is the branch of its
definition that the link state selects. -/

namespace Sys2Proof.Proofs.LinkSessions

open Sys2Proof Sys2Proof.Machine Sys2Proof.Proofs.MirrorWindows

variable {s : State} {o : Owed} {proposal nodeId : Byte} {limit : Seq}

/-! ### Owed HELLO frames (R59, R61) -/

/-- Leaving HELLO drops the owed HELLO and HELLO_ACK frames and keeps the others (R59). -/
theorem mem_dropHandshake :
    o ∈ (dropHandshake s).lanes.owed ↔ o ∈ s.lanes.owed ∧ o ≠ .hello ∧ ∀ e, o ≠ .helloAck e := by
  cases o <;> simp [dropHandshake]

/-- What entry into DOWN leaves at the link controller and at the lanes (R57, R58, R59), for any test that tells the frames
which are kept. -/
theorem enterDown_eq {kept : Owed → Bool} (test : ∀ o, kept o = true ↔ o ≠ .hello ∧ ∀ e, o ≠ .helloAck e) :
    enterDown s =
      { s with
        lc := { s.lc with state := .down, training := none, helloInterval := none, holdoff := some 2000 }
        lanes := { s.lanes with owed := s.lanes.owed.filter kept } } := by
  have same : (enterDown s).lanes.owed = s.lanes.owed.filter kept := by
    refine List.filter_congr fun o _ => Bool.eq_iff_iff.2 ?_
    rw [test]
    cases o <;> simp
  rw [← same]
  rfl

/-- With the apply queue empty and none waiting, the next HELLO becomes owed (R59). -/
theorem oweHello_fresh (drained : s.au.queue = []) (fresh : .hello ∉ s.lanes.owed) : oweHello s = owe .hello s := by
  simp [oweHello, drained, fresh]

/-- No HELLO becomes owed while the apply queue holds an entry (R59). -/
theorem oweHello_withheld (waiting : s.au.queue ≠ []) : oweHello s = s := by simp [oweHello, waiting]

/-- Another HELLO, or DOWN after 16 (R59, R61). -/
theorem retryHello_fresh (drained : s.au.queue = []) (fresh : .hello ∉ s.lanes.owed) :
    retryHello s = if s.lc.attempts < 16 then owe .hello s else enterDown s := by
  rw [retryHello, oweHello_fresh drained fresh]

/-! ### LINK_ENABLE and LINK_DISABLE (R55, R56) -/

theorem linkEnableRun_off (off : s.lc.state = .off) :
    linkEnableRun s = accept (enterTraining (s.setLc { s.lc with enabled := true })) := by
  rw [linkEnableRun, if_pos off]

theorem linkEnableRun_on (on : s.lc.state ≠ .off) :
    linkEnableRun s = accept (s.setLc { s.lc with enabled := true }) := by rw [linkEnableRun, if_neg on]

theorem linkDisableRun_off (off : s.lc.state = .off) :
    linkDisableRun s = accept (s.setLc { s.lc with enabled := false }) := by simp only [linkDisableRun, off]

/-- Without a session LINK_DISABLE makes the link OFF (R56). -/
theorem linkDisableRun_sessionless (on : s.lc.state ≠ .off) (down : s.lc.state ≠ .up) :
    linkDisableRun s = accept (linkOff (s.setLc { s.lc with enabled := false })) := by
  unfold linkDisableRun
  split
  next up => exact absurd up down
  next off => exact absurd off on
  all_goals rfl

theorem linkOff_only : Only [.lc, .lanes] s (linkOff s) := by simp [linkOff, Only.refl]

/-- Settles O24. -/
theorem linkEnableDisableResult : Obligations.LinkEnableDisableResult := by
  refine fun s => ⟨fun holds => ⟨fun off => ?_, fun on => ?_⟩, fun holds => ⟨fun off => ?_, fun on down => ?_⟩⟩
  · exact exec_accepted holds (linkEnableRun_off off)
  · exact exec_accepted holds (linkEnableRun_on on)
  · exact exec_accepted holds (linkDisableRun_off off)
  · refine ⟨_, exec_accepted holds (linkDisableRun_sessionless on down), rfl, ?_, rfl, rfl, rfl, fun o => mem_dropHandshake.1⟩
    rw [only_answered (by decide) (by decide)]
    have off := linkOff_only (s := s.setLc { s.lc with enabled := false })
    exact Only.trans (by simp [Only.refl]) (off.mono (by decide))

/-! ### Training, holdoff and lost lanes (R52, R57 to R59) -/

theorem lanesLost_outside (hello : s.lc.state ≠ .hello) (up : s.lc.state ≠ .up) : lanesLost s = s := by
  unfold lanesLost
  split
  next here => exact absurd here hello
  next here => exact absurd here up
  all_goals rfl

/-- Settles O40. -/
theorem trainingResult : Obligations.TrainingResult := by
  intro s proposal hello down dropped
  have entered : enterDown s = { s with lc := down, lanes := { s.lanes with owed := dropped } } :=
    enterDown_eq fun o => by cases o <;> simp
  have aligned (training : s.lc.state = .training) : exec .aligned s = .next (oweHello (s.setLc hello)) := by
    simp only [exec, execAligned, if_pos training]
    rfl
  refine ⟨fun training drained fresh => ?_, fun training waiting => ?_, fun other => ⟨?_, ?_⟩,
    fun n training runs => ?_, fun n down runs => ?_, fun other => ?_, fun here => ?_, fun elsewhere up => ?_⟩
  · rw [aligned training, oweHello_fresh (s := s.setLc hello) drained fresh]
    rfl
  · rw [aligned training, oweHello_withheld (s := s.setLc hello) waiting]
    rfl
  · simp only [exec, execAligned, if_neg other]
  · simp only [exec, execTrainingTimerExpiry, other, false_and, if_false]
  · simp only [exec, execTrainingTimerExpiry, training, runs, Option.isSome_some, and_self, if_true, entered]
  · simp only [exec, execHoldoffTimerExpiry, down, runs, Option.isSome_some, and_self, if_true]
    rfl
  · simp only [exec, execHoldoffTimerExpiry, other, false_and, if_false]
  · simp only [exec, execLost, lanesLost, here, entered]
  · simp only [exec, execLost, lanesLost_outside elsewhere up]

/-! ### The HELLO exchange (R54, R59 to R62, R64) -/

theorem enterFault_only : Only [.lc, .lanes, .al] s (enterFault s) := by simp [enterFault, Only.refl]

theorem enterFault_flag : (enterFault s).al.detail.has .linkFault = true := raise_has_self _ _

theorem ownNode_iff : s.ownNode nodeId = true ↔ nodeId.toNat = s.lc.nodeId.toNat := decide_eq_true_iff

theorem helloInHello_own (own : nodeId.toNat = s.lc.nodeId.toNat) :
    helloInHello proposal nodeId limit s = enterFault s := if_pos (ownNode_iff.2 own)

theorem helloInHello_other (other : nodeId.toNat ≠ s.lc.nodeId.toNat) :
    helloInHello proposal nodeId limit s = owe (.helloAck (epochMax s.lc.proposal proposal))
      (s.setLc { s.lc with peerHello := some ⟨proposal, nodeId, limit⟩ }) := if_neg (mt ownNode_iff.1 other)

theorem helloInUp_partner {p : PeerHello} (peer : s.lc.peerHello = some p) (same : p.nodeId = nodeId) :
    helloInUp nodeId s = owe (.helloAck s.lc.epoch) s := by simp only [helloInUp, peer, same, if_true]

theorem helloInUp_stranger (strange : ∀ p, s.lc.peerHello = some p → p.nodeId ≠ nodeId) : helloInUp nodeId s = s := by
  unfold helloInUp
  split
  next => rfl
  next p peer => rw [if_neg (strange p peer)]

theorem helloArrives_hello (hello : s.lc.state = .hello) :
    helloArrives proposal nodeId limit s = helloInHello proposal nodeId limit s := by simp only [helloArrives, hello]

theorem helloArrives_up (up : s.lc.state = .up) : helloArrives proposal nodeId limit s = helloInUp nodeId s := by
  simp only [helloArrives, up]

theorem helloArrives_outside (hello : s.lc.state ≠ .hello) (up : s.lc.state ≠ .up) :
    helloArrives proposal nodeId limit s = s := by
  unfold helloArrives
  split
  next here => exact absurd here hello
  next here => exact absurd here up
  all_goals rfl

/-- HELLO_RECEIVED by link state: the first half of O41 (R54, R60, R62, R64). -/
theorem exec_helloReceived :
    exec (.helloReceived proposal nodeId limit) s = .next (helloArrives proposal nodeId limit s) := rfl

/-- HELLO_ACK_RECEIVED in HELLO (R61). -/
theorem exec_helloAckReceived {agreed : Byte} (hello : s.lc.state = .hello) :
    exec (.helloAckReceived agreed nodeId) s = .next (helloAckInHello agreed nodeId s) := by
  simp only [exec, execHelloAckReceived, if_pos hello]

theorem helloAckInHello_own {agreed : Byte} (own : nodeId.toNat = s.lc.nodeId.toNat) :
    helloAckInHello agreed nodeId s = enterFault s := if_pos (ownNode_iff.2 own)

theorem helloAckInHello_unrecorded {agreed : Byte} (other : nodeId.toNat ≠ s.lc.nodeId.toNat)
    (peer : s.lc.peerHello = none) : helloAckInHello agreed nodeId s = s := by
  rw [helloAckInHello, if_neg (mt ownNode_iff.1 other)]
  simp only [peer]

theorem helloAckInHello_mismatch {agreed : Byte} {p : PeerHello} (other : nodeId.toNat ≠ s.lc.nodeId.toNat)
    (peer : s.lc.peerHello = some p) (mismatch : ¬(nodeId = p.nodeId ∧ agreed = epochMax s.lc.proposal p.proposal)) :
    helloAckInHello agreed nodeId s = restartExchange s := by
  rw [helloAckInHello, if_neg (mt ownNode_iff.1 other)]
  simp only [peer, if_neg mismatch]

/-- Settles O41. -/
theorem helloFramesResult : Obligations.HelloFramesResult := by
  constructor
  · refine fun proposal nodeId limit s => ⟨fun hello other => ?_, fun hello own => ?_, fun up => ⟨?_, fun strange => ?_⟩,
      fun hello up => ?_⟩
    · rw [exec_helloReceived, helloArrives_hello hello, helloInHello_other other]
      rfl
    · rw [exec_helloReceived, helloArrives_hello hello, helloInHello_own own]
      exact ⟨_, rfl, enterFault_only, rfl, enterFault_flag, rfl, fun o there => (mem_dropHandshake.1 there).2⟩
    · rintro ⟨p, peer, same⟩
      rw [exec_helloReceived, helloArrives_up up, helloInUp_partner peer same]
      rfl
    · rw [exec_helloReceived, helloArrives_up up, helloInUp_stranger strange]
    · rw [exec_helloReceived, helloArrives_outside hello up]
  · intro agreed nodeId s run again
    have retried (lc : LinkController) (sent : lc.attempts = s.lc.attempts) (drained : s.au.queue = [])
        (fresh : .hello ∉ s.lanes.owed) : retryHello (s.setLc lc) = again lc := by
      rw [retryHello_fresh (s := s.setLc lc) drained fresh]
      by_cases more : s.lc.attempts < 16
      · simp only [again, if_pos more, if_pos (show (s.setLc lc).lc.attempts < 16 from sent ▸ more)]
        rfl
      · simp only [again, if_neg more, if_neg (show ¬(s.setLc lc).lc.attempts < 16 from sent ▸ more)]
        exact enterDown_eq (s := s.setLc lc) fun o => by cases o <;> simp
    refine ⟨fun other => ⟨?_, ?_⟩, fun hello own => ?_, fun hello other peer => ?_,
      fun p hello other peer drained fresh mismatch => ?_, fun n hello runs drained fresh => ?_⟩
    · exact congrArg _ (if_neg other)
    · simp only [exec, execHelloIntervalExpiry, other, false_and, if_false]
    · exact ⟨_, (exec_helloAckReceived hello).trans (congrArg _ (helloAckInHello_own own)), enterFault_only, rfl,
        enterFault_flag⟩
    · exact (exec_helloAckReceived hello).trans (congrArg _ (helloAckInHello_unrecorded other peer))
    · have restarts := helloAckInHello_mismatch other peer (not_and_or.2 mismatch)
      exact (exec_helloAckReceived hello).trans (congrArg _ (restarts.trans (retried _ rfl drained fresh)))
    · simp only [exec, execHelloIntervalExpiry, hello, runs, Option.isSome_some, and_self, if_true]
      exact congrArg _ (retried _ rfl drained fresh)

end Sys2Proof.Proofs.LinkSessions
end

section
/-! PROOF. The family 03_link_sessions, part 2: timers and frames that end no session (O44, O46). -/

namespace Sys2Proof.Proofs.LinkSessions

open Sys2Proof Sys2Proof.Machine Sys2Proof.Proofs.MirrorWindows

variable {s : State} {epoch : Byte} {handle : State → State}

/-! ### Frames outside UP and of another epoch (R54, R64, R70) -/

theorem isUp_false (down : s.lc.state ≠ .up) : s.isUp = false := Bool.eq_false_iff.2 (mt isUp_iff.1 down)

/-- Outside UP a DATA, ACK or NAK is discarded (R54). -/
theorem inSession_down (down : s.lc.state ≠ .up) : inSession epoch handle s = s :=
  if_neg (Bool.eq_false_iff.1 (isUp_false down))

/-- In UP a DATA, ACK or NAK of another epoch is stale (R64). -/
theorem inSession_stale (up : s.lc.state = .up) (stale : epoch ≠ s.lc.epoch) :
    inSession epoch handle s = bump .staleFrames s := (if_pos (isUp_iff.2 up)).trans (if_neg stale)

/-- Outside UP a GOODBYE is discarded (R54, R70). -/
theorem exec_goodbyeReceived_down {reason : Byte} (down : s.lc.state ≠ .up) :
    exec (.goodbyeReceived epoch reason) s = .next s := congrArg _ (if_neg (Bool.eq_false_iff.1 (isUp_false down)))

/-- In UP a GOODBYE of another epoch is stale (R64). -/
theorem exec_goodbyeReceived_stale {reason : Byte} (up : s.lc.state = .up) (stale : epoch ≠ s.lc.epoch) :
    exec (.goodbyeReceived epoch reason) s = .next (bump .staleFrames s) :=
  congrArg _ ((if_pos (isUp_iff.2 up)).trans (if_neg stale))

/-- Outside UP a frame of no defined type ends nothing (R70). -/
theorem exec_undefinedFrame_down {typeCode : Byte} (down : s.lc.state ≠ .up) :
    exec (.undefinedFrame typeCode epoch) s = .next s := by
  simp only [exec, execUndefinedFrame, sessionEnd_down down, ite_self]

/-- Settles O44. -/
theorem framesNotOfSession : Obligations.FramesNotOfSession := by
  constructor
  · intro s down
    refine ⟨fun stopped => ?_, ?_, fun _ _ => exec_goodbyeReceived_down down, fun _ _ => exec_undefinedFrame_down down,
      fun _ _ _ _ _ _ _ => congrArg _ (inSession_down down), fun _ _ _ _ _ => congrArg _ (inSession_down down),
      fun _ _ => congrArg _ (inSession_down down)⟩
    · simp only [exec, execLivenessExpiry, stopped, Option.isSome_none, Bool.false_eq_true, if_false]
    · simp only [exec, execKeepaliveExpiry, isUp_false down, Bool.false_eq_true, false_and, if_false]
  · intro epoch s up stale
    exact ⟨fun _ _ _ _ _ _ => congrArg _ (inSession_stale up stale), fun _ _ _ _ => congrArg _ (inSession_stale up stale),
      fun _ => congrArg _ (inSession_stale up stale), fun _ => exec_goodbyeReceived_stale up stale⟩

/-! ### The keepalive and ack delay timers (R66, R111 to R113) -/

/-- Making an ACK owed begins no frame and leaves an owed GOODBYE (R112). -/
theorem oweAck_lanes_kept : (oweAck s).lanes.frame = s.lanes.frame ∧ (oweAck s).lanes.goodbye = s.lanes.goodbye := by
  unfold oweAck
  split <;> exact ⟨rfl, rfl⟩

theorem exec_keepaliveExpiry {n : Nat} (up : s.lc.state = .up) (runs : s.lc.keepalive = some n) :
    exec .keepaliveExpiry s = .next (oweAck (s.setLc { s.lc with keepalive := none })) := by
  simp only [exec, execKeepaliveExpiry, isUp_iff.2 up, runs, Option.isSome_some, and_self, if_true]

theorem exec_ackDelayExpiry {n : Nat} (runs : s.au.ackDelay = some n) :
    exec .ackDelayExpiry s = .next (oweAck s) := by
  simp only [exec, execAckDelayExpiry, runs, Option.isSome_some, if_true]

/-- Settles O46. -/
theorem ackTimersOweAck : Obligations.AckTimersOweAck := by
  refine fun s up => ⟨fun n runs => ?_, fun n runs => ?_⟩
  · have live : (s.setLc { s.lc with keepalive := none }).lc.state = .up := up
    obtain ⟨frame, goodbye⟩ := oweAck_lanes_kept (s := s.setLc { s.lc with keepalive := none })
    exact ⟨_, exec_keepaliveExpiry up runs, by simp [Only.refl], oweAck_lc, oweAck_au live, frame, goodbye,
      oweAck_lanes live⟩
  · obtain ⟨frame, goodbye⟩ := oweAck_lanes_kept (s := s)
    exact ⟨_, exec_ackDelayExpiry runs, oweAck_only, oweAck_au up, frame, goodbye, oweAck_lanes up⟩

end Sys2Proof.Proofs.LinkSessions
end

section
/-! PROOF. The family 03_link_sessions, part 3: which frame the transmit lanes take next, and what a frame's beginning does.
The lanes' choice (R80) is said once, per link state; a transmit row and FRAME_END both begin the frame it names. -/

namespace Sys2Proof.Proofs.LinkSessions

open Sys2Proof Sys2Proof.Machine Sys2Proof.Proofs.MirrorWindows

variable {s : State} {o : Owed} {f : FrameType}

/-! ### Which frame is next (R52, R54, R59, R80) -/

theorem nextOwed_up (up : s.lc.state = .up) : s.nextOwed = s.lanes.owed.head? := by simp only [State.nextOwed, up]

theorem nextOwed_hello (hello : s.lc.state = .hello) (drained : s.au.queue = []) :
    s.nextOwed = s.lanes.owed.head? := by
  simp only [State.nextOwed, hello, drained, List.isEmpty_nil, if_true]

/-- In HELLO nothing is sent while the apply queue holds an entry (R59). -/
theorem nextOwed_withheld (hello : s.lc.state = .hello) (waiting : s.au.queue ≠ []) : s.nextOwed = none := by
  simp only [State.nextOwed, hello, List.isEmpty_iff, waiting, if_false]

/-- Outside UP and HELLO no owed control frame is sent (R52, R54). -/
theorem nextOwed_silent (up : s.lc.state ≠ .up) (hello : s.lc.state ≠ .hello) : s.nextOwed = none := by
  unfold State.nextOwed
  split
  next here => exact absurd here up
  next here => exact absurd here hello
  all_goals rfl

theorem sendable_down (down : s.lc.state ≠ .up) : s.sendable = none :=
  if_neg (Bool.eq_false_iff.1 (isUp_false down))

theorem nextFrame_goodbye (goodbye : s.goodbyeNext = true) : s.nextFrame = some .goodbye := if_pos goodbye

/-- An owed control frame goes before DATA (R80). -/
theorem nextFrame_owed (goodbye : s.goodbyeNext = false) (next : s.nextOwed = some o) : s.nextFrame = some o.type := by
  simp only [State.nextFrame, goodbye, next, Bool.false_eq_true, if_false]

/-- With nothing owed the next frame is DATA, where a record may be sent (R77, R80). -/
theorem nextFrame_unowed (goodbye : s.goodbyeNext = false) (next : s.nextOwed = none) :
    s.nextFrame = if s.sendable.isSome then some .data else none := by
  simp only [State.nextFrame, goodbye, next, Bool.false_eq_true, if_false]

/-- A DATA frame is next only when nothing is owed and a record may be sent (R77, R80). -/
theorem nextFrame_data (data : s.nextFrame = some .data) :
    s.goodbyeNext = false ∧ s.nextOwed = none ∧ s.sendable.isSome = true := by
  cases goodbye : s.goodbyeNext with
  | true => simp [nextFrame_goodbye goodbye] at data
  | false =>
    cases next : s.nextOwed with
    | none =>
      rw [nextFrame_unowed goodbye next] at data
      exact ⟨rfl, rfl, by_contra fun none => by simp [none] at data⟩
    | some o => cases o <;> simp [nextFrame_owed goodbye next, Owed.type] at data

/-- Outside UP with no control frame to send the lanes stay free (R52, R54, R59). -/
theorem nextFrame_none (down : s.lc.state ≠ .up) (goodbye : s.goodbyeNext = false) (next : s.nextOwed = none) :
    s.nextFrame = none := by
  rw [nextFrame_unowed goodbye next, sendable_down down]
  rfl

/-! ### The rows of the lanes (R80) -/

theorem transmit_next (free : s.lanes.frame = none) (next : s.nextFrame = some f) : transmit f s = beginType f s :=
  if_pos ⟨free, next⟩

theorem transmit_other (other : s.nextFrame ≠ some f) : transmit f s = s := if_neg fun h => other h.2

theorem transmit_busy (busy : s.lanes.frame ≠ none) : transmit f s = s := if_neg fun h => busy h.1

theorem beginType_owed : beginType o.type s = beginOwed s := by cases o <;> rfl

/-- The first owed control frame begins on free lanes (R80). -/
theorem transmit_owed (free : s.lanes.frame = none) (goodbye : s.goodbyeNext = false) (next : s.nextOwed = some o) :
    transmit o.type s = beginOwed s := by
  rw [transmit_next free (nextFrame_owed goodbye next), beginType_owed]

/-! ### A frame begins (R66) -/

theorem beginFrame_up {frame : Frame} (up : s.lc.state = .up) :
    beginFrame frame s =
      { s with
        lanes := { s.lanes with frame := some frame }
        lc := { s.lc with keepalive := some s.params.keepalive.toNat } } := if_pos (isUp_iff.2 up)

theorem beginFrame_down {frame : Frame} (down : s.lc.state ≠ .up) :
    beginFrame frame s = { s with lanes := { s.lanes with frame := some frame } } :=
  if_neg (Bool.eq_false_iff.1 (isUp_false down))

end Sys2Proof.Proofs.LinkSessions
end

section
/-! PROOF. The family 03_link_sessions, part 4: DATA frames (O54). -/

namespace Sys2Proof.Proofs.LinkSessions

open Sys2Proof Sys2Proof.Machine Sys2Proof.Proofs.MirrorWindows

variable {s : State} {r : Record} {older newer : List Record}

/-! ### The record at the send pointer (R37, R77, R78) -/

/-- The closed record that the send pointer names is the one it may send (R37). -/
theorem pointed_eq (records : s.rq.records = older ++ r :: newer) (own : r.seq = s.rq.sendPtr) (closed : r.state ≠ .opened)
    (alone : ∀ x ∈ older ++ newer, x.seq ≠ r.seq) : s.pointed = some r := by
  have passed : older.find? (fun x => decide (x.seq = s.rq.sendPtr ∧ x.state ≠ .opened)) = none := by
    rw [List.find?_eq_none]
    intro x there
    simp [← own, alone x (List.mem_append_left _ there)]
  simp only [State.pointed, records, List.find?_append, passed, Option.none_or, List.find?_cons, own, closed, ne_eq,
    not_false_eq_true, and_self, decide_true]

theorem sendable_eq (up : s.lc.state = .up) (pointed : s.pointed = some r) (within : atOrBefore r.seq s.ts.sendLimit = true) :
    s.sendable = some r := by
  rw [State.sendable, if_pos (isUp_iff.2 up), pointed, Option.filter_some, if_pos within]

/-- No record may be sent when the one at the send pointer is open or beyond the limit, or there is none (R77, R79). -/
theorem sendable_none
    (held : ∀ r ∈ s.rq.records, r.seq = s.rq.sendPtr → r.state = .opened ∨ later r.seq s.ts.sendLimit = true) :
    s.sendable = none := by
  unfold State.sendable
  split
  · rw [Option.filter_eq_none_iff]
    intro r pointed
    have there := List.mem_of_find?_eq_some pointed
    have named := List.find?_some pointed
    simp only [decide_eq_true_eq] at named
    have beyond := (held r there named.1).resolve_left named.2
    simp [atOrBefore, beyond]
  · rfl

/-- Of records with different numbers one is marked SENT (R78). -/
theorem markSent_eq (alone : ∀ x ∈ older ++ newer, x.seq ≠ r.seq) :
    markSent r.seq (older ++ r :: newer) = older ++ { r with state := .sent } :: newer := by
  have kept (l : List Record) (others : ∀ x ∈ l, x.seq ≠ r.seq) : markSent r.seq l = l :=
    (List.map_congr_left fun x there => if_neg (others x there)).trans (List.map_id' l)
  have first := kept older fun x there => alone x (List.mem_append_left _ there)
  have last := kept newer fun x there => alone x (List.mem_append_right _ there)
  unfold markSent at first last ⊢
  rw [List.map_append, List.map_cons, first, last, if_pos rfl]

/-- A record's DATA frame begins: it is SENT, the send pointer passes it, and `timer` is the ack timer as it runs on or starts
(R66, R78). -/
theorem beginRecord_eq {timer : Option Nat} (up : s.lc.state = .up) (records : s.rq.records = older ++ r :: newer)
    (alone : ∀ x ∈ older ++ newer, x.seq ≠ r.seq)
    (runs : some (s.ts.ackTimer.getD s.params.ackTimeout.toNat) = timer) :
    beginRecord r s =
      { s with
        rq := { s.rq with records := older ++ { r with state := .sent } :: newer, sendPtr := r.seq + 1 }
        ts :=
          { s.ts with
            sentHigh := if later r.seq s.ts.sentHigh then r.seq else s.ts.sentHigh
            ackTimer := timer }
        lc := { s.lc with keepalive := some s.params.keepalive.toNat }
        lanes := { s.lanes with frame := some (.data s.lc.epoch r.seq r.kind r.window r.line r.mask r.data) } } := by
  rw [beginRecord, records, markSent_eq alone, beginFrame_up (by exact up), ← runs]
  rfl

/-- Settles O54. -/
theorem transmitDataResult : Obligations.TransmitDataResult := by
  constructor
  · intro older newer r s up free goodbye owed records own closed alone within
    have sendable := sendable_eq up (pointed_eq records own closed alone) within
    have next : s.nextFrame = some .data := by
      rw [nextFrame_unowed (goodbyeNext_none goodbye) (by rw [nextOwed_up up, owed]; rfl), sendable]
      rfl
    have begun : exec .transmitData s = .next (beginRecord r s) := by
      simp only [exec, execTransmitData, transmit_next free next, beginType, beginData, sendable]
    rw [begun]
    refine congrArg Host.Outcome.next (beginRecord_eq up records alone ?_)
    cases s.ts.ackTimer <;> rfl
  · intro s why
    refine congrArg Host.Outcome.next ?_
    by_cases free : s.lanes.frame = none
    · refine transmit_other fun data => ?_
      obtain ⟨goodbye, owed, sendable⟩ := nextFrame_data data
      have up : s.lc.state = .up := by
        by_contra down
        simp [sendable_down down] at sendable
      rw [goodbyeNext_sent (.inr (.inr up))] at goodbye
      rw [nextOwed_up up] at owed
      rcases why with down | busy | waiting | owes | held
      · exact down up
      · exact busy free
      · exact waiting (by simpa using goodbye)
      · exact owes (List.head?_eq_none_iff.1 owed)
      · simp [sendable_none held] at sendable
    · exact transmit_busy free

end Sys2Proof.Proofs.LinkSessions
end

section
/-! PROOF. The family 03_link_sessions, part 5: the head of the apply queue as an IDLE unit takes it in UP (R107 to R110). -/

namespace Sys2Proof.Proofs.LinkSessions

open Sys2Proof Sys2Proof.Machine Sys2Proof.Proofs.MirrorWindows

variable {s : State} {e : ApplyEntry} {rest : List ApplyEntry} {reason : RejectReason}

/-- An entry that fails its check is rejected for the reason of R107. -/
theorem applyCheck_fails (fails : s.fits e = false) : s.applyCheck e = some (s.reasonOf e) := by
  unfold State.applyCheck State.reasonOf State.entry
  dsimp only
  split
  next on =>
    have short : s.inb[e.window].length.toNat < e.line.toNat * 64 + 64 := by
      rw [State.fits, on, Bool.true_and, decide_eq_false_iff_not] at fails
      omega
    rw [if_pos short]
  next => rfl

/-- A unit that is not IDLE takes no entry (R107). -/
theorem takeEntries_waits (n : Nat) (other : s.au.state ≠ .idle) : takeEntries n s = s := by
  cases n with
  | zero => rfl
  | succ n =>
    unfold takeEntries
    split
    · rfl
    · exact if_neg other

/-- In UP an empty apply queue makes no HELLO owed and tells nothing of a drain (R71, R117). -/
theorem applyQueueEmptied_up (up : s.lc.state = .up) :
    applyQueueEmptied (s.setAu { s.au with drained := if s.isUp then s.au.drained else true }) = s := by
  rw [isUp_iff.2 up, applyQueueEmptied, if_neg (by simp [up])]
  rfl

/-- A rejected entry leaves the queue in UP, counted and raised, with an ACK of its own owed and the unit BLOCKED (R109,
R110). -/
theorem finishEntry_rejected (up : s.lc.state = .up) (reject : e.reject = some reason) :
    finishEntry e s = raise .rejectSent (bump .rejectsSent
      { s with
        au :=
          { s.au with
            queue := s.au.queue.tail, state := .blocked, appliedThrough := e.seq, unreported := 0, ackDelay := none
            promotion := if s.au.queue.tail.length ≤ 4 then false else s.au.promotion }
        lanes := { s.lanes with owed := s.lanes.owed ++ [.ack e.seq (e.seq + 16) (some reason)] } }) := by
  simp only [finishEntry, reject, isUp_iff.2 up, if_true]
  generalize reported : reportReject reason _ = b
  have frame : Only [.lanes, .au, .al, .counters] s b := by simp [← reported, Only.refl]
  have live : b.lc.state = .up := (congrArg _ (frame .lc (by decide))).trans up
  rw [applyQueueEmptied_up live, ite_self, ← reported, reportReject, if_pos (isUp_iff.2 (by simpa using up))]
  rfl

/-- An IDLE unit in UP takes the head of its queue, if there is one (R107, R108, R110). -/
theorem headTaken_takeHead (up : s.lc.state = .up) (idle : s.au.state = .idle) : HeadTaken s (takeHead s) := by
  unfold HeadTaken
  split
  next empty =>
    rw [takeHead_empty empty]
    exact ⟨rfl, rfl, rfl, rfl⟩
  next e rest waiting =>
    refine ⟨fun fits => ?_, fun fails => ?_⟩
    · have taken : takeHead s = presentAp (s.writeOf e) (s.setAu { s.au with state := .writing }) := by
        simp only [takeHead, waiting, List.length_cons, takeEntries, idle, if_true, applyCheck_none.2 fits]
        rfl
      rw [taken]
      exact ⟨presentAp_au, presentAp_lanes, presentAp_al, presentAp_counters, applyAsked_grant (.inl rfl)⟩
    · have taken : takeHead s = finishEntry { e with reject := some (s.reasonOf e) } s := by
        simp only [takeHead, waiting, List.length_cons, takeEntries, idle, if_true, applyCheck_fails fails]
        refine takeEntries_waits _ ?_
        rw [finishEntry_rejected up rfl]
        simp
      rw [taken, finishEntry_rejected up rfl, waiting]
      exact ⟨rfl, rfl, rfl, rfl, rfl, rfl, rfl, rfl, fun c => raise_has _ c _, bump_counter_self _ _,
        fun c other => (bump_counter _ c _).trans (if_neg other)⟩

end Sys2Proof.Proofs.LinkSessions
end

section
/-! PROOF. The family 03_link_sessions, part 6: the owed control frames, the GOODBYE, and the end of a frame (O55, O56). -/

namespace Sys2Proof.Proofs.LinkSessions

open Sys2Proof Sys2Proof.Machine Sys2Proof.Proofs.MirrorWindows

variable {s : State} {o : Owed} {rest : List Owed}

/-! ### The owed control frames (R59, R60, R66, R104, R110, R112) -/

theorem advertise_eq {limit : Seq} :
    advertise limit s =
      { s with au := { s.au with advertised := if later limit s.au.advertised then limit else s.au.advertised } } := by
  unfold advertise
  split <;> rfl

theorem popOwed_eq (owed : s.lanes.owed = o :: rest) : popOwed s = { s with lanes := { s.lanes with owed := rest } } := by
  rw [popOwed, owed]
  rfl

theorem unblock_kept {reject : Option RejectReason} (kept : reject = none ∨ s.au.state ≠ .blocked) : unblock reject s = s := by
  refine if_neg fun ⟨rejects, blocked⟩ => ?_
  rcases kept with none | other
  · simp [none] at rejects
  · exact other blocked

theorem unblock_blocked {reject : Option RejectReason} (rejects : reject.isSome = true) (blocked : s.au.state = .blocked) :
    unblock reject s = takeHead (s.setAu { s.au with state := .idle }) := if_pos ⟨rejects, blocked⟩

/-- In UP, with no GOODBYE owed, the first owed frame begins by its row (R80). -/
theorem transmit_up (free : s.lanes.frame = none) (goodbye : s.lanes.goodbye = none) (up : s.lc.state = .up)
    (owed : s.lanes.owed = o :: rest) : transmit o.type s = beginOwed s ∧ s.nextOwed = some o := by
  have next : s.nextOwed = some o := by rw [nextOwed_up up, owed]; rfl
  exact ⟨transmit_owed free (goodbyeNext_none goodbye) next, next⟩

/-- In HELLO, with the apply queue empty, the first owed frame begins by its row, GOODBYE or not (R54, R59). -/
theorem transmit_hello (free : s.lanes.frame = none) (hello : s.lc.state = .hello) (drained : s.au.queue = [])
    (owed : s.lanes.owed = o :: rest) : transmit o.type s = beginOwed s ∧ s.nextOwed = some o := by
  have next : s.nextOwed = some o := by rw [nextOwed_hello hello drained, owed]; rfl
  exact ⟨transmit_owed free (goodbyeNext_held (.inr (.inl hello))) next, next⟩

/-- The state with an ACK begun in UP, before a BLOCKED unit hears of it (R66, R112). -/
def ackBegun (a limit : Seq) (reject : Option RejectReason) (rest : List Owed) (s : State) : State :=
  ((s.setLanes { s.lanes with frame := some (.ack s.lc.epoch a limit reject), owed := rest }).setLc
    { s.lc with keepalive := some s.params.keepalive.toNat }).setAu
    { s.au with advertised := if later limit s.au.advertised then limit else s.au.advertised }

theorem ackBegun_only {a limit : Seq} {reject : Option RejectReason} :
    Only [.lanes, .lc, .au] s (ackBegun a limit reject rest s) := by simp [ackBegun, Only.refl]

theorem exec_transmitAck {a limit : Seq} {reject : Option RejectReason} (free : s.lanes.frame = none)
    (goodbye : s.lanes.goodbye = none) (up : s.lc.state = .up) (owed : s.lanes.owed = .ack a limit reject :: rest) :
    exec .transmitAck s = .next (unblock reject (ackBegun a limit reject rest s)) := by
  obtain ⟨row, next⟩ := transmit_up free goodbye up owed
  refine congrArg Host.Outcome.next (row.trans ?_)
  simp only [beginOwed, next]
  rw [beginAck, popOwed_eq owed, beginFrame_up (by exact up), advertise_eq]
  rfl

/-- A NAK begins in UP and is counted (R66, R104). -/
theorem exec_transmitNak {e : Seq} (free : s.lanes.frame = none) (goodbye : s.lanes.goodbye = none)
    (up : s.lc.state = .up) (owed : s.lanes.owed = .nak e :: rest) :
    exec .transmitNak s = .next (bump .naksSent
      { s with
        lanes := { s.lanes with frame := some (.nak s.lc.epoch e), owed := rest }
        lc := { s.lc with keepalive := some s.params.keepalive.toNat } }) := by
  obtain ⟨row, next⟩ := transmit_up free goodbye up owed
  refine congrArg Host.Outcome.next (row.trans ?_)
  simp only [beginOwed, next]
  rw [beginNak, popOwed_eq owed, beginFrame_up (by exact up)]

/-- A HELLO_ACK begins in UP (R64, R66). -/
theorem exec_transmitHelloAck_up {e : Epoch} (free : s.lanes.frame = none) (goodbye : s.lanes.goodbye = none)
    (up : s.lc.state = .up) (owed : s.lanes.owed = .helloAck e :: rest) :
    exec .transmitHelloAck s = .next
      { s with
        lanes := { s.lanes with frame := some (.helloAck e s.lc.nodeId), owed := rest }
        lc := { s.lc with keepalive := some s.params.keepalive.toNat } } := by
  obtain ⟨row, next⟩ := transmit_up free goodbye up owed
  refine congrArg Host.Outcome.next (row.trans ?_)
  simp only [beginOwed, next]
  rw [beginHelloAck, popOwed_eq owed, beginFrame_up (by exact up)]

/-- A HELLO_ACK begins in HELLO (R60). -/
theorem exec_transmitHelloAck_hello {e : Epoch} (free : s.lanes.frame = none) (hello : s.lc.state = .hello)
    (drained : s.au.queue = []) (owed : s.lanes.owed = .helloAck e :: rest) :
    exec .transmitHelloAck s = .next
      { s with lanes := { s.lanes with frame := some (.helloAck e s.lc.nodeId), owed := rest } } := by
  obtain ⟨row, next⟩ := transmit_hello free hello drained owed
  refine congrArg Host.Outcome.next (row.trans ?_)
  simp only [beginOwed, next]
  rw [beginHelloAck, popOwed_eq owed, beginFrame_down (by simp [hello])]

/-- A HELLO begins in HELLO: an attempt, and the interval timer is loaded (R59). -/
theorem exec_transmitHello (free : s.lanes.frame = none) (hello : s.lc.state = .hello) (drained : s.au.queue = [])
    (owed : s.lanes.owed = .hello :: rest) :
    exec .transmitHello s = .next
      { s with
        lanes := { s.lanes with frame := some (.hello s.lc.proposal s.lc.nodeId 15), owed := rest }
        lc := { s.lc with attempts := s.lc.attempts + 1, helloInterval := some 1000 } } := by
  obtain ⟨row, next⟩ := transmit_hello free hello drained owed
  refine congrArg Host.Outcome.next (row.trans ?_)
  simp only [beginOwed, next]
  rw [beginHello, popOwed_eq owed, beginFrame_down (by simp [hello])]
  rfl

/-- A reject ACK that begins with a head waiting frees the unit, which takes that head (R107, R110). -/
theorem unblock_head {reason : Option RejectReason} (up : s.lc.state = .up) (rejects : reason.isSome = true)
    (blocked : s.au.state = .blocked) :
    Only [.lanes, .au, .da, .re, .al, .counters] s (unblock reason s)
      ∧ HeadTaken (s.setAu { s.au with state := .idle }) (unblock reason s) := by
  rw [unblock_blocked rejects blocked]
  exact ⟨by simp [Only.refl], headTaken_takeHead up rfl⟩

/-! ### The owed GOODBYE (R52, R54, R66, R68, R80) -/

/-- Where the link state sends it, an owed GOODBYE begins on free lanes (R68). -/
theorem exec_transmitGoodbye {epoch : Epoch} {reason : DownCause} (free : s.lanes.frame = none)
    (owed : s.lanes.goodbye = some (epoch, reason)) (sent : s.lc.state = .off ∨ s.lc.state = .down ∨ s.lc.state = .up) :
    exec .transmitGoodbye s
      = .next (beginFrame (.goodbye epoch reason) (s.setLanes { s.lanes with goodbye := none })) := by
  have next : s.nextFrame = some .goodbye := nextFrame_goodbye (by rw [goodbyeNext_sent sent, owed]; rfl)
  refine congrArg Host.Outcome.next ((transmit_next free next).trans ?_)
  simp only [beginType, beginGoodbye, owed]

/-- TRAINING, HELLO and FAULT send no GOODBYE (R54). -/
theorem exec_transmitGoodbye_held (held : s.lc.state = .training ∨ s.lc.state = .hello ∨ s.lc.state = .fault) :
    exec .transmitGoodbye s = .next s := by
  refine congrArg Host.Outcome.next (transmit_other fun next => ?_)
  have quiet := goodbyeNext_held held
  cases owed : s.nextOwed with
  | none =>
    rw [nextFrame_unowed quiet owed] at next
    split at next <;> simp at next
  | some o => cases o <;> simp [nextFrame_owed quiet owed, Owed.type] at next

/-- Settles O55. -/
theorem transmitControlResult : Obligations.TransmitControlResult := by
  constructor
  · intro rest s free quiet lanes kept
    have goodbye (up : s.lc.state = .up) : s.lanes.goodbye = none := quiet.resolve_right (by simp [up])
    refine ⟨fun a limit reject up owed => ?_, fun e up owed => exec_transmitNak free (goodbye up) up owed,
      fun e up owed => exec_transmitHelloAck_up free (goodbye up) up owed,
      fun e hello drained owed => exec_transmitHelloAck_hello free hello drained owed,
      fun hello drained owed => exec_transmitHello free hello drained owed, fun hello waiting => ?_⟩
    · have begun := exec_transmitAck free (goodbye up) up owed
      refine ⟨fun stays => ?_, fun rejects blocked empty => ?_, fun rejects blocked waiting => ?_⟩
      · exact begun.trans (congrArg _ (unblock_kept (s := ackBegun a limit reject rest s) stays))
      · have freed := unblock_blocked (s := ackBegun a limit reject rest s) rejects blocked
        exact begun.trans (congrArg _ (freed.trans (takeHead_empty empty)))
      · obtain ⟨frame, head⟩ := unblock_head (s := ackBegun a limit reject rest s) up rejects blocked
        exact ⟨_, begun, (ackBegun_only.mono (by decide)).trans (frame.mono (by decide)), frame .lc (by decide), head⟩
    · have none : s.nextFrame = none := nextFrame_none (by simp [hello]) (goodbyeNext_held (.inr (.inl hello)))
        (nextOwed_withheld hello waiting)
      exact ⟨congrArg _ (transmit_other (by simp [none])), congrArg _ (transmit_other (by simp [none]))⟩
  · intro epoch reason s free owed begun
    refine ⟨fun ended => ?_, fun up => ?_, exec_transmitGoodbye_held⟩
    · rw [exec_transmitGoodbye free owed (ended.imp_right .inl), beginFrame_down]
      · rfl
      · rcases ended with off | down
        · simp [off]
        · simp [down]
    · rw [exec_transmitGoodbye free owed (.inr (.inr up)), beginFrame_up (by exact up)]
      rfl

/-! ### The end of a frame (R52, R54, R59, R80) -/

theorem takeNext_transmit {f : FrameType} (free : s.lanes.frame = none) (next : s.nextFrame = some f) :
    takeNext s = transmit f s := by
  rw [transmit_next free next, takeNext, next]

theorem takeNext_none (next : s.nextFrame = none) : takeNext s = s := by rw [takeNext, next]

/-- With nothing owed the lanes take what TRANSMIT_DATA would begin (R77, R80). -/
theorem takeNext_data (free : s.lanes.frame = none) (goodbye : s.goodbyeNext = false) (next : s.nextOwed = none) :
    takeNext s = transmit .data s := by
  cases sendable : s.sendable.isSome with
  | true => exact takeNext_transmit free (by rw [nextFrame_unowed goodbye next, if_pos sendable])
  | false =>
    have none : s.nextFrame = none := by rw [nextFrame_unowed goodbye next, sendable]; rfl
    rw [takeNext_none none, transmit_other (by simp [none])]

theorem exec_frameEnd (busy : s.lanes.frame ≠ none) :
    exec .frameEnd s = .next (takeNext { s with lanes := { s.lanes with frame := none } }) :=
  congrArg _ (if_pos (Option.isSome_iff_ne_none.2 busy))

/-- Settles O56. -/
theorem frameEndTakesNext : Obligations.FrameEndTakesNext := by
  intro s freed
  have free : freed.lanes.frame = none := rfl
  refine ⟨fun idle => congrArg _ (if_neg (by simp [idle])), fun busy => ?_⟩
  rw [exec_frameEnd busy]
  have taken (o : Owed) (quiet : freed.goodbyeNext = false) (next : freed.nextOwed = some o) :
      takeNext freed = transmit o.type freed := takeNext_transmit free (nextFrame_owed quiet next)
  have stays (down : s.lc.state ≠ .up) (quiet : freed.goodbyeNext = false) (next : freed.nextOwed = none) :
      takeNext freed = freed := takeNext_none (nextFrame_none down quiet next)
  refine ⟨fun goodbye sent => ?_, fun goodbye up => ?_, fun hello drained => ?_, fun hello waiting => ?_,
    fun goodbye ended => ?_, fun dead => ?_⟩
  · refine congrArg Host.Outcome.next (takeNext_transmit free (nextFrame_goodbye ?_))
    rw [goodbyeNext_sent (s := freed) sent]
    exact Option.isSome_iff_ne_none.2 goodbye
  · have quiet : freed.goodbyeNext = false := goodbyeNext_none goodbye
    have head : freed.nextOwed = s.lanes.owed.head? := nextOwed_up (s := freed) up
    have first {o : Owed} {rest : List Owed} (owed : s.lanes.owed = o :: rest) : takeNext freed = transmit o.type freed :=
      taken o quiet (by rw [head, owed]; rfl)
    refine ⟨fun _ _ _ _ owed => congrArg Host.Outcome.next (first owed),
      fun _ _ owed => congrArg Host.Outcome.next (first owed), fun _ _ owed => congrArg Host.Outcome.next (first owed),
      fun none => congrArg Host.Outcome.next (takeNext_data free quiet ?_)⟩
    rw [head, none]
    rfl
  · have quiet : freed.goodbyeNext = false := goodbyeNext_held (.inr (.inl hello))
    have head : freed.nextOwed = s.lanes.owed.head? := nextOwed_hello (s := freed) hello drained
    have first {o : Owed} {rest : List Owed} (owed : s.lanes.owed = o :: rest) : takeNext freed = transmit o.type freed :=
      taken o quiet (by rw [head, owed]; rfl)
    refine ⟨fun _ owed => congrArg Host.Outcome.next (first owed), fun _ _ owed => congrArg Host.Outcome.next (first owed),
      fun none => congrArg Host.Outcome.next (stays (by simp [hello]) quiet ?_)⟩
    rw [head, none]
    rfl
  · exact congrArg Host.Outcome.next (stays (by simp [hello]) (goodbyeNext_held (.inr (.inl hello)))
      (nextOwed_withheld (s := freed) hello waiting))
  · have outside : s.lc.state ≠ .up ∧ s.lc.state ≠ .hello := by rcases ended with off | down <;> simp [*]
    exact congrArg Host.Outcome.next (stays outside.1 (goodbyeNext_none goodbye) (nextOwed_silent outside.1 outside.2))
  · have outside : s.lc.state ≠ .up ∧ s.lc.state ≠ .hello := by rcases dead with training | fault <;> simp [*]
    exact congrArg Host.Outcome.next
      (stays outside.1 (goodbyeNext_held (dead.imp_right .inr)) (nextOwed_silent outside.1 outside.2))

end Sys2Proof.Proofs.LinkSessions
end

section
/-! PROOF. The family 05_receiving_and_applying, part 1: the receive checker (O45, O47, O48). -/

namespace Sys2Proof.Proofs.ReceivingApplying

open Sys2Proof Sys2Proof.Machine Sys2Proof.Proofs.MirrorWindows Sys2Proof.Proofs.WriteCapture
  Sys2Proof.Proofs.LinkSessions

variable {s : State} {e : ApplyEntry} {rest : List ApplyEntry}

/-! ### Damaged frames (R54, R99) -/

/-- While no NAK is outstanding, one carrying expected becomes owed (R99, R103). -/
theorem oweNak_clear (clear : s.rc.nakOutstanding = false) :
    oweNak s =
      { s with
        rc := { s.rc with nakOutstanding := true }
        lanes := { s.lanes with owed := s.lanes.owed ++ [.nak s.rc.expected] } } := by
  rw [oweNak, if_neg (by simp [clear])]
  rfl

/-- No second NAK becomes owed while one is outstanding (R99, R103). -/
theorem oweNak_outstanding (outstanding : s.rc.nakOutstanding = true) : oweNak s = s := if_pos outstanding

/-- Settles O45. -/
theorem badCrcFrameResult : Obligations.BadCrcFrameResult := by
  intro s counted
  have runs {t : State} (arrives : badCrcArrives s = t) : exec .badCrcFrame s = .next t := congrArg _ arrives
  refine ⟨fun up clear => runs ?_, fun up outstanding => runs ?_, fun hello => runs ?_, fun up hello => runs ?_⟩
  · simp only [badCrcArrives, up]
    exact oweNak_clear (s := countBadCrc s) clear
  · simp only [badCrcArrives, up]
    exact oweNak_outstanding (s := countBadCrc s) outstanding
  · simp only [badCrcArrives, hello]
    rfl
  · unfold badCrcArrives
    split
    next is => exact absurd is up
    next is => exact absurd is hello
    all_goals rfl

/-! ### Well-formed DATA frames (R100, R105) -/

theorem kindOf_code (k : RecordKind) : kindOf k.code = some k := by cases k <;> rfl

theorem winId_frame (w : WinId) : winId ((BitVec.ofNat 4 w.val).setWidth 8) = some w := by revert w; decide

/-- Well-formed contents make the entry that they spell (R100, R105). -/
theorem dataEntry_some {seq : Seq} {k : RecordKind} {w : WinId} {line : LineIndex} {mask : Mask} {data : LineData}
    (written : mask ≠ 0) (full : k = .copy → mask = BitVec.allOnes 64) :
    dataEntry seq k.code (BitVec.ofNat 4 w.val) (line.setWidth 24) mask data
      = some { seq := seq, kind := k, window := w, line := line, mask := mask, data := data, reject := none } := by
  have wide : (line.setWidth 24).toNat = line.toNat := BitVec.toNat_setWidth_of_le (by decide)
  have fits : (line.setWidth 24).toNat < 2 ^ 22 ∧ mask ≠ 0 ∧ (k = .copy → mask = fullMask) :=
    ⟨by rw [wide]; exact line.isLt, written, full⟩
  have back : (line.setWidth 24).setWidth 22 = line :=
    BitVec.eq_of_toNat_eq (by rw [BitVec.toNat_setWidth, wide, Nat.mod_eq_of_lt line.isLt])
  simp only [dataEntry, kindOf_code, winId_frame, if_pos fits, back]

/-- A well-formed DATA frame of the session epoch restarts the liveness timer and is judged by its number (R65, R100). -/
theorem exec_dataReceived_wellFormed {seq : Seq} {k : RecordKind} {w : WinId} {line : LineIndex} {mask : Mask}
    {data : LineData} (up : s.lc.state = .up) (written : mask ≠ 0) (full : k = .copy → mask = BitVec.allOnes 64) :
    exec (.dataReceived s.lc.epoch seq k.code (BitVec.ofNat 4 w.val) (line.setWidth 24) mask data) s
      = .next (judgeData
          { seq := seq, kind := k, window := w, line := line, mask := mask, data := data, reject := none }
          (restartLiveness s)) := by
  rw [exec_dataReceived up, dataArrives, dataEntry_some written full]

/-! ### The judgement by number (R1, R101 to R103) -/

/-- Of two numbers at most one is later than the other (R1). -/
theorem later_asymm {a b : Seq} (h : later a b = true) : later b a = false := by
  rw [later_iff] at h
  rw [Bool.eq_false_iff, Ne, later_iff]
  have := a.isLt
  have := b.isLt
  omega

/-- No number is later than itself (R1). -/
theorem ne_of_later {a b : Seq} (h : later a b = true) : a ≠ b := by
  rintro rfl
  rw [Machine.later_self] at h
  cases h

theorem overruns_iff {seq : Seq} : s.overruns seq = true ↔ 16 ≤ s.au.queue.length ∨ later seq s.au.advertised = true := by
  rw [State.overruns, Bool.or_eq_true, decide_eq_true_eq]

/-- The expected frame that overruns the queue or the limit is a limit violation (R101). -/
theorem judgeData_overruns (expected : e.seq = s.rc.expected) (overruns : s.overruns e.seq = true) :
    judgeData e s = limitViolated s := by
  rw [judgeData, if_pos expected, if_pos overruns]

/-- The expected frame that overruns nothing joins the queue, and an IDLE unit takes the head (R101, R107). -/
theorem judgeData_accepted (expected : e.seq = s.rc.expected) (fits : s.overruns e.seq = false) :
    judgeData e s = takeHead (joinQueue e s) := by
  rw [judgeData, if_pos expected, if_neg (by simp [fits])]

/-- A later frame is out of order (R103). -/
theorem judgeData_later (ahead : later e.seq s.rc.expected = true) :
    judgeData e s = oweNak (bump .outOfOrder s) := by
  rw [judgeData, if_neg (ne_of_later ahead), if_pos ahead]

/-- An earlier frame is a duplicate (R102). -/
theorem judgeData_earlier (behind : later s.rc.expected e.seq = true) :
    judgeData e s = oweAck (bump .duplicates s) := by
  rw [judgeData, if_neg (ne_of_later behind).symm, if_neg (by simp [later_asymm behind])]

/-- Settles O48. -/
theorem dataNotAccepted : Obligations.DataNotAccepted := by
  intro seq k w line mask data s up written full run alive
  have judged := exec_dataReceived_wellFormed (seq := seq) (w := w) (line := line) (data := data) up written full
  have live : (bump .duplicates (restartLiveness s)).lc.state = .up := up
  refine ⟨fun expected overruns => ?_, fun ahead outstanding => ?_, fun ahead clear => ?_, fun behind => ?_⟩
  · exact judged.trans (congrArg _ (judgeData_overruns (by exact expected) (overruns_iff.2 overruns)))
  · exact judged.trans (congrArg _ ((judgeData_later (by exact ahead)).trans (oweNak_outstanding (by exact outstanding))))
  · exact judged.trans (congrArg _ ((judgeData_later (by exact ahead)).trans (oweNak_clear (by exact clear))))
  · rw [judgeData_earlier (by exact behind)] at judged
    exact ⟨_, judged, by simp [restartLiveness, Only.refl], oweAck_lc, oweAck_counters, oweAck_au live,
      oweAck_lanes_kept.1, oweAck_lanes live⟩

/-! ### The head taken, as an equation (R107, R108, R110) -/

/-- An IDLE unit whose head passes its check requests that entry's write (R107, R108). -/
theorem takeEntries_fits (n : Nat) (idle : s.au.state = .idle) (waiting : s.au.queue = e :: rest)
    (fits : s.fits e = true) :
    takeEntries (n + 1) s = presentAp (s.writeOf e) (s.setAu { s.au with state := .writing }) := by
  simp only [takeEntries, waiting, idle, if_true, applyCheck_none.2 fits]
  rfl

/-- An IDLE unit whose head fails its check rejects that entry and goes on (R107, R110). -/
theorem takeEntries_fails (n : Nat) (idle : s.au.state = .idle) (waiting : s.au.queue = e :: rest)
    (fails : s.fits e = false) :
    takeEntries (n + 1) s = takeEntries n (finishEntry { e with reject := some (s.reasonOf e) } s) := by
  simp only [takeEntries, waiting, idle, if_true, applyCheck_fails fails]

/-- What one entry's turn can do: nothing, the request of the head's write, or the rejection of the head, after which the
unit goes on (R107, R108, R110). -/
theorem takeEntries_cases (n : Nat) :
    takeEntries (n + 1) s = s
      ∨ ∃ e rest, s.au.queue = e :: rest
        ∧ (takeEntries (n + 1) s = presentAp (s.writeOf e) (s.setAu { s.au with state := .writing })
          ∨ takeEntries (n + 1) s = takeEntries n (finishEntry { e with reject := some (s.reasonOf e) } s)) := by
  cases waiting : s.au.queue with
  | nil => exact .inl (by rw [takeEntries, waiting])
  | cons e rest =>
    by_cases idle : s.au.state = .idle
    · cases fits : s.fits e with
      | true => exact .inr ⟨e, rest, rfl, .inl (takeEntries_fits n idle waiting fits)⟩
      | false => exact .inr ⟨e, rest, rfl, .inr (takeEntries_fails n idle waiting fits)⟩
    · exact .inl (takeEntries_waits _ idle)

theorem takeHead_fits (idle : s.au.state = .idle) (waiting : s.au.queue = e :: rest) (fits : s.fits e = true) :
    takeHead s = presentAp (s.writeOf e) (s.setAu { s.au with state := .writing }) := by
  rw [takeHead, waiting]
  exact takeEntries_fits _ idle waiting fits

/-- In UP an IDLE unit whose head fails its check rejects that entry, and no further one (R107, R110). -/
theorem takeHead_fails (up : s.lc.state = .up) (idle : s.au.state = .idle) (waiting : s.au.queue = e :: rest)
    (fails : s.fits e = false) : takeHead s = finishEntry { e with reject := some (s.reasonOf e) } s := by
  rw [takeHead, waiting, List.length_cons, takeEntries_fails _ idle waiting fails]
  refine takeEntries_waits _ ?_
  rw [finishEntry_rejected up rfl]
  simp

/-- A unit that is not IDLE takes no head (R107). -/
theorem takeHead_waits (other : s.au.state ≠ .idle) : takeHead s = s := takeEntries_waits _ other

/-- The check of R107, as the obligations spell it. -/
theorem fits_iff : s.fits e = true ↔
    s.inb[e.window].enabled = true ∧ e.line.toNat * 64 + 64 ≤ s.inb[e.window].length.toNat := by
  rw [State.fits, Bool.and_eq_true, decide_eq_true_eq]

/-- A request presented behind a busy port waits, and the engine hears nothing of it (R172). -/
theorem presentAp_busy {x : Txn} (busy : s.da.port.isSome = true) :
    presentAp x s = s.setDa { s.da with ap := some x } := grant_busy (by exact busy)

/-- An IDLE unit with an empty queue requests the write of an accepted entry that passes its check (R101, R107, R108). -/
theorem judgeData_written (expected : e.seq = s.rc.expected) (room : s.overruns e.seq = false) (idle : s.au.state = .idle)
    (empty : s.au.queue = []) (fits : s.fits e = true) :
    judgeData e s = presentAp (s.writeOf e) ((joinQueue e s).setAu { (joinQueue e s).au with state := .writing }) := by
  have head : (joinQueue e s).au.queue = [e] := congrArg (· ++ [e]) empty
  rw [judgeData_accepted expected room, takeHead_fits (by exact idle) head (by exact fits)]
  rfl

/-- In UP an IDLE unit with an empty queue rejects an accepted entry that fails its check (R101, R107, R110). -/
theorem judgeData_rejected (up : s.lc.state = .up) (expected : e.seq = s.rc.expected) (room : s.overruns e.seq = false)
    (idle : s.au.state = .idle) (empty : s.au.queue = []) (fails : s.fits e = false) :
    judgeData e s = finishEntry { e with reject := some (s.reasonOf e) } (joinQueue e s) := by
  have head : (joinQueue e s).au.queue = [e] := congrArg (· ++ [e]) empty
  rw [judgeData_accepted expected room, takeHead_fails (by exact up) (by exact idle) head (by exact fails)]
  rfl

/-- Settles O47. -/
theorem dataAccepted : Obligations.DataAccepted := by
  intro seq k w line mask data s up written full expected room inLimit run e alive checker joined fits write
  have judged := exec_dataReceived_wellFormed (seq := seq) (w := w) (line := line) (data := data) up written full
  have free : (restartLiveness s).overruns seq = false := by
    rw [Bool.eq_false_iff, Ne, overruns_iff]
    rintro (crowded | beyond)
    · exact absurd crowded (Nat.not_le.2 room)
    · exact absurd (inLimit.symm.trans beyond) (by decide)
  refine ⟨fun waits => ?_, fun idle empty passes => ?_, fun idle empty fails => ?_⟩
  · have taken := (judgeData_accepted (e := e) (s := restartLiveness s) expected free).trans
      (takeHead_waits (by exact waits))
    exact judged.trans (congrArg _ taken)
  · have taken := judgeData_written (e := e) (s := restartLiveness s) expected free idle empty (fits_iff.2 passes)
    rw [show (restartLiveness s).writeOf e = write from rfl] at taken
    refine ⟨_, judged.trans (congrArg _ taken), by simp [joinQueue, restartLiveness, Only.refl], presentAp_lc,
      presentAp_rc, presentAp_au, applyAsked_grant (.inl rfl), fun held => ?_⟩
    rw [presentAp_busy (by exact held)]
    simp [joinQueue, restartLiveness]
  · have failed : (restartLiveness s).fits e = false := Bool.eq_false_iff.2 (mt fits_iff.1 fails)
    have taken := judgeData_rejected (e := e) (s := restartLiveness s) up expected free idle empty failed
    refine ⟨_, judged.trans (congrArg _ taken), by simp [joinQueue, restartLiveness, Only.refl], finishEntry_lc,
      finishEntry_rc, ?_⟩
    rw [finishEntry_rejected (s := joinQueue e (restartLiveness s)) up rfl]
    exact ⟨by rw [joinQueue]; simp [restartLiveness, empty], rfl, rfl, rfl, rfl, raise_has_self _ _, bump_counter_self _ _⟩

end Sys2Proof.Proofs.ReceivingApplying
end

section
/-! PROOF. The family 05_receiving_and_applying, part 2: the finish of an apply queue entry, in its three stages: the entry
leaves the queue, it is reported, and an emptied queue is told (R109 to R111, R115, R117). -/

namespace Sys2Proof.Proofs.ReceivingApplying

open Sys2Proof Sys2Proof.Machine Sys2Proof.Proofs.MirrorWindows Sys2Proof.Proofs.LinkSessions

variable {s : State} {e : ApplyEntry} {reason : RejectReason} {reject : Option RejectReason} {c : Counter}

/-! ### The three stages -/

/-- The first stage: the head entry off the queue (R109, R115, R117). -/
def headOff (e : ApplyEntry) (s : State) : State :=
  s.setAu
    { s.au with
      queue := s.au.queue.tail, state := .idle, appliedThrough := e.seq
      lastApplied := if s.isUp then s.au.lastApplied else e.seq
      promotion := if s.au.queue.tail.length ≤ 4 then false else s.au.promotion }

/-- The second stage: the report, with or without a reject (R109, R110, R111). -/
def reported : Option RejectReason → State → State
  | none, s => reportFinish s
  | some reason, s => reportReject reason s

/-- The third stage: an emptied queue is told (R59, R71, R117). -/
def emptyTold (s : State) : State :=
  if s.au.queue.isEmpty then
    applyQueueEmptied (s.setAu { s.au with drained := if s.isUp then s.au.drained else true })
  else s

theorem finishEntry_eq : finishEntry e s = emptyTold (reported e.reject (headOff e s)) := by
  unfold finishEntry
  cases e.reject <;> rfl

/-- The promotion flag as the queue's new length leaves it (R115). -/
theorem promotion_eq (p : Bool) (n : Nat) : (if n ≤ 4 then false else p) = (p && decide (4 < n)) := by
  by_cases few : n ≤ 4
  · simp [few, Nat.not_lt.2 few]
  · simp [few, Nat.lt_of_not_le few]

theorem headOff_up (up : s.lc.state = .up) :
    (headOff e s).au =
      { s.au with
        queue := s.au.queue.tail, state := .idle, appliedThrough := e.seq
        promotion := s.au.promotion && decide (4 < s.au.queue.tail.length) } := by
  rw [headOff, promotion_eq, if_pos (isUp_iff.2 up)]
  rfl

theorem headOff_down (down : s.lc.state ≠ .up) :
    (headOff e s).au =
      { s.au with
        queue := s.au.queue.tail, state := .idle, appliedThrough := e.seq, lastApplied := e.seq
        promotion := s.au.promotion && decide (4 < s.au.queue.tail.length) } := by
  rw [headOff, promotion_eq, if_neg (by simp [isUp_false down])]
  rfl

/-! ### The report (R110, R111) -/

/-- Outside UP a finish without a reject is reported to nobody (R111). -/
theorem reportFinish_down (down : s.lc.state ≠ .up) : reportFinish s = s := if_neg (Bool.eq_false_iff.1 (isUp_false down))

/-- Outside UP a reject is counted and raised, and reported to nobody (R110). -/
theorem reportReject_down (down : s.lc.state ≠ .up) :
    reportReject reason s = raise .rejectSent (bump .rejectsSent s) := if_neg (Bool.eq_false_iff.1 (isUp_false down))

/-- Short of a full batch, with a delay, a good entry is counted as unreported (R111). -/
theorem reportFinish_waits (up : s.lc.state = .up) (few : s.au.unreported + 1 < s.params.ackBatch.toNat)
    (delayed : s.params.ackDelay ≠ 0) :
    reportFinish s = s.setAu
      { s.au with
        unreported := s.au.unreported + 1
        ackDelay := if s.au.unreported = 0 then some s.params.ackDelay.toNat else s.au.ackDelay } :=
  (if_pos (isUp_iff.2 up)).trans (if_neg (not_or.2 ⟨Nat.not_le.2 few, delayed⟩))

/-- With a full batch, or without a delay, an ACK becomes owed at once (R111). -/
theorem reportFinish_owes (up : s.lc.state = .up)
    (due : s.params.ackBatch.toNat ≤ s.au.unreported + 1 ∨ s.params.ackDelay = 0) :
    reportFinish s = oweAck (s.setAu
      { s.au with
        unreported := s.au.unreported + 1
        ackDelay := if s.au.unreported = 0 then some s.params.ackDelay.toNat else s.au.ackDelay }) :=
  (if_pos (isUp_iff.2 up)).trans (if_pos due)

/-- That ACK reports every finished entry (R111, R112). -/
theorem reportFinish_acks (up : s.lc.state = .up)
    (due : s.params.ackBatch.toNat ≤ s.au.unreported + 1 ∨ s.params.ackDelay = 0) :
    (reportFinish s).au.unreported = 0 ∧ (reportFinish s).au.ackDelay = none
      ∧ AckOwed s.au.appliedThrough (s.au.appliedThrough + 16) s.lanes.owed (reportFinish s).lanes.owed := by
  rw [reportFinish_owes up due]
  generalize counted : s.setAu _ = b
  have live : b.lc.state = .up := by rw [← counted]; exact up
  have through : b.au.appliedThrough = s.au.appliedThrough := by rw [← counted]; rfl
  have lanes : b.lanes = s.lanes := by rw [← counted]; rfl
  have owed := oweAck_lanes live
  rw [through, lanes] at owed
  exact ⟨congrArg _ (oweAck_au live), congrArg _ (oweAck_au live), owed⟩

/-- The report of a good entry touches no more of the apply unit than its unreported count and its ack delay timer (R111). -/
theorem reportFinish_au : (reportFinish s).au =
    { s.au with unreported := (reportFinish s).au.unreported, ackDelay := (reportFinish s).au.ackDelay } := by
  by_cases up : s.lc.state = .up
  · by_cases due : s.params.ackBatch.toNat ≤ s.au.unreported + 1 ∨ s.params.ackDelay = 0
    · rw [reportFinish_owes up due, oweAck_au (by exact up)]
      rfl
    · obtain ⟨few, delayed⟩ := not_or.1 due
      rw [reportFinish_waits up (Nat.lt_of_not_le few) delayed]
      rfl
  · rw [reportFinish_down up]

/-- The report of a good entry begins no frame (R112). -/
theorem reportFinish_lanes_kept :
    (reportFinish s).lanes.frame = s.lanes.frame ∧ (reportFinish s).lanes.goodbye = s.lanes.goodbye := by
  by_cases up : s.lc.state = .up
  · by_cases due : s.params.ackBatch.toNat ≤ s.au.unreported + 1 ∨ s.params.ackDelay = 0
    · rw [reportFinish_owes up due]
      exact oweAck_lanes_kept
    · obtain ⟨few, delayed⟩ := not_or.1 due
      rw [reportFinish_waits up (Nat.lt_of_not_le few) delayed]
      exact ⟨rfl, rfl⟩
  · rw [reportFinish_down up]
    exact ⟨rfl, rfl⟩

theorem reported_only : Only [.lanes, .au, .al, .counters] s (reported reject s) := by
  cases reject <;> simp [reported, Only.refl]

/-- Outside UP a report leaves the apply unit and the lanes (R110, R111). -/
theorem reported_down (down : s.lc.state ≠ .up) : (reported reject s).au = s.au ∧ (reported reject s).lanes = s.lanes := by
  cases reject with
  | none => exact ⟨congrArg _ (reportFinish_down down), congrArg _ (reportFinish_down down)⟩
  | some reason =>
    rw [reported, reportReject_down down]
    exact ⟨rfl, rfl⟩

/-- A reject is raised and counted, in every link state (R110). -/
theorem reportReject_flags : (reportReject reason s).al = (raise .rejectSent s).al
    ∧ (reportReject reason s).counters = (bump .rejectsSent s).counters := by
  unfold reportReject
  dsimp only
  split <;> exact ⟨rfl, rfl⟩

/-! ### The emptied queue (R59, R71, R117) -/

theorem emptyTold_only : Only [.lanes, .au] s (emptyTold s) := by simp [emptyTold, Only.refl]

/-- In UP an emptied queue changes nothing (R71, R117). -/
theorem emptyTold_up (up : s.lc.state = .up) : emptyTold s = s := by
  rw [emptyTold, applyQueueEmptied_up up, ite_self]

/-- Outside UP the drain ends with the queue (R117). -/
theorem emptyTold_au_down (down : s.lc.state ≠ .up) :
    (emptyTold s).au = { s.au with drained := if s.au.queue = [] then true else s.au.drained } := by
  by_cases empty : s.au.queue = []
  · simp [emptyTold, empty, isUp_false down]
  · simp [emptyTold, empty]

/-- A queue that is emptied in HELLO makes the withheld HELLO owed (R59, R71; log 10). -/
theorem emptyTold_lanes :
    (emptyTold s).lanes = if s.au.queue = [] then (applyQueueEmptied s).lanes else s.lanes := by
  by_cases empty : s.au.queue = []
  · rw [emptyTold, if_pos (by simp [empty]), if_pos empty, applyQueueEmptied_lanes, applyQueueEmptied_lanes]
    rfl
  · simp [emptyTold, empty]

/-! ### The whole finish -/

/-- In UP an entry without a reject leaves the queue and is reported (R109, R111). -/
theorem finishEntry_good (up : s.lc.state = .up) (good : e.reject = none) :
    finishEntry e s = reportFinish (headOff e s) := by
  rw [finishEntry_eq, good]
  exact emptyTold_up ((congrArg _ (reported_only .lc (by decide))).trans up)

/-- Outside UP a finished entry leaves the queue, and the books of the drain follow it (R109, R117). -/
theorem finishEntry_au_down (down : s.lc.state ≠ .up) :
    (finishEntry e s).au =
      { s.au with
        queue := s.au.queue.tail, state := .idle, appliedThrough := e.seq, lastApplied := e.seq
        promotion := s.au.promotion && decide (4 < s.au.queue.tail.length)
        drained := if s.au.queue.tail = [] then true else s.au.drained } := by
  have live : (reported e.reject (headOff e s)).lc.state ≠ .up := by
    rw [reported_only .lc (by decide)]
    exact down
  rw [finishEntry_eq, emptyTold_au_down live, (reported_down (by exact down)).1, headOff_down down]

/-- Outside UP a finished entry sends nothing, but a queue that it empties in HELLO makes the withheld HELLO owed (R59,
R111). -/
theorem finishEntry_lanes_down (down : s.lc.state ≠ .up) :
    (finishEntry e s).lanes = if s.au.queue.tail = [] then (applyQueueEmptied s).lanes else s.lanes := by
  obtain ⟨au, lanes⟩ := reported_down (s := headOff e s) (reject := e.reject) down
  have lc : (reported e.reject (headOff e s)).lc = s.lc := reported_only .lc (by decide)
  rw [finishEntry_eq, emptyTold_lanes, applyQueueEmptied_lanes, applyQueueEmptied_lanes, au, lanes, lc]
  rfl

/-- What a finish leaves of the queue, the state and the promotion flag, in every link state (R109, R110, R115). -/
theorem finishEntry_books :
    (finishEntry e s).au.queue = s.au.queue.tail ∧ (finishEntry e s).au.state ≠ .writing
      ∧ (finishEntry e s).au.promotion = (s.au.promotion && decide (4 < s.au.queue.tail.length)) := by
  by_cases up : s.lc.state = .up
  · cases reject : e.reject with
    | none =>
      rw [finishEntry_good up reject, reportFinish_au, headOff_up up]
      exact ⟨rfl, nofun, rfl⟩
    | some reason =>
      rw [finishEntry_rejected up reject, ← promotion_eq]
      exact ⟨rfl, nofun, rfl⟩
  · rw [finishEntry_au_down up]
    exact ⟨rfl, nofun, rfl⟩

/-! ### Flags and counters of a finish (R110, R190) -/

theorem emptyTold_flags : (emptyTold s).al = s.al ∧ (emptyTold s).counters = s.counters :=
  ⟨emptyTold_only .al (by decide), emptyTold_only .counters (by decide)⟩

/-- A finish without a reject raises and counts nothing (R109). -/
theorem finishEntry_silent (good : e.reject = none) :
    (finishEntry e s).al = s.al ∧ (finishEntry e s).counters = s.counters := by
  have frame : Only [.lanes, .au] (headOff e s) (reportFinish (headOff e s)) := by simp [Only.refl]
  rw [finishEntry_eq, good, emptyTold_flags.1, emptyTold_flags.2]
  exact ⟨frame .al (by decide), frame .counters (by decide)⟩

/-- A finish with a reject raises REJECT_SENT and counts the reject (R110). -/
theorem finishEntry_raises (rejected : e.reject = some reason) :
    (finishEntry e s).al = (raise .rejectSent s).al ∧ (finishEntry e s).counters = (bump .rejectsSent s).counters := by
  rw [finishEntry_eq, rejected, emptyTold_flags.1, emptyTold_flags.2]
  exact reportReject_flags

/-- A finish counts rejects only (R110). -/
theorem finishEntry_counter (other : c ≠ .rejectsSent) : (finishEntry e s).counter c = s.counter c := by
  cases reject : e.reject with
  | none => exact counter_of_counters (finishEntry_silent reject).2 c
  | some reason =>
    exact (counter_of_counters (finishEntry_raises reject).2 c).trans ((bump_counter _ c s).trans (if_neg other))

end Sys2Proof.Proofs.ReceivingApplying
end

section
/-! PROOF. The family 05_receiving_and_applying, part 3: the heads that the apply unit takes after a finish, and the completion
of an apply write (O57). Outside UP the entries are followed by induction on the queue behind the finished one. -/

namespace Sys2Proof.Proofs.ReceivingApplying

open Sys2Proof Sys2Proof.Machine Sys2Proof.Proofs.MirrorWindows Sys2Proof.Proofs.WriteCapture
  Sys2Proof.Proofs.LinkSessions

variable {s t u : State} {e : ApplyEntry} {rest : List ApplyEntry} {r : Result}

/-! ### The heads taken, in every link state (R107, R108, R115, R173) -/

/-- Behind a busy port the heads taken leave no more at the arbiter than the request of the one that is to be written, and
nothing at the engine (R108, R173). -/
theorem takeEntries_request (n : Nat) (busy : s.da.port.isSome = true) (other : s.au.state ≠ .writing) :
    (takeEntries n s).re = s.re
      ∧ (takeEntries n s).da =
        { s.da with
          ap :=
            if (takeEntries n s).au.state = .writing then (takeEntries n s).au.queue.head?.map s.writeOf else s.da.ap } := by
  induction n generalizing s with
  | zero => exact ⟨rfl, by rw [takeEntries, if_neg other]⟩
  | succ n ih =>
    obtain stays | ⟨e, rest, waiting, asks | rejects⟩ := takeEntries_cases (s := s) n
    · rw [stays, if_neg other]
      exact ⟨rfl, rfl⟩
    · rw [asks, presentAp_busy (by exact busy)]
      simp [waiting]
    · obtain ⟨engine, request⟩ := ih (s := finishEntry { e with reject := some (s.reasonOf e) } s)
        (by rwa [finishEntry_da]) finishEntry_books.2.1
      rw [rejects, engine, request, finishEntry_da, finishEntry_re, writeOf_congr finishEntry_inb]
      exact ⟨rfl, rfl⟩

/-- The promotion flag follows the queue through the heads taken: it is lost where the queue has come down to four (R115). -/
theorem takeEntries_promotion (n : Nat) {p : Bool} (before : s.au.promotion = (p && decide (4 < s.au.queue.length))) :
    (takeEntries n s).au.promotion = (p && decide (4 < (takeEntries n s).au.queue.length)) := by
  induction n generalizing s with
  | zero => exact before
  | succ n ih =>
    obtain stays | ⟨e, rest, waiting, asks | rejects⟩ := takeEntries_cases (s := s) n
    · rwa [stays]
    · rw [asks, presentAp_au]
      exact before
    · obtain ⟨queue, -, promotion⟩ := finishEntry_books (s := s) (e := { e with reject := some (s.reasonOf e) })
      have shorter : (decide (4 < rest.length + 1) && decide (4 < rest.length)) = decide (4 < rest.length) := by
        rw [Bool.and_eq_right_iff_imp, decide_eq_true_eq, decide_eq_true_eq]
        omega
      rw [rejects]
      refine ih ?_
      rw [promotion, queue, before, waiting, Bool.and_assoc]
      exact congrArg _ shorter

/-- The heads taken count rejects only (R110). -/
theorem takeEntries_counter (n : Nat) {c : Counter} (other : c ≠ .rejectsSent) :
    (takeEntries n s).counter c = s.counter c := by
  induction n generalizing s with
  | zero => rfl
  | succ n ih =>
    obtain stays | ⟨e, rest, -, asks | rejects⟩ := takeEntries_cases (s := s) n
    · rw [stays]
    · rw [asks]
      exact counter_of_counters presentAp_counters c
    · rw [rejects]
      exact ih.trans (finishEntry_counter other)

/-! ### The heads taken outside UP (R107, R110, R117) -/

/-- The entries that the unit drops before it comes to one that passes its check (R107). -/
def dropped (s : State) (rest : List ApplyEntry) : List ApplyEntry := rest.takeWhile (fun e => !s.fits e)

/-- The entries that are left, from the first that passes its check on (R107). -/
def left (s : State) (rest : List ApplyEntry) : List ApplyEntry := rest.dropWhile (fun e => !s.fits e)

theorem dropped_congr (inb : t.inb = s.inb) : dropped t rest = dropped s rest := by rw [dropped, fits_congr inb, dropped]

theorem left_congr (inb : t.inb = s.inb) : left t rest = left s rest := by rw [left, fits_congr inb, left]

theorem cut_fits (fits : s.fits e = true) : dropped s (e :: rest) = [] ∧ left s (e :: rest) = e :: rest := by
  simp [dropped, left, fits]

theorem cut_fails (fails : s.fits e = false) :
    dropped s (e :: rest) = e :: dropped s rest ∧ left s (e :: rest) = left s rest := by
  simp [dropped, left, fails]

/-- What becomes, outside UP, of the entries `rest` behind an entry `e` that `s` finishes: those that fail their check are
dropped up to the first that passes, and the drain ends with the queue. -/
structure Drained (e : ApplyEntry) (rest : List ApplyEntry) (s t : State) : Prop where
  queue : t.au.queue = left s rest
  applied : t.au.appliedThrough = (dropped s rest).foldl (fun _ e' => e'.seq) e.seq
  lastApplied : t.au.lastApplied = t.au.appliedThrough
  unreported : t.au.unreported = s.au.unreported
  state : t.au.state = if left s rest = [] then .idle else .writing
  drained : t.au.drained = if left s rest = [] then true else s.au.drained
  lanes : t.lanes = if left s rest = [] then (applyQueueEmptied s).lanes else s.lanes
  silent : e.reject = none → dropped s rest = [] → t.al = s.al ∧ t.counters = s.counters
  raised : dropped s rest ≠ [] → t.al.detail.has .rejectSent = true

/-- What the drain sends: nothing, but the HELLO that an emptied queue has withheld (R59, R71; log 10). -/
theorem drained_lanes (sent : t.lanes = if left s rest = [] then (applyQueueEmptied s).lanes else s.lanes) :
    t.lanes.frame = s.lanes.frame ∧ t.lanes.goodbye = s.lanes.goodbye
      ∧ (s.lc.state = .hello → left s rest = [] → .hello ∉ s.lanes.owed → t.lanes.owed = .hello :: s.lanes.owed)
      ∧ (s.lc.state ≠ .hello ∨ left s rest ≠ [] → t.lanes.owed = s.lanes.owed) := by
  rw [applyQueueEmptied_lanes] at sent
  by_cases none : left s rest = []
  · rw [if_pos none] at sent
    refine ⟨by rw [sent], by rw [sent], fun hello _ absent => ?_, fun other => ?_⟩
    · rw [sent, if_pos ⟨hello, absent⟩]
    · have silent : s.lc.state ≠ .hello := other.resolve_right (not_not.2 none)
      rw [sent, if_neg (fun h => silent h.1)]
  · rw [if_neg none] at sent
    exact ⟨by rw [sent], by rw [sent], fun _ empty => absurd empty none, fun _ => by rw [sent]⟩

/-- A finished entry with none behind it ends the drain. -/
theorem drained_last (down : s.lc.state ≠ .up) (last : s.au.queue.tail = []) : Drained e [] s (finishEntry e s) := by
  have au := finishEntry_au_down (e := e) down
  have lanes := finishEntry_lanes_down (e := e) down
  rw [last] at au lanes
  constructor
  case silent => exact fun good _ => finishEntry_silent good
  all_goals simp [au, lanes, left, dropped]

/-- A finished entry with one behind it that passes its check ends the taking of entries: that one is written. -/
theorem drained_next {next : ApplyEntry} (down : s.lc.state ≠ .up) (behind : s.au.queue.tail = next :: rest)
    (fits : s.fits next = true) : Drained e (next :: rest) s
      (presentAp (s.writeOf next) ((finishEntry e s).setAu { (finishEntry e s).au with state := .writing })) := by
  have au := finishEntry_au_down (e := e) down
  have lanes := finishEntry_lanes_down (e := e) down
  obtain ⟨none, all⟩ := cut_fits (rest := rest) fits
  rw [behind] at au lanes
  constructor
  case silent => exact fun good _ => by simpa using finishEntry_silent good
  all_goals simp [au, lanes, none, all]

/-- A finished entry with one behind it that fails its check goes on with the finish of that one. -/
theorem drained_dropped {next : ApplyEntry} {reason : RejectReason} (down : s.lc.state ≠ .up)
    (behind : s.au.queue.tail = next :: rest) (fails : s.fits next = false)
    (flags : FlagsKept (finishEntry { next with reject := some reason } (finishEntry e s)) t)
    (h : Drained { next with reject := some reason } rest (finishEntry e s) t) : Drained e (next :: rest) s t := by
  have au := finishEntry_au_down (e := e) down
  have lanes := finishEntry_lanes_down (e := e) down
  rw [behind, if_neg (List.cons_ne_nil _ _)] at au lanes
  have emptied : (applyQueueEmptied (finishEntry e s)).lanes = (applyQueueEmptied s).lanes := by
    rw [applyQueueEmptied_lanes, applyQueueEmptied_lanes, lanes, finishEntry_lc]
  obtain ⟨queue, applied, lastApplied, unreported, state, drained, sent, -, -⟩ := h
  rw [left_congr finishEntry_inb] at queue state drained sent
  rw [dropped_congr finishEntry_inb] at applied
  rw [au] at unreported drained
  rw [emptied, lanes] at sent
  obtain ⟨more, less⟩ := cut_fails (rest := rest) fails
  rw [← less] at queue state drained sent
  refine ⟨queue, ?_, lastApplied, unreported, state, drained, sent, fun _ none => ?_, fun _ => flags _ ?_⟩
  · rw [more]
    exact applied
  · rw [more] at none
    cases none
  · rw [(finishEntry_raises rfl).1]
    exact raise_has_self _ _

/-- Outside UP the unit drains after a finish (R117). -/
theorem drained_takeEntries (n : Nat) (enough : rest.length ≤ n) (down : s.lc.state ≠ .up)
    (behind : s.au.queue.tail = rest) : Drained e rest s (takeEntries n (finishEntry e s)) := by
  induction rest generalizing n e s with
  | nil =>
    have none : (finishEntry e s).au.queue = [] := finishEntry_books.1.trans behind
    have stays : takeEntries n (finishEntry e s) = finishEntry e s := by
      cases n with
      | zero => rfl
      | succ n => rw [takeEntries, none]
    rw [stays]
    exact drained_last down behind
  | cons next rest ih =>
    obtain ⟨m, rfl⟩ : ∃ m, n = m + 1 := ⟨n - 1, by simp at enough; omega⟩
    have au := finishEntry_au_down (e := e) down
    have idle : (finishEntry e s).au.state = .idle := by rw [au]
    have waiting : (finishEntry e s).au.queue = next :: rest := finishEntry_books.1.trans behind
    have fits : (finishEntry e s).fits = s.fits := fits_congr finishEntry_inb
    by_cases passes : s.fits next = true
    · rw [takeEntries_fits m idle waiting (by rwa [fits]), writeOf_congr finishEntry_inb]
      exact drained_next down behind passes
    · have fails : s.fits next = false := by simpa using passes
      rw [takeEntries_fails m idle waiting (by rwa [fits])]
      refine drained_dropped down behind fails (flagsKept_takeEntries _ _)
        (ih m (by simpa using enough) (by rwa [finishEntry_lc]) ?_)
      rw [waiting, List.tail_cons]

/-! ### The completion of an apply write (R109, R118) -/

/-- The head entry with the result of its write (R109). -/
def written (e : ApplyEntry) : Result → ApplyEntry
  | .ok => e
  | .err => { e with reject := some .memory }

/-- What the unit notes of a result before the finish (R109). -/
def noted (s : State) : Result → State
  | .ok => s
  | .err => applyError s

/-- The state after the completion of a write of `e`, with `rest` behind it, before the port is granted again: the entry is
finished and the next heads are taken. -/
def handled (e : ApplyEntry) (rest : List ApplyEntry) (r : Result) (s : State) : State :=
  takeEntries rest.length (finishEntry (written e r) (noted s r))

theorem noted_only : Only [.al, .counters] s (noted s r) := by cases r <;> simp [noted, Only.refl]

theorem written_seq : (written e r).seq = e.seq := by cases r <;> rfl

/-- The row is the completion of the apply write that holds the port; the next grant follows its handling (R173). -/
theorem exec_applyWriteComplete {x : Txn} (port : s.da.port = some ⟨.ap, x⟩) :
    exec (.applyWriteComplete r) s = .next (releasePort (applyWriteDone r s)) := by
  have owner : s.portClient = some .ap := by simp [State.portClient, port]
  exact congrArg _ (if_pos owner)

/-- A result that RESET_MIRROR has orphaned is ignored (R118). -/
theorem applyWriteDone_ignored (orphaned : s.au.writeIgnored = true) :
    applyWriteDone r s = s.setAu { s.au with writeIgnored := false } := if_pos orphaned

theorem finishEntry_behind (waiting : s.au.queue = e :: rest) :
    (finishEntry (written e r) (noted s r)).au.queue = rest := by
  rw [finishEntry_books.1, noted_only .au (by decide), waiting, List.tail_cons]

/-- Any other result finishes the head entry, and the unit takes its next heads (R109). -/
theorem applyWriteDone_handled (counts : s.au.writeIgnored = false) (writing : s.au.state = .writing)
    (waiting : s.au.queue = e :: rest) : applyWriteDone r s = handled e rest r s := by
  have done : applyWriteDone r s = takeHead (finishEntry (written e r) (noted s r)) := by
    rw [applyWriteDone, if_neg (by simp [counts])]
    simp only [finishWrite, waiting, if_pos writing]
    cases r <;> rfl
  rw [done, takeHead, finishEntry_behind waiting, handled]

theorem handled_only : Only [.au, .lanes, .da, .re, .al, .counters] s (handled e rest r s) :=
  (noted_only (r := r)).mono (by decide) |>.trans (by simp [handled, Only.refl])

theorem handled_promotion :
    (handled e rest r s).au.promotion = (s.au.promotion && decide (4 < (handled e rest r s).au.queue.length)) := by
  refine takeEntries_promotion _ ?_
  obtain ⟨queue, -, promotion⟩ := finishEntry_books (e := written e r) (s := noted s r)
  rw [promotion, queue, noted_only .au (by decide)]

/-- The completed write holds the port while it is handled, so the engine hears nothing and the arbiter only of a next head
that is to be written (R108, R173). -/
theorem handled_request (busy : s.da.port.isSome = true) :
    (handled e rest r s).re = s.re
      ∧ (handled e rest r s).da =
        { s.da with
          ap :=
            if (handled e rest r s).au.state = .writing then (handled e rest r s).au.queue.head?.map s.writeOf
            else s.da.ap } := by
  have da : (finishEntry (written e r) (noted s r)).da = s.da := finishEntry_da.trans (noted_only .da (by decide))
  have re : (finishEntry (written e r) (noted s r)).re = s.re := finishEntry_re.trans (noted_only .re (by decide))
  have inb : (finishEntry (written e r) (noted s r)).inb = s.inb := finishEntry_inb.trans (noted_only .inb (by decide))
  obtain ⟨engine, request⟩ := takeEntries_request rest.length (s := finishEntry (written e r) (noted s r))
    (by rwa [da]) finishEntry_books.2.1
  rw [da, writeOf_congr inb] at request
  exact ⟨engine.trans re, request⟩

/-- The port that an apply write leaves is granted again, with the apply unit's request as its handling left it (R173). -/
theorem applyWriteEnds_releasePort {ap : Option Txn} (da : u.da = { s.da with ap := ap }) (re : u.re = s.re) :
    ApplyWriteEnds ap s (releasePort u) := by
  refine ⟨_, releasePort_eq, ?_, re⟩
  rw [da]

/-! ### The completion in UP (R109 to R112) -/

/-- The head taken behind a busy port is taken still when the port is granted again (R107, R173). -/
theorem headTaken_releasePort (h : HeadTaken s t)
    (waits : ∀ e rest, s.au.queue = e :: rest → s.fits e = true → t.da.ap = some (s.writeOf e)) :
    HeadTaken s (releasePort t) := by
  unfold HeadTaken at h ⊢
  split at h
  next empty =>
    rw [releasePort_au, releasePort_lanes, releasePort_al, releasePort_counters]
    exact h
  next e rest waiting =>
    obtain ⟨passed, failed⟩ := h
    refine ⟨fun fits => ?_, fun fails => ?_⟩
    · obtain ⟨au, lanes, al, counters, -⟩ := passed fits
      exact ⟨releasePort_au.trans au, releasePort_lanes.trans lanes, releasePort_al.trans al,
        releasePort_counters.trans counters, applyAsked_grant (.inl (waits e rest waiting fits))⟩
    · have counter (c : Counter) : (releasePort t).counter c = t.counter c := counter_of_counters releasePort_counters c
      simpa only [releasePort_au, releasePort_lanes, releasePort_al, counter] using failed fails

/-- What a good write's finish leaves in UP (R109, R111). -/
structure Reported (e : ApplyEntry) (rest : List ApplyEntry) (s u : State) : Prop where
  inb : u.inb = s.inb
  al : u.al = s.al
  counters : u.counters = s.counters
  frame : u.lanes.frame = s.lanes.frame
  goodbye : u.lanes.goodbye = s.lanes.goodbye
  au : u.au =
    { s.au with
      queue := rest, state := .idle, appliedThrough := e.seq
      promotion := s.au.promotion && decide (4 < rest.length)
      unreported := u.au.unreported, ackDelay := u.au.ackDelay }
  waits : s.au.unreported + 1 < s.params.ackBatch.toNat → s.params.ackDelay ≠ 0 →
    u.au.unreported = s.au.unreported + 1 ∧ u.lanes.owed = s.lanes.owed
      ∧ u.au.ackDelay = if s.au.unreported = 0 then some s.params.ackDelay.toNat else s.au.ackDelay
  owes : s.params.ackBatch.toNat ≤ s.au.unreported + 1 ∨ s.params.ackDelay = 0 →
    u.au.unreported = 0 ∧ u.au.ackDelay = none ∧ AckOwed e.seq (e.seq + 16) s.lanes.owed u.lanes.owed

theorem finishEntry_reported (up : s.lc.state = .up) (waiting : s.au.queue = e :: rest) (good : e.reject = none) :
    Reported e rest s (finishEntry e s) := by
  have run := finishEntry_good up good
  have off : (headOff e s).au =
      { s.au with
        queue := rest, state := .idle, appliedThrough := e.seq
        promotion := s.au.promotion && decide (4 < rest.length) } := by
    rw [headOff_up up, waiting, List.tail_cons]
  obtain ⟨frame, goodbye⟩ := reportFinish_lanes_kept (s := headOff e s)
  obtain ⟨al, counters⟩ := finishEntry_silent (s := s) good
  refine ⟨finishEntry_inb, al, counters, (congrArg (·.lanes.frame) run).trans frame,
    (congrArg (·.lanes.goodbye) run).trans goodbye, ?_, fun few delayed => ?_, fun due => ?_⟩
  · rw [run, reportFinish_au, off]
  · rw [run, reportFinish_waits (by exact up) (by rw [off]; exact few) (by exact delayed)]
    simp [headOff]
  · rw [run]
    exact reportFinish_acks (s := headOff e s) up due

/-- A good write in UP is reported, and the unit takes its next head, if there is one (R107, R109). -/
theorem handled_good (busy : s.da.port.isSome = true) (up : s.lc.state = .up) (waiting : s.au.queue = e :: rest)
    (good : e.reject = none) : HeadTaken (finishEntry e s) (releasePort (handled e rest .ok s)) := by
  have idle : (finishEntry e s).au.state = .idle := by rw [(finishEntry_reported up waiting good).au]
  have behind : (finishEntry e s).au.queue = rest := finishEntry_behind (r := .ok) waiting
  have taken : handled e rest .ok s = takeHead (finishEntry e s) := by
    rw [takeHead, behind]
    rfl
  rw [taken]
  refine headTaken_releasePort (headTaken_takeHead (by rwa [finishEntry_lc]) idle) fun next more head fits => ?_
  rw [takeHead_fits idle head fits, presentAp_busy (by simpa using busy)]
  rfl

/-- A write that failed in UP is rejected in an ACK of its own, and the unit is BLOCKED (R109, R110). -/
theorem handled_err (up : s.lc.state = .up) (waiting : s.au.queue = e :: rest) :
    (handled e rest .err s).au =
        { s.au with
          queue := rest, state := .blocked, appliedThrough := e.seq
          promotion := s.au.promotion && decide (4 < rest.length), unreported := 0, ackDelay := none }
      ∧ (handled e rest .err s).lanes =
        { s.lanes with owed := s.lanes.owed ++ [.ack e.seq (e.seq + 16) (some .memory)] }
      ∧ (handled e rest .err s).counter .rejectsSent = saturate (s.counter .rejectsSent) := by
  have au : (noted s .err).au = s.au := noted_only .au (by decide)
  have rejects : (noted s .err).counter .rejectsSent = s.counter .rejectsSent :=
    (bump_counter _ _ _).trans (if_neg (by decide))
  have finished := finishEntry_rejected (e := written e .err) (s := noted s .err) up rfl
  rw [promotion_eq, au, waiting] at finished
  have blocked : (finishEntry (written e .err) (noted s .err)).au.state ≠ .idle := by
    rw [finished]
    exact nofun
  rw [handled, takeEntries_waits _ blocked, finished]
  exact ⟨rfl, rfl, (bump_counter_self _ _).trans (congrArg _ rejects)⟩

/-! ### The completion in every link state, and outside UP (R109, R110, R117) -/

/-- A write that failed is raised and counted as a memory error, and raised as a reject (R109, R110). -/
theorem handled_err_flags :
    (handled e rest .err s).al.detail.has .localMemoryError = true
      ∧ (handled e rest .err s).al.detail.has .rejectSent = true
      ∧ (handled e rest .err s).counter .localErrors = saturate (s.counter .localErrors) := by
  have al := (finishEntry_raises (e := written e .err) (s := noted s .err) (reason := .memory) rfl).1
  have kept := flagsKept_takeEntries rest.length (finishEntry (written e .err) (noted s .err))
  refine ⟨kept _ ?_, kept _ ?_, ?_⟩
  · rw [al]
    exact raise_has_of _ _ _ (raise_has_self _ s)
  · rw [al]
    exact raise_has_self _ _
  · rw [handled, takeEntries_counter _ (by decide), finishEntry_counter (by decide)]
    exact bump_counter_self _ _

/-- Outside UP the unit drains after the completion (R117). -/
theorem handled_drained (down : s.lc.state ≠ .up) (waiting : s.au.queue = e :: rest) :
    Drained (written e r) rest s (handled e rest r s) := by
  have au : (noted s r).au = s.au := noted_only .au (by decide)
  have inb : (noted s r).inb = s.inb := noted_only .inb (by decide)
  have lc : (noted s r).lc = s.lc := noted_only .lc (by decide)
  have lanes : (noted s r).lanes = s.lanes := noted_only .lanes (by decide)
  obtain ⟨queue, applied, lastApplied, unreported, state, drained, sent, silent, raised⟩ :=
    drained_takeEntries (e := written e r) (s := noted s r) rest.length (le_refl _) (by rwa [lc])
      (by rw [au, waiting, List.tail_cons])
  rw [left_congr inb] at queue state drained sent
  rw [dropped_congr inb] at applied raised silent
  rw [au] at unreported drained
  rw [applyQueueEmptied_lanes, lc, lanes, ← applyQueueEmptied_lanes] at sent
  refine ⟨queue, applied, lastApplied, unreported, state, drained, sent, ?_, raised⟩
  cases r with
  | ok => exact silent
  | err => exact nofun

/-- Settles O57. -/
theorem applyWriteCompleteResult : Obligations.ApplyWriteCompleteResult := by
  intro r x s port
  have busy : s.da.port.isSome = true := by rw [port]; rfl
  have run := exec_applyWriteComplete (r := r) port
  refine ⟨fun orphaned => ?_, fun e rest counts writing waiting good => ?_⟩
  · rw [applyWriteDone_ignored orphaned] at run
    exact ⟨_, run, by simp [Only.refl], releasePort_au, applyWriteEnds_releasePort rfl rfl⟩
  intro promotion
  rw [applyWriteDone_handled counts writing waiting] at run
  obtain ⟨engine, request⟩ := handled_request (e := e) (rest := rest) (r := r) busy
  refine ⟨_, run, handled_only.trans (releasePort_only.mono (by decide)), ?_, ?_, ?_, ?_, ?_, ?_⟩
  · rw [releasePort_au, handled_promotion]
  · rw [releasePort_au]
    exact applyWriteEnds_releasePort request engine
  · rintro rfl up
    obtain ⟨inb, al, counters, frame, goodbye, au, waits, owes⟩ := finishEntry_reported up waiting good
    exact ⟨_, handled_good busy up waiting good, inb, al, counters, frame, goodbye, au, waits, owes⟩
  · rintro rfl up
    obtain ⟨au, lanes, rejects⟩ := handled_err up waiting
    exact ⟨releasePort_au.trans au, releasePort_lanes.trans lanes,
      (counter_of_counters releasePort_counters _).trans rejects⟩
  · rintro rfl
    rw [releasePort_al, counter_of_counters releasePort_counters]
    exact handled_err_flags
  · intro down gone remaining
    obtain ⟨queue, applied, lastApplied, unreported, state, drained, sent, silent, raised⟩ :=
      handled_drained (r := r) down waiting
    obtain ⟨frame, goodbye, owed, kept⟩ := drained_lanes sent
    rw [written_seq] at applied
    rw [releasePort_au, releasePort_lanes, releasePort_al, releasePort_counters]
    refine ⟨queue, applied, lastApplied, unreported, state, drained, frame, goodbye, owed, kept, ?_, raised, ?_⟩
    · rintro rfl none
      exact silent good none
    · intro next more there
      have head : left s rest = next :: more := there
      refine applyAsked_grant (.inl ?_)
      simp [request, state, queue, head]

end Sys2Proof.Proofs.ReceivingApplying
end

section
/-! PROOF. The family 06_dirty_segments_and_resynchronisation, part 1: the completion of a copy read (O58). The row is the
engine's handling of the result, what follows it at a waiting capture and at the engine, and the next grant. -/

namespace Sys2Proof.Proofs.DirtySegments

open Sys2Proof Sys2Proof.Machine Sys2Proof.Proofs.MirrorWindows Sys2Proof.Proofs.WriteCapture

variable {s t u : State} {w : WinId} {g : Segment} {x : Txn} {r : Result} {bytes : LineData}

/-! ### A write that waits for a slot, behind a busy port (R43) -/

/-- A captured write waits for a slot (R42). -/
def slotAwaited (s : State) : Bool := s.cu.any (fun c => decide (c.phase = .slotWait))

theorem slotAwaited_iff : slotAwaited s = true ↔ ∃ c, s.cu = some c ∧ c.phase = .slotWait := by
  simp [slotAwaited, Option.any_eq_true]

theorem slotAwaited_congr (cu : t.cu = s.cu) : slotAwaited t = slotAwaited s := by rw [slotAwaited, cu, slotAwaited]

/-- The slot check leaves the write waiting, or forwards it with a capture that waits no longer, if one is left (R42). -/
theorem slotCheck_outcome (c : Capture) (s : State) :
    (∃ n, slotCheck c s = s.setCu (some { c with phase := .slotWait, stallTimer := some n }))
      ∨ ∃ y : Option Capture, (∀ c', y = some c' → c'.phase = .localWrite) ∧ slotCheck c s = forward (s.setCu y) := by
  have unrecorded (low : s.captureState c = .degraded ∨ s.captureState c = .halted) :
      ∃ y : Option Capture, (∀ c', y = some c' → c'.phase = .localWrite) ∧ slotCheck c s = forward (s.setCu y) :=
    ⟨_, by rintro c' ⟨⟩; rfl, slotCheck_unmirrored low⟩
  cases state : s.captureState c with
  | off => exact .inr ⟨none, by simp, slotCheck_off state⟩
  | degraded => exact .inr (unrecorded (.inl state))
  | halted => exact .inr (unrecorded (.inr state))
  | active | resync =>
    rw [slotCheck_mirrored (by simp [state]), slotCheckMirrored]
    repeat' split
    · exact .inr ⟨_, by rintro c' ⟨⟩; rfl, rfl⟩
    · exact .inr ⟨_, by rintro c' ⟨⟩; rfl, rfl⟩
    · exact .inl ⟨_, rfl⟩

/-- What the recheck of a waiting write leaves behind a busy port: the engine as it was, and at the arbiter no more than
the foreground's request, which is the write's once it waits no longer (R43, R172). -/
structure Rechecked (s t : State) : Prop where
  engine : t.re = s.re
  arbiter : t.da = { s.da with fg := t.da.fg }
  still : slotAwaited s = false ∨ slotAwaited t = true → t.da.fg = s.da.fg
  onward : ∀ held, s.mp.txn = some held → slotAwaited s = true → slotAwaited t = false → t.da.fg = some held.txn

theorem rechecked_refl : Rechecked s s :=
  ⟨rfl, rfl, fun _ => rfl, fun _ _ waits rests => by rw [waits] at rests; cases rests⟩

theorem rechecked_forward {y : Option Capture} (busy : s.da.port.isSome = true)
    (rests : ∀ c', y = some c' → c'.phase = .localWrite) (waits : slotAwaited s = true) :
    Rechecked s (forward (s.setCu y)) := by
  have goes : slotAwaited (forward (s.setCu y)) = false := by
    refine Bool.eq_false_iff.2 fun waits => ?_
    obtain ⟨c', there, phase⟩ := slotAwaited_iff.1 waits
    rw [rests c' (by simpa using there)] at phase
    cases phase
  have never : ¬(slotAwaited s = false ∨ slotAwaited (forward (s.setCu y)) = true) := by simp [goes, waits]
  cases taken : s.mp.txn with
  | none =>
    have same : forward (s.setCu y) = s.setCu y := by simp [forward, taken]
    refine ⟨by rw [same]; rfl, by rw [same]; rfl, fun h => absurd h never, fun held some => ?_⟩
    rw [taken] at some
    cases some
  | some held =>
    have asks : forward (s.setCu y) = (s.setCu y).setDa { s.da with fg := some held.txn } := by
      rw [forward_held (by exact taken), presentFg_busy (by exact busy)]
      rfl
    refine ⟨by rw [asks]; rfl, by rw [asks]; rfl, fun h => absurd h never, fun held' some _ _ => ?_⟩
    rw [taken, Option.some.injEq] at some
    rw [asks, some]
    rfl

theorem rechecked_recheckSlot (busy : s.da.port.isSome = true) : Rechecked s (recheckSlot s) := by
  cases waits : slotAwaited s with
  | false =>
    have rests : recheckSlot s = s := by
      refine recheckSlot_rests ?_
      cases there : s.cu with
      | none => exact .inl rfl
      | some c => exact .inr ⟨c, rfl, fun phase => by simp [slotAwaited, there, phase] at waits⟩
    rw [rests]
    exact rechecked_refl
  | true =>
    obtain ⟨c, there, phase⟩ := slotAwaited_iff.1 waits
    rw [recheckSlot_waits there phase]
    obtain ⟨n, stays⟩ | ⟨y, rests, onward⟩ := slotCheck_outcome c s
    · rw [stays]
      exact ⟨rfl, rfl, fun _ => rfl, fun _ _ _ rests => by simp [slotAwaited] at rests⟩
    · rw [onward]
      exact rechecked_forward busy rests waits

/-! ### The end of a copy read's access (R128, R173) -/

theorem releasePort_current : (releasePort s).re.current = s.re.current := grant_current

/-- Neither a grant nor the start of a read touches the mark of a dropped result or the engine's state. -/
theorem grant_marks : (grant s).re.readDropped = s.re.readDropped ∧ (grant s).re.state = s.re.state := by
  rcases grant_re (s := s) with same | same <;> rw [same] <;> exact ⟨rfl, rfl⟩

theorem startRead_marks : (startRead s).re.readDropped = s.re.readDropped ∧ (startRead s).re.state = s.re.state := by
  unfold startRead
  repeat' split
  · exact ⟨rfl, rfl⟩
  · exact grant_marks
  · exact ⟨rfl, rfl⟩

theorem selectSegment_readDropped : (selectSegment s).re.readDropped = s.re.readDropped := by
  obtain same | idle | ⟨w, k, _, _, taken⟩ := selectSegment_cases (s := s)
  · rw [same]
  · rw [idle]; rfl
  · rw [taken]; rfl

theorem settle_readDropped : (settle s).re.readDropped = s.re.readDropped := by
  have rechecked : (recheckSlot s).re.readDropped = s.re.readDropped := by
    rcases recheckSlot_re (s := s) with same | same <;> rw [same]
  exact startRead_marks.1.trans (selectSegment_readDropped.trans rechecked)

/-- Outside SELECT the engine keeps its state through what follows an event (R127). -/
theorem settle_engineState (h : s.re.state ≠ .select) : (settle s).re.state = s.re.state := by
  have rechecked := (recheckSlot_segment (s := s)).2
  unfold settle advanceEngine
  rw [startRead_marks.2, selectSegment_idle (by rwa [rechecked]), rechecked]

/-- Behind a busy port, what follows an event changes at the arbiter no more than the requests of FG and CP: the
foreground's as the recheck leaves it, and the engine is served (R43, R128). -/
theorem settle_behind (absent : s.re.read = .absent) (busy : s.da.port.isSome = true) :
    (settle s).da = { s.da with fg := (recheckSlot s).da.fg, cp := (settle s).da.cp }
      ∧ EngineServed .absent s (settle s) := by
  obtain ⟨engine, arbiter, -, -⟩ := rechecked_recheckSlot busy
  have selected : (selectSegment (recheckSlot s)).da = { s.da with fg := (recheckSlot s).da.fg } :=
    selectSegment_da.trans arbiter
  have read : (selectSegment (recheckSlot s)).re.read = .absent := by rw [selectSegment_read, engine, absent]
  change (startRead (selectSegment (recheckSlot s))).da = { s.da with
      fg := (recheckSlot s).da.fg, cp := (startRead (selectSegment (recheckSlot s))).da.cp }
    ∧ EngineServed .absent s (startRead (selectSegment (recheckSlot s)))
  generalize selectSegment (recheckSlot s) = y at selected read
  have port : y.da.port.isSome = true := by rw [selected]; exact busy
  have presented := startRead_da port
  have served := engineServed_startRead port
  rw [read] at served
  unfold EngineServed at served ⊢
  rw [selected] at presented served
  exact ⟨presented, served⟩

/-- Once the engine has handled a read that has ended, in `u`, a waiting write rechecks, the engine is served, and the freed
port is granted (R43, R128, R173). -/
theorem copyReadEnds_settle (da : u.da = s.da) (cu : u.cu = s.cu) (mp : u.mp = s.mp) (absent : u.re.read = .absent)
    (busy : s.da.port.isSome = true) : CopyReadEnds s (releasePort (settle u)) := by
  have busy' : u.da.port.isSome = true := by rw [da]; exact busy
  obtain ⟨-, -, still, onward⟩ := rechecked_recheckSlot busy'
  obtain ⟨arbiter, fixed, served⟩ := settle_behind absent busy'
  have captured : slotAwaited (settle u) = slotAwaited (recheckSlot u) := slotAwaited_congr advanceEngine_cu
  have fg : (settle u).da.fg = (recheckSlot u).da.fg := by rw [arbiter]
  rw [← captured, ← fg, da, slotAwaited_congr cu] at still
  rw [← captured, ← fg, mp, slotAwaited_congr cu] at onward
  rw [← fg, da] at arbiter
  rw [da] at served
  refine ⟨(settle u).setDa { (settle u).da with port := none }, rfl, ?_, ⟨startRead_fixed_setDa fixed, served⟩, still,
    onward⟩
  change { (settle u).da with port := none } = _
  rw [arbiter]
  rfl

/-! ### The engine's handling of the result (R130, R131, R136) -/

/-- The row is the completion of the copy read that holds the port; what follows the engine's handling comes before the next
grant (R173). -/
theorem exec_copyReadComplete (port : s.da.port = some ⟨.cp, x⟩) :
    exec (.copyReadComplete r bytes) s = .next (releasePort (settle (copyReadDone r bytes s))) := by
  have owner : s.portClient = some .cp := by simp [State.portClient, port]
  exact congrArg _ (if_pos owner)

/-- The result of a read whose segment was abandoned is dropped (R136). -/
theorem copyReadDone_dropped (gone : s.re.current = none ∨ s.re.readDropped = true) :
    copyReadDone r bytes s = endRead s := by
  unfold copyReadDone
  split
  next => rfl
  next g current => exact if_pos (gone.resolve_left (by simp [current]))

theorem copyReadDone_ok (current : s.re.current = some g) (counts : s.re.readDropped = false) :
    copyReadDone .ok bytes s = copyOk g bytes s := by
  simp [copyReadDone, current, counts]

theorem copyReadDone_err (current : s.re.current = some g) (counts : s.re.readDropped = false) :
    copyReadDone .err bytes s = copyErr g s := by
  simp [copyReadDone, current, counts]

/-- While the engine has no read outstanding, a window's entry into a state starts none and leaves the arbiter alone
(R28, R135). -/
theorem enterWindow_absent {new : WinState} {halt : Option HaltCause} (absent : s.re.read = .absent) :
    (enterWindow w new halt s).da = s.da ∧ (enterWindow w new halt s).re.read = .absent := by
  have abandoned : abandon s = s.setRe { s.re with current := none, state := .select } := by simp [abandon, absent]
  rcases enterWindow_engine (s := s) (w := w) (new := new) (halt := halt) with ⟨_, re, da⟩ | ⟨_, da, re⟩
  · rw [re, da, abandoned]
    exact ⟨rfl, absent⟩
  · exact ⟨da, by rcases re with re | ⟨_, re⟩ <;> rw [re] <;> exact absent⟩

/-- Handling a result ends the read and leaves the arbiter alone: the next request comes with what follows (R128, R130,
R131). -/
theorem copyReadDone_ends : (copyReadDone r bytes s).da = s.da ∧ (copyReadDone r bytes s).re.read = .absent := by
  unfold copyReadDone
  repeat' split
  · exact ⟨rfl, rfl⟩
  · exact ⟨rfl, rfl⟩
  · exact ⟨rfl, rfl⟩
  · exact enterWindow_absent rfl

/-- Whatever the result, the row ends the copy read's access. -/
theorem copyReadEnds_done (busy : s.da.port.isSome = true) :
    CopyReadEnds s (releasePort (settle (copyReadDone r bytes s))) := by
  have frame : Only [.out, .rq, .da, .re, .fu, .al, .counters] s (copyReadDone r bytes s) := by simp [Only.refl]
  obtain ⟨da, absent⟩ := copyReadDone_ends (r := r) (bytes := bytes) (s := s)
  exact copyReadEnds_settle da (frame .cu (by decide)) (frame .mp (by decide)) absent busy

/-- What follows an event, and the grant, leave the window table but for cursors (R127). -/
theorem released_win :
    (releasePort (settle s)).out[w] = { s.win w with cursor := (releasePort (settle s)).out[w].cursor } := by
  rw [releasePort_out]
  exact settle_win

/-! ### A read that completed with OK (R130) -/

/-- The record that a completed read appends, in the statement's terms (R130). -/
theorem copyRecord_eq : copyRecord g bytes s =
    { seq := s.rq.nextSeq, kind := .copy, window := g.window
      line := BitVec.ofNat 22 (g.index * (s.segBytes / 64) + g.nextLine), mask := BitVec.allOnes 64, data := bytes
      state := .ready, waiter := false, segmentEnd := decide (g.nextLine + 1 = s.segBytes / 64) } := rfl

theorem copyOk_rq : (copyOk g bytes s).rq =
    { s.rq with
      records := closedTail s.rq.records ++ [copyRecord g bytes s], nextSeq := s.rq.nextSeq + 1, mergeTimer := none } := rfl

theorem lastLine_eq : s.lastLine g = decide (g.nextLine + 1 = s.segBytes / 64) := rfl

theorem copyOk_state : (copyOk g bytes s).re.state = if g.nextLine + 1 = s.segBytes / 64 then .draining else .copying := by
  simp only [copyOk, State.setRe_re, lastLine_eq, decide_eq_true_eq]

theorem copyOk_current : (copyOk g bytes s).re.current = some
    { g with
      nextLine := g.nextLine + 1
      lastSeq := if g.nextLine + 1 = s.segBytes / 64 then some s.rq.nextSeq else g.lastSeq } := by
  simp only [copyOk, State.setRe_re, lastLine_eq, decide_eq_true_eq]

/-- An engine that goes on with its segment takes no other: what follows leaves the window table alone (R127). -/
theorem copyOk_unselected : (copyOk g bytes s).re.state ≠ .select := by
  rw [copyOk_state]
  split <;> simp

theorem copyOk_frame : Only [.rq, .re, .da, .cu] s (releasePort (settle (copyOk g bytes s))) := by
  have rechecked := (recheckSlot_segment (s := copyOk g bytes s)).2
  have goesOn : settle (copyOk g bytes s) = startRead (recheckSlot (copyOk g bytes s)) :=
    congrArg startRead (selectSegment_idle (by rw [rechecked]; exact copyOk_unselected))
  rw [goesOn]
  simp [Only.refl]

/-! ### A read that completed with ERR (R26, R131) -/

/-- A failed read leaves its window HALTED, and every other window as it was (R131). -/
theorem copyErr_win (v : WinId) : (copyErr g s).win v
    = if v = g.window then { s.win v with state := .halted, haltCause := some .copyReadError } else s.win v := by
  refine (enterWindow_win _ _).trans ?_
  split
  next own => rw [own]; rfl
  next => rfl

theorem copyErr_flags : (copyErr g s).al.detail.has .localMemoryError = true
    ∧ (copyErr g s).al.detail.has (.haltedEntered g.window) = true := by
  refine ⟨enterWindow_has _ _ _ (raise_has_self _ (endRead s)), ?_⟩
  rw [copyErr, enterWindow_al]
  exact raise_has_self _ _

theorem copyErr_counter : (copyErr g s).counter .localErrors = saturate (s.counter .localErrors) :=
  (counter_of_counters enterWindow_counters _).trans (bump_counter_self _ _)

theorem copyErr_fences : ∀ f ∈ (copyErr g s).fu.fences, f.degraded = true := by
  rw [copyErr, enterWindow_fu]
  simp [WinState.behind]

theorem copyErr_current {g' : Segment} (resync : (s.win g.window).state = .resync)
    (held : (settle (copyErr g s)).re.current = some g') : g'.window ≠ g.window := by
  rcases settle_current held with before | back
  · exact enterWindow_leaves (s := bump .localErrors (raise .localMemoryError (endRead s))) resync (by simp) before
  · intro own
    rw [copyErr_win, if_pos own] at back
    cases back

/-! ### The completion by its outcomes -/

/-- Settles O58: the result dropped, a good one recorded, a failed one that halts its window. -/
theorem copyReadCompleteResult : Obligations.CopyReadCompleteResult := by
  intro r bytes x s port n
  have busy : s.da.port.isSome = true := by rw [port]; rfl
  have run := exec_copyReadComplete (r := r) (bytes := bytes) port
  have ends := copyReadEnds_done (r := r) (bytes := bytes) busy
  refine ⟨fun gone => ?_, fun g current counts resync => ⟨?_, ?_⟩⟩
  · rw [copyReadDone_dropped gone] at run ends
    refine ⟨_, run, by simp [endRead, Only.refl], ends, ?_, fun w => ?_⟩
    · exact grant_marks.1.trans settle_readDropped
    · rw [released_win]
      rfl
  · rintro rfl copying
    rw [copyReadDone_ok current counts] at run ends
    have rq : (releasePort (settle (copyOk g bytes s))).rq = (copyOk g bytes s).rq := releasePort_rq.trans settle_rq
    refine ⟨_, copyRecord g bytes s, run, copyOk_frame, ends, ?_, ?_, ?_, ?_, copyRecord_eq, ?_, ?_⟩
    iterate 4 rw [rq, copyOk_rq]
    · rw [releasePort_current, (settle_unselected copyOk_unselected).2, copyOk_current]
    · exact grant_marks.2.trans ((settle_engineState copyOk_unselected).trans copyOk_state)
  · rintro rfl
    rw [copyReadDone_err current counts] at run ends
    refine ⟨_, run, by simp [Only.refl], ends, ?_, ?_, ?_, ?_, ?_, fun g' held => ?_, ?_⟩
    · rw [released_win, copyErr_win, if_pos rfl]
    · rw [released_win, copyErr_win, if_pos rfl]
    · rw [releasePort_al, settle_al]
      exact copyErr_flags.1
    · rw [releasePort_al, settle_al]
      exact copyErr_flags.2
    · rw [counter_of_counters (releasePort_counters.trans settle_counters)]
      exact copyErr_counter
    · exact copyErr_current resync (releasePort_current.symm.trans held)
    · rw [releasePort_fu, settle_fu]
      exact copyErr_fences

end Sys2Proof.Proofs.DirtySegments
end

section
/-! PROOF. The family 06_dirty_segments_and_resynchronisation, part 2: the engine's selection, the start of a copy read, and
the WIN_RESYNC that sets off both (O59). -/

namespace Sys2Proof.Proofs.DirtySegments

open Sys2Proof Sys2Proof.Machine Sys2Proof.Proofs.MirrorWindows Sys2Proof.Proofs.WriteCapture

variable {s t u : State} {w : WinId} {g : Segment} {j k : Nat} {x : Txn}

/-! ### The window the engine serves next (R127) -/

theorem nextWindow_none_iff : s.nextWindow = none ↔ ∀ w, (s.win w).state ≠ .resync := by
  simp only [State.nextWindow, List.find?_eq_none, List.mem_map, List.mem_finRange, true_and, forall_exists_index,
    forall_apply_eq_imp_iff, decide_eq_true_eq]
  refine ⟨fun none w => ?_, fun quiet i => quiet _⟩
  have reached : s.re.lastServed + 1 + (w - (s.re.lastServed + 1)) = w := add_sub_cancel _ _
  rw [← reached]
  exact none _

/-- The first window in RESYNC after last-served is served next. -/
theorem nextWindow_first {i : WinId} (own : w = s.re.lastServed + 1 + i) (resync : (s.win w).state = .resync)
    (before : ∀ i' : WinId, i' < i → (s.win (s.re.lastServed + 1 + i')).state ≠ .resync) : s.nextWindow = some w := by
  rw [State.nextWindow, List.find?_eq_some_iff_getElem]
  refine ⟨by simpa using resync, i, by simp, by simp [own], fun i' earlier => ?_⟩
  have small : i' < 8 := Nat.lt_trans earlier i.isLt
  simpa using before ⟨i', small⟩ earlier

/-- The only window in RESYNC is served next, whichever was served last. -/
theorem nextWindow_only (resync : (s.win w).state = .resync) (others : ∀ v, v ≠ w → (s.win v).state ≠ .resync) :
    s.nextWindow = some w := by
  cases next : s.nextWindow with
  | none => exact absurd resync (nextWindow_none_iff.1 next w)
  | some v =>
    by_contra other
    exact others v (fun own => other (by rw [own])) (nextWindow_resync next)

/-! ### The segment the engine takes (R127) -/

/-- Segment `k` is the first marked one of window `w` from the cursor on, `j` places behind it. -/
structure FirstMarked (s : State) (w : WinId) (j k : Nat) : Prop where
  inside : j < (s.win w).length
  place : k = ((s.win w).cursor + j) % (s.win w).length
  marked : s.dm.getLsbD ((s.win w).mapOffset + k) = true
  before : ∀ j', j' < j →
    s.dm.getLsbD ((s.win w).mapOffset + ((s.win w).cursor + j') % (s.win w).length) = false

theorem FirstMarked.congr (h : FirstMarked s w j k) (length : (t.win w).length = (s.win w).length)
    (cursor : (t.win w).cursor = (s.win w).cursor) (mapOffset : (t.win w).mapOffset = (s.win w).mapOffset)
    (dm : t.dm = s.dm) : FirstMarked t w j k := by
  obtain ⟨inside, place, marked, before⟩ := h
  constructor <;> simpa only [length, cursor, mapOffset, dm]

theorem nextSegment_first (first : FirstMarked s w j k) : s.nextSegment w = some k := by
  obtain ⟨inside, place, marked, before⟩ := first
  rw [State.nextSegment, List.find?_eq_some_iff_getElem]
  refine ⟨marked, j, by simpa using inside, by simp [place], fun j' earlier => ?_⟩
  simpa [OutWindow.position] using before j' earlier

theorem selectSegment_rests (select : s.re.state = .select) (quiet : ∀ w, (s.win w).state ≠ .resync) :
    selectSegment s = s.setRe { s.re with state := .idle } := by
  simp only [selectSegment, select, nextWindow_none_iff.2 quiet]

theorem selectSegment_takes (select : s.re.state = .select) (next : s.nextWindow = some w) (first : FirstMarked s w j k) :
    selectSegment s = takeSegment w k s := by
  simp only [selectSegment, select, next, nextSegment_first first]

/-! ### The start of a copy read (R128) -/

/-- Fewer than 16 COPY records are queued, and a slot is free (R32, R129). -/
def CopyRoom (s : State) : Prop :=
  (s.rq.records.filter (fun r => decide (r.kind = .copy))).length < 16
    ∧ s.rq.records.length + (if s.cu.any (·.reservation) then 1 else 0) + (if s.re.reservation then 1 else 0) < 64

theorem copyRoom_congr (rq : t.rq = s.rq) (cu : t.cu = s.cu) (reservation : t.re.reservation = s.re.reservation) :
    CopyRoom t ↔ CopyRoom s := by
  rw [CopyRoom, rq, cu, reservation, CopyRoom]

theorem mayRead_iff : s.mayRead g = true
    ↔ s.re.state = .copying ∧ s.re.read = .absent ∧ g.nextLine < s.segLines ∧ CopyRoom s := by
  have lines : s.params.segmentLines = s.segLines := rfl
  have share : Config.copyShare = 16 := rfl
  simp only [State.mayRead, Bool.and_eq_true, decide_eq_true_eq, slotFree_iff, State.copyCount,
    List.countP_eq_length_filter, lines, share, CopyRoom, and_assoc]

theorem startRead_none (current : s.re.current = none) : startRead s = s := by simp [startRead, current]

theorem startRead_refused (current : s.re.current = some g) (refused : ¬s.mayRead g = true) : startRead s = s := by
  simp [startRead, current, refused]

theorem startRead_presents (current : s.re.current = some g) (may : s.mayRead g = true) :
    startRead s = grant
      { s with
        re := { s.re with read := .requested, reservation := true }
        da := { s.da with cp := some (s.readOf g) } } := by
  simp only [startRead, current, if_pos may]
  rfl

/-- With no other request waiting at a free port the copy read is granted (R172). -/
theorem grant_cp (free : s.da.port = none) (fg : s.da.fg = none) (ap : s.da.ap = none) (cp : s.da.cp = some x) :
    (grant s).re.read = .granted := by
  have chosen : s.da.choose s.au.promotion = some .cp := by simp [Arbiter.choose, fg, ap, cp]
  simp only [grant, free, chosen, Arbiter.request, cp]
  rfl

/-! ### WIN_RESYNC of a window with marks (R18, R126) -/

/-- A window's entry into RESYNC takes an IDLE engine to SELECT (R126). -/
theorem enterWindow_wakes (idle : s.re.state = .idle) :
    (enterWindow w .resync none s).re = { s.re with state := .select } := by
  have told (a : State) (re : a.re = s.re) :
      (tellEngine w (s.win w).state .resync a).re = { s.re with state := .select } := by
    simp [tellEngine, re, idle]
  exact told _ (by simp [WinState.behind, raiseEntry])

/-- What window `w` leaves in `u` as it comes to RESYNC: every other window and the arbiter as in `s`, and the engine in
SELECT. -/
structure Resyncing (s : State) (w : WinId) (u : State) : Prop where
  win : ∀ v, u.win v = if v = w then { s.win w with state := .resync, haltCause := none } else s.win v
  frame : Only [.out, .da, .re, .fu, .al] s u
  da : u.da = s.da
  re : u.re = { s.re with state := .select }

theorem toResync_resyncing (marks : (s.win w).dirtyCount ≠ 0) (idle : s.re.state = .idle) :
    Resyncing s w (toResync w s) := by
  have goes : toResync w s = enterWindow w .resync none s := if_neg marks
  rw [goes]
  refine ⟨fun v => enterWindow_win _ _, by simp [Only.refl], ?_, enterWindow_wakes idle⟩
  rcases enterWindow_engine (s := s) (w := w) (new := .resync) (halt := none) with ⟨leaves, _⟩ | ⟨_, da, _⟩
  · exact absurd rfl leaves.1
  · exact da

/-- A segment as the engine takes it, before its first line has been read (R127). -/
def newSegment (w : WinId) (k : Nat) : Segment :=
  { window := w, index := k, nextLine := 0, lastSeq := none, redirtied := false }

/-- The read of the first line of segment `k` (R128). -/
def firstRead (s : State) (w : WinId) (k : Nat) : Txn :=
  { access := .read, length := 64, addr := s.out[w].base + BitVec.ofNat 32 (k * s.segLines * 64) }

theorem readOf_newSegment : s.readOf (newSegment w k) = firstRead s w k := rfl

theorem firstRead_congr (base : (t.win w).base = (s.win w).base) (params : t.params = s.params) :
    firstRead t w k = firstRead s w k := by
  have base' : t.out[w].base = s.out[w].base := base
  rw [firstRead, base', State.segLines, State.segBytes, params]
  rfl

/-- The engine has taken segment `k` of window `w` and asks for its first line, all other requests being as in `s`. -/
structure FirstLineAsked (s : State) (w : WinId) (k : Nat) (y : State) : Prop where
  re : y.re =
    { s.re with
      state := .copying, lastServed := w, current := some (newSegment w k), read := .requested, reservation := true }
  da : y.da = { s.da with cp := some (firstRead s w k) }
  cursor : (y.win w).cursor = if k + 1 = (s.win w).length then 0 else k + 1

/-- A window that comes to RESYNC alone is served at once, from its first marked segment on: the engine selects and starts
the first read in one event (R126, R127, R128). -/
theorem settle_resyncing (h : Resyncing s w u) (others : ∀ v, (s.win v).state ≠ .resync) (first : FirstMarked s w j k)
    (uncaptured : s.cu = none) (absent : s.re.read = .absent) (room : CopyRoom s) (line : 64 ≤ s.segBytes) :
    ∃ y, settle u = grant y ∧ FirstLineAsked s w k y := by
  obtain ⟨win, frame, da, re⟩ := h
  have own : u.win w = { s.win w with state := .resync, haltCause := none } := (win w).trans (if_pos rfl)
  have params : u.params = s.params := frame .params (by decide)
  have cu : u.cu = s.cu := frame .cu (by decide)
  have reservation : u.re.reservation = s.re.reservation := by rw [re]
  have next : u.nextWindow = some w :=
    nextWindow_only (by rw [own]) fun v other => by rw [win, if_neg other]; exact others v
  have first' : FirstMarked u w j k :=
    first.congr (by rw [own]) (by rw [own]) (by rw [own]) (frame .dm (by decide))
  have taken : settle u = startRead (takeSegment w k u) := by
    rw [settle, recheckSlot_none (cu.trans uncaptured), advanceEngine,
      selectSegment_takes (by rw [re]) next first']
  have current : (takeSegment w k u).re.current = some (newSegment w k) := rfl
  have may : (takeSegment w k u).mayRead (newSegment w k) = true := by
    refine mayRead_iff.2 ⟨rfl, ?_, ?_, ?_⟩
    · change u.re.read = .absent
      rw [re, absent]
    · change 0 < u.params.segmentSize.toNat * 1024 / 64
      rw [params]
      exact Nat.div_pos line (by decide)
    · exact (copyRoom_congr (t := takeSegment w k u) (frame .rq (by decide)) cu reservation).2 room
  refine ⟨_, taken.trans (startRead_presents current may), ?_, ?_, ?_⟩
  · change { u.re with
      state := .copying, lastServed := w, current := some (newSegment w k), read := .requested, reservation := true } = _
    rw [re]
  · change { u.da with cp := some ((takeSegment w k u).readOf (newSegment w k)) } = _
    have base : ((takeSegment w k u).win w).base = (s.win w).base := by rw [takeSegment_win, if_pos rfl, own]
    rw [da, readOf_newSegment, firstRead_congr base params]
  · change ((takeSegment w k u).win w).cursor = _
    rw [takeSegment_win, if_pos rfl, own]

/-- The engine serves segment `k` of window `w`: behind a busy port its first read waits, and on a free one that nobody else
asks for it is granted (R127, R128, R172). -/
def FirstLineServed (s : State) (w : WinId) (k : Nat) (t : State) : Prop :=
  t.re.state = .copying ∧ t.re.lastServed = w ∧ t.re.reservation = true ∧ t.re.current = some (newSegment w k)
    ∧ t.out[w].cursor = (if k + 1 = s.out[w].length then 0 else k + 1)
    ∧ (s.da.port.isSome = true → t.re.read = .requested ∧ t.da.cp = some (firstRead s w k))
    ∧ (s.da.port = none → s.da.fg = none → s.da.ap = none → t.re.read = .granted)

theorem firstLineServed_grant {y : State} (h : FirstLineAsked s w k y) : FirstLineServed s w k (grant y) := by
  obtain ⟨re, da, cursor⟩ := h
  have table : (grant y).win w = y.win w := win_of_out grant_out
  have moved : ((grant y).win w).cursor = if k + 1 = (s.win w).length then 0 else k + 1 := by rw [table, cursor]
  refine ⟨?_, ?_, ?_, ?_, moved, fun busy => ?_, fun free fg ap => ?_⟩
  iterate 4 rcases grant_re (s := y) with same | same <;> rw [same, re]
  · rw [grant_busy (by rw [da]; exact busy), re, da]
    exact ⟨rfl, rfl⟩
  · refine grant_cp (x := firstRead s w k) ?_ ?_ ?_ ?_ <;> rw [da]
    · exact free
    · exact fg
    · exact ap

/-- The part of O59 on WIN_RESYNC. -/
theorem winResync_serves {b : Byte} (h : s.holds (.winResync b)) (own : b.toNat = w.val)
    (degraded : s.out[w].state = .degraded) (up : s.lc.state = .up) (marks : s.out[w].dirtyCount ≠ 0)
    (others : ∀ v : WinId, s.out[v].state ≠ .resync) (uncaptured : s.cu = none) (idle : s.re.state = .idle)
    (absent : s.re.read = .absent) (room : CopyRoom s) (line : 64 ≤ s.segBytes) (first : FirstMarked s w j k) :
    ∃ t, exec (.winResync b (Request.crc (.winResync b))) s = .next t ∧ FirstLineServed s w k t := by
  obtain ⟨y, settled, asked⟩ :=
    settle_resyncing (toResync_resyncing marks idle) others first uncaptured absent room line
  have run : runRequest (.winResync b) s = accept (grant y) := by
    rw [← settled]
    exact ((onWindow_run own).trans (winResyncAt_degraded degraded)).trans (if_pos up)
  exact ⟨_, exec_accepted h run, firstLineServed_grant asked⟩

/-- Settles O59: the selection by its outcomes, the start of a read by its conditions, and one command that makes the engine
do both. -/
theorem selectionResult : Obligations.SelectionResult := by
  refine ⟨fun s => ⟨selectSegment_idle, selectSegment_rests, ?_⟩, fun s => ?_, ?_⟩
  · intro i w j k select own resync before inside place marked clear
    exact selectSegment_takes select (nextWindow_first own resync before) ⟨inside, place, marked, clear⟩
  · intro room
    refine ⟨startRead_none, fun g current => ⟨fun refused => ?_, fun may => ?_⟩⟩
    · exact startRead_refused current fun may => refused (mayRead_iff.1 may)
    · exact startRead_presents current (mayRead_iff.2 may)
  · intro b w j k s h own degraded up marks others uncaptured idle absent unreserved records copies line inside place marked
      clear
    have room : CopyRoom s := ⟨copies, by simpa [uncaptured, unreserved] using records⟩
    exact winResync_serves h own degraded up marks others uncaptured idle absent room line ⟨inside, place, marked, clear⟩

end Sys2Proof.Proofs.DirtySegments
end

section
/-! PROOF. The family 07_fences, part 1: the rules of the fence unit. How a fence is issued (R142), what the results of a
list of fences leave (R147, R151), and which fences an ACK takes out of the list (R145, R150). -/

namespace Sys2Proof.Proofs.Fences

open Sys2Proof Sys2Proof.Machine Sys2Proof.Proofs.MirrorWindows

variable {s t u : State} {f : Fence} {list : List Fence} {a : Seq} {done d : Bool} {older : List Record} {r : Record}
  {source : FenceSource}

/-! ### Issue (R142) -/

theorem someBehind_iff : s.someBehind = true ↔ s.outOfStep := by
  have behind (x : WinState) : x.behind = true ↔ x = .degraded ∨ x = .resync ∨ x = .halted := by
    cases x <;> simp [WinState.behind]
  simp only [State.someBehind, List.any_eq_true, Vector.mem_toList_iff, Vector.mem_iff_getElem, behind, State.outOfStep]
  constructor
  · rintro ⟨x, ⟨i, inside, rfl⟩, low⟩
    exact ⟨⟨i, inside⟩, low⟩
  · rintro ⟨w, low⟩
    exact ⟨_, ⟨w.val, w.isLt, rfl⟩, low⟩

/-- The flag that a fence takes at its issue, by the words of the statements. -/
theorem someBehind_eq (h : d = true ↔ s.outOfStep) : s.someBehind = d :=
  Bool.eq_iff_iff.2 (someBehind_iff.trans h.symm)

theorem someBehind_congr (out : t.out = s.out) : t.someBehind = s.someBehind := by rw [State.someBehind, out]; rfl

/-- The queue with its tail closed (R36). -/
def closedQueue (s : State) (older : List Record) (r : Record) : ReplayQueue :=
  { s.rq with
    records := older ++ [{ r with state := if r.state = .opened then .ready else r.state }]
    mergeTimer := none }

theorem closeTail_empty (empty : s.rq.records = []) : closeTail s = s.setRq { s.rq with mergeTimer := none } := by
  rw [closeTail, empty, closedTail_nil, ← empty]

theorem closeTail_queued (tail : s.rq.records = older ++ [r]) : closeTail s = s.setRq (closedQueue s older r) := by
  rw [closeTail, tail, closedTail_append]
  rfl

/-- On an empty queue a fence completes at its issue (R142, step 3). -/
theorem issueFence_empty (empty : s.rq.records = []) :
    issueFence source s = deliver source none true s.someBehind (s.setRq { s.rq with mergeTimer := none }) := by
  unfold issueFence
  rw [closeTail_empty empty]
  simp only [State.setRq_rq, empty, List.getLast?_nil]
  rfl

/-- With a record queued, a fence joins the list with the tail's number (R142, step 4). -/
theorem issueFence_queued (tail : s.rq.records = older ++ [r]) :
    issueFence source s = (s.setRq (closedQueue s older r)).setFu
      { s.fu with
        fences := s.fu.fences ++ [⟨r.seq, source, s.someBehind⟩]
        handshake := if source = .line then .pending else s.fu.handshake } := by
  unfold issueFence
  rw [closeTail_queued tail]
  simp only [State.setRq_rq, closedQueue, List.getLast?_concat]
  rfl

/-- A LINE fence adds nothing to the log, at its issue (R147). -/
theorem issueFence_line_log : (issueFence .line s).fu.log = s.fu.log := by
  rcases List.eq_nil_or_concat' s.rq.records with empty | ⟨older, r, tail⟩
  · rw [issueFence_empty empty]; rfl
  · rw [issueFence_queued tail]; rfl

/-- The merge timer stops at every issue (R142, step 1). -/
theorem issueFence_mergeTimer : (issueFence source s).rq.mergeTimer = none := by
  rcases List.eq_nil_or_concat' s.rq.records with empty | ⟨older, r, tail⟩
  · rw [issueFence_empty empty]; simp
  · rw [issueFence_queued tail]; rfl

/-- A line request that is issued waits no longer (R150). -/
theorem issueFence_line_handshake : (issueFence .line s).fu.handshake ≠ .waiting := by
  rcases List.eq_nil_or_concat' s.rq.records with empty | ⟨older, r, tail⟩
  · rw [issueFence_empty empty]; simp [deliver]
  · rw [issueFence_queued tail]; simp

theorem issueWaiting_waiting (waits : s.fu.handshake = .waiting) : issueWaiting s = issueFence .line s := by
  unfold issueWaiting
  rw [waits]

theorem issueWaiting_other (other : s.fu.handshake ≠ .waiting) : issueWaiting s = s := by
  unfold issueWaiting
  split
  next waits => exact absurd waits other
  all_goals rfl

/-! ### The result of one fence of the list (R147, R151) -/

/-- The result of a fence is delivered. -/
def answer (done : Bool) (s : State) (f : Fence) : State := deliver f.source (some f.ticket) done f.degraded s

/-- The lines, with what the handshake says of them. -/
def linesOf (s : State) : Handshake × Bool × Bool := (s.fu.handshake, s.fu.ack, s.fu.clean)

theorem answer_lines : linesOf (answer done s f)
    = if f.source = .line then (.answered, true, done && !f.degraded) else linesOf s := by
  unfold answer
  cases f.source with
  | line => rfl
  | port tag => rfl

theorem answer_rq : (answer done s f).rq = s.rq := deliver_rq

theorem answer_out : (answer done s f).out = s.out := deliver_out

theorem answer_fences : (answer done s f).fu.fences = s.fu.fences := deliver_fences

/-- A PORT fence's result raises its cause (R147). -/
theorem answer_flag (port : f.source ≠ .line) :
    (answer done s f).al.detail.has (if done then .fenceDone else .fenceFailed) = true := by
  unfold answer
  cases source : f.source with
  | line => exact absurd source port
  | port tag => exact raise_has_self _ _

theorem flagsKept_answer : FlagsKept s (answer done s f) := flagsKept_deliver s

/-! ### The results of a list of fences (R145 to R147, R151) -/

/-- The results of a list of fences are delivered in order. -/
def answerRun (done : Bool) (list : List Fence) (s : State) : State := list.foldl (answer done) s

theorem answerRun_cons : answerRun done (f :: list) s = answerRun done list (answer done s f) := rfl

theorem answerRun_rq : (answerRun done list s).rq = s.rq := by
  induction list generalizing s with
  | nil => rfl
  | cons f list ih => rw [answerRun_cons, ih, answer_rq]

theorem answerRun_fences : (answerRun done list s).fu.fences = s.fu.fences := by
  induction list generalizing s with
  | nil => rfl
  | cons f list ih => rw [answerRun_cons, ih, answer_fences]

theorem answerRun_log (short : s.fu.log.length ≤ 8) :
    (answerRun done list s).fu.log = lastEntries (s.fu.log ++ list.filterMap (Fence.result done)) :=
  deliverRun_log done list s short

theorem flagsKept_answerRun : FlagsKept s (answerRun done list s) := flagsKept_foldl (fun _ _ => flagsKept_answer) _ _

theorem answerRun_flag (port : ∃ f ∈ list, f.source ≠ .line) :
    (answerRun done list s).al.detail.has (if done then .fenceDone else .fenceFailed) = true := by
  induction list generalizing s with
  | nil => simp at port
  | cons g list ih =>
    obtain ⟨f, mem, port⟩ := port
    rw [answerRun_cons]
    rcases List.mem_cons.1 mem with rfl | mem
    · exact flagsKept_answerRun _ (answer_flag port)
    · exact ih ⟨f, mem, port⟩

/-- PORT fences leave the lines as they were (R147). -/
theorem answerRun_ports (ports : ∀ f ∈ list, f.source ≠ .line) : linesOf (answerRun done list s) = linesOf s := by
  induction list generalizing s with
  | nil => rfl
  | cons f list ih =>
    rw [answerRun_cons, ih fun g mem => ports g (List.mem_cons_of_mem f mem), answer_lines,
      if_neg (ports f List.mem_cons_self)]

/-- The number of LINE fences in a list (R140). -/
def lineCount (list : List Fence) : Nat := list.countP (fun f => decide (f.source = .line))

theorem lineCount_zero : lineCount list = 0 ↔ ∀ f ∈ list, f.source ≠ .line := by
  simp [lineCount, List.countP_eq_zero]

theorem lineCount_cons : lineCount (f :: list) = lineCount list + if f.source = .line then 1 else 0 := by
  simp [lineCount, List.countP_cons]

/-- The one LINE fence of a list answers the request (R151). -/
theorem answerRun_line (one : lineCount list ≤ 1) (mem : f ∈ list) (line : f.source = .line) :
    linesOf (answerRun done list s) = (.answered, true, done && !f.degraded) := by
  induction list generalizing s with
  | nil => cases mem
  | cons g list ih =>
    rw [lineCount_cons] at one
    rw [answerRun_cons]
    rcases List.mem_cons.1 mem with rfl | mem
    · have ports : ∀ g ∈ list, g.source ≠ .line := lineCount_zero.1 (by rw [if_pos line] at one; omega)
      rw [answerRun_ports ports, answer_lines, if_pos line]
    · exact ih (by omega) mem

/-! ### The fences that an ACK takes out of the list (R145) -/

/-- The first `n` fences leave the list. -/
def leaveList (n : Nat) (s : State) : State := s.setFu { s.fu with fences := s.fu.fences.drop n }

theorem answer_leaveList {n : Nat} : answer done (leaveList n s) f = leaveList n (answer done s f) := by
  unfold answer
  cases f.source with
  | line => rfl
  | port tag => rfl

theorem answerRun_leaveList {n : Nat} : answerRun done list (leaveList n s) = leaveList n (answerRun done list s) := by
  induction list generalizing s with
  | nil => rfl
  | cons f list ih => rw [answerRun_cons, answerRun_cons, answer_leaveList, ih]

theorem leaveList_leaveList {n m : Nat} : leaveList n (leaveList m s) = leaveList (m + n) s := by
  simp [leaveList, List.drop_drop]

/-- The front fence leaves the list, its result is delivered, and a waiting line request is issued (R145, R150). -/
theorem completeFront_eq : completeFront f s = issueWaiting (leaveList 1 (answer true s f)) := by
  rw [← answer_leaveList]
  unfold completeFront leaveList
  rw [List.drop_one]
  rfl

/-- The fences at the front of a list whose tickets an ACK reaches (R145). -/
def reachedBy (a : Seq) (list : List Fence) : List Fence := list.takeWhile (fun f => atOrBefore f.ticket a)

/-- With no line request waiting, the fences that an ACK reaches leave the list with their results delivered in order. -/
theorem completeRun_answered (free : s.fu.handshake ≠ .waiting) :
    completeRun a list s = leaveList (reachedBy a list).length (answerRun true (reachedBy a list) s) := by
  induction list generalizing s with
  | nil => rfl
  | cons f list ih =>
    by_cases here : atOrBefore f.ticket a = true
    · have hand : (leaveList 1 (answer true s f)).fu.handshake ≠ .waiting := by
        have lines := congrArg Prod.fst (answer_lines (done := true) (s := s) (f := f))
        change (answer true s f).fu.handshake = _ at lines
        change (answer true s f).fu.handshake ≠ _
        rw [lines]
        split
        · exact nofun
        · exact free
      have reached : reachedBy a (f :: list) = f :: reachedBy a list := by simp [reachedBy, here]
      rw [completeRun, if_pos here, completeFront_eq, issueWaiting_other hand, ih hand, answerRun_leaveList,
        leaveList_leaveList, reached, answerRun_cons, List.length_cons, Nat.add_comm]
    · have reached : reachedBy a (f :: list) = [] := by simp [reachedBy, here]
      rw [completeRun, if_neg here, reached]
      rfl

theorem completeRun_none (none : reachedBy a list = []) : completeRun a list s = s := by
  cases list with
  | nil => rfl
  | cons f list =>
    refine if_neg fun here => ?_
    simp [reachedBy, here] at none

theorem completeFences_answered (free : s.fu.handshake ≠ .waiting ∨ reachedBy a s.fu.fences = []) :
    completeFences a s
      = leaveList (reachedBy a s.fu.fences).length (answerRun true (reachedBy a s.fu.fences) s) := by
  rcases free with free | none
  · exact completeRun_answered free
  · rw [completeFences, completeRun_none none, none]
    rfl

/-- A line request that waits is issued as soon as the first fence has left the list; then the other fences that the ACK
reaches leave it (R150). -/
theorem completeFences_waiting (waits : s.fu.handshake = .waiting) (fences : s.fu.fences = f :: list)
    (port : f.source ≠ .line) (here : atOrBefore f.ticket a = true) :
    completeFences a s = leaveList (reachedBy a list).length
      (answerRun true (reachedBy a list) (issueFence .line (leaveList 1 (answer true s f)))) := by
  have hand : (leaveList 1 (answer true s f)).fu.handshake = .waiting := by
    have lines := congrArg Prod.fst (answer_lines (done := true) (s := s) (f := f))
    rw [if_neg port] at lines
    exact lines.trans waits
  rw [completeFences, fences, completeRun, if_pos here, completeFront_eq, issueWaiting_waiting hand]
  exact completeRun_answered issueFence_line_handshake

/-- The fences that an ACK does not reach. -/
theorem drop_reachedBy : list.drop (reachedBy a list).length = list.dropWhile (fun f => atOrBefore f.ticket a) := by
  have both : reachedBy a list ++ list.dropWhile (fun f => atOrBefore f.ticket a) = list :=
    List.takeWhile_append_dropWhile
  calc list.drop (reachedBy a list).length
      = (reachedBy a list ++ list.dropWhile (fun f => atOrBefore f.ticket a)).drop (reachedBy a list).length := by rw [both]
    _ = list.dropWhile (fun f => atOrBefore f.ticket a) := List.drop_left

end Sys2Proof.Proofs.Fences
end

section
/-! PROOF. The family 07_fences, part 2: the commands FENCE, FENCE_LOG and COUNTERS_READ, and the edges of FENCE_REQ (O25,
O26, O31). -/

namespace Sys2Proof.Proofs.Fences

open Sys2Proof Sys2Proof.Machine Sys2Proof.Proofs.MirrorWindows

variable {s t : State} {tag b : Byte} {d : Bool} {older : List Record} {r : Record}

/-! ### FENCE (R142, R147) -/

theorem fenceRun_full (full : 4 ≤ s.fu.fences.length) : fenceRun tag s = refuse .busy s := if_pos full

theorem fenceRun_room (room : s.fu.fences.length < 4) :
    fenceRun tag s = (.ok, fenceReply s, issueFence (.port tag) s) := if_neg (Nat.not_le.2 room)

theorem fenceReply_empty (empty : s.rq.records = []) : fenceReply s = [1, 0, 0, flagByte s.someBehind] := by
  rw [fenceReply, empty]
  rfl

theorem fenceReply_queued (tail : s.rq.records = older ++ [r]) :
    fenceReply s = [0] ++ bytes16 r.seq ++ [flagByte s.someBehind] := by
  rw [fenceReply, tail, List.getLast?_concat]

/-- Settles O25. -/
theorem fenceCommandResult : Obligations.FenceCommandResult := by
  intro tag s h
  refine ⟨fun full => exec_refused h (fenceRun_full full), fun room empty d behind => ?_,
    fun older r room tail d behind => ?_⟩
  · refine ⟨_, exec_request h, ?_⟩
    rw [runRequest, fenceRun_room room, respond_eq, fenceReply_empty empty, issueFence_empty empty, someBehind_eq behind]
    refine ⟨rfl, (only_answered (by decide) (by decide)).2 (by simp [Only.refl]), rfl, rfl, ?_⟩
    exact raise_has_self .fenceDone (State.setFu _ _)
  · refine (exec_request h).trans ?_
    rw [runRequest, fenceRun_room room, respond_eq, fenceReply_queued tail, issueFence_queued tail, someBehind_eq behind]
    rfl

/-! ### FENCE_LOG and COUNTERS_READ (R148, R192, R212) -/

/-- The flags byte of a log entry, bit by bit (R212). -/
theorem logFlags_eq (ticketed done degraded : Bool) :
    flagByte ticketed ||| (flagByte done <<< 1) ||| (flagByte degraded <<< 2)
      = BitVec.ofNat 8 ((if ticketed then 1 else 0) + (if done then 2 else 0) + if degraded then 4 else 0) := by
  revert ticketed done degraded
  decide

theorem countersBytes_eq : s.counters.toList.flatMap bytes16
    = (List.finRange 14).flatMap (fun c => bytes16 s.counters[c]) := by
  have places : s.counters.toList = (List.finRange 14).map (fun c => s.counters[c]) := by
    refine List.ext_getElem (by simp) fun i _ _ => by simp
  rw [places, List.flatMap_map]

/-- A choice byte that is 0, 1 or undefined (R212). -/
theorem yesNo_undefined (big : 1 < b.toNat) : yesNo b = none := yesNo_gt (by omega)

/-- Settles O26. -/
theorem fenceLogAndCounters : Obligations.FenceLogAndCounters := by
  refine ⟨fun b s h => ?_, fun b s h => ?_⟩
  · intro run place reply
    have bytes : fenceLogReply s = reply := by
      have places : LogEntry.bytes = place := funext fun e => by
        rw [LogEntry.bytes, logFlags_eq]
      rw [fenceLogReply, places, ← List.append_assoc]
    have ran : run = .next (respond (fenceLogRun b s)) := exec_request h
    refine ⟨fun zero => ?_, fun one => ?_, fun big => ?_⟩
    · rw [ran, fenceLogRun, zero, ← bytes]
      rfl
    · rw [ran, fenceLogRun, one, ← bytes]
      rfl
    · rw [ran, fenceLogRun, yesNo_undefined big]
      rfl
  · intro run reply
    have ran : run = .next (respond (countersReadRun b s)) := exec_request h
    refine ⟨fun zero => ?_, fun one => ?_, fun big => ?_⟩
    · rw [ran, countersReadRun, zero, countersBytes_eq]
      rfl
    · rw [ran, countersReadRun, one, countersBytes_eq]
      rfl
    · rw [ran, countersReadRun, yesNo_undefined big]
      rfl

/-! ### FENCE_REQ (R150 to R152) -/

theorem requestLine_busy (busy : s.fu.handshake ≠ .idle) : requestLine s = s := by
  unfold requestLine
  split
  next idle => exact absurd idle busy
  all_goals rfl

theorem requestLine_full (idle : s.fu.handshake = .idle) (full : 4 ≤ s.fu.fences.length) :
    requestLine s = s.setFu { s.fu with handshake := .waiting } := by
  rw [requestLine, idle]
  exact if_neg (Nat.not_lt.2 full)

theorem requestLine_room (idle : s.fu.handshake = .idle) (room : s.fu.fences.length < 4) :
    requestLine s = issueFence .line s := by
  rw [requestLine, idle]
  exact if_pos room

/-- A rise of FENCE_REQ moves the pin, and is then taken by the handshake unless RESET_N is asserted (R150, R167). -/
theorem exec_fenceReqRise (low : s.pins.fenceReq = false) :
    exec .fenceReqRise s = .next
      (if s.pins.resetAsserted then s.setPins { s.pins with fenceReq := true }
      else requestLine (s.setPins { s.pins with fenceReq := true })) := by
  simp [exec, execFenceReqRise, low]

/-- A fall of FENCE_REQ moves the pin, and is then taken by the handshake unless RESET_N is asserted (R152, R167). -/
theorem exec_fenceReqFall (high : s.pins.fenceReq = true) :
    exec .fenceReqFall s = .next
      (if s.pins.resetAsserted then s.setPins { s.pins with fenceReq := false }
      else releaseLine (s.setPins { s.pins with fenceReq := false })) := by
  simp [exec, execFenceReqFall, high]

/-- The part of O31 on a rising edge. -/
theorem fenceReqRise_result (low : s.pins.fenceReq = false) (raised : State)
    (edge : raised = s.setPins { s.pins with fenceReq := true }) :
    (s.pins.resetAsserted = true ∨ s.fu.handshake ≠ .idle → exec .fenceReqRise s = .next raised)
      ∧ (s.pins.resetAsserted = false → s.fu.handshake = .idle →
        exec .fenceReqRise s = .next
          (if s.fu.fences.length < 4 then issueFence .line raised else raised.setFu { s.fu with handshake := .waiting })) := by
  subst edge
  rw [exec_fenceReqRise low]
  refine ⟨fun ignored => ?_, fun released idle => ?_⟩
  · rcases ignored with asserted | busy
    · rw [if_pos asserted]
    · rw [requestLine_busy (by exact busy), ite_self]
  · rw [released, if_neg Bool.false_ne_true]
    split
    next room => rw [requestLine_room (by exact idle) (by exact room)]
    next full => rw [requestLine_full (by exact idle) (by exact Nat.not_lt.1 full)]; rfl

/-- Settles O31: the edge moves the pin, and the handshake's state says what else it does. -/
theorem fenceLineResult : Obligations.FenceLineResult := by
  refine ⟨fun s => ⟨fun high => ?_, fun low => ?_⟩, fun s => ⟨fun low => ?_, fun high => ?_⟩⟩
  · simp [exec, execFenceReqRise, high]
  · intro raised
    obtain ⟨ignored, taken⟩ := fenceReqRise_result low raised rfl
    refine ⟨ignored, fun released idle => ⟨fun full => ?_, fun room empty d behind => ?_, fun older r room tail d behind => ?_⟩⟩
    · rw [taken released idle, if_neg (Nat.not_lt.2 full)]
      rfl
    · have flag : raised.someBehind = d := someBehind_eq behind
      rw [taken released idle, if_pos room, issueFence_empty (by exact empty), flag]
      rfl
    · have flag : raised.someBehind = d := someBehind_eq behind
      rw [taken released idle, if_pos room, issueFence_queued (by exact tail), flag]
      rfl
  · simp [exec, execFenceReqFall, low]
  · intro fallen
    rw [exec_fenceReqFall high]
    have here : s.setPins { s.pins with fenceReq := false } = fallen := rfl
    have hand : fallen.fu.handshake = s.fu.handshake := rfl
    rw [here]
    refine ⟨fun ignored => ?_, fun released => ?_⟩
    · rcases ignored with asserted | idle
      · rw [if_pos asserted]
      · rw [releaseLine, hand, idle]
        exact congrArg _ (ite_self _)
    · rw [released, if_neg Bool.false_ne_true]
      refine ⟨fun waits => ?_, fun pending => ?_, fun answered => ?_⟩
      · rw [releaseLine, hand, waits]
        rfl
      · rw [releaseLine, hand, pending]
        rfl
      · rw [releaseLine, hand, answered]
        rfl

end Sys2Proof.Proofs.Fences
end

section
/-! PROOF. The family 07_fences, part 3: what an ACK that makes progress does at the fence unit (O51). -/

namespace Sys2Proof.Proofs.Fences

open Sys2Proof Sys2Proof.Machine Sys2Proof.Proofs.MirrorWindows

variable {s t x b : State} {f : Fence} {gone list : List Fence} {a limit q : Seq} {waiter d halts behind : Bool}
  {reject : Option RejectReason} {older : List Record} {r : Record}

/-! ### What follows the fences leaves the fence unit alone (R85) -/

theorem handOn_after : Only [.drawn, .out, .cu, .mp, .da, .dm, .re, .fu, .al, .counters] (completeFences a s)
    (handOn a waiter s) := by
  unfold handOn
  cases waiter <;> simp [Only.refl]

theorem handOn_fu : (handOn a waiter s).fu = (completeFences a s).fu := by
  have before : (compared a waiter s).fu = (completeFences a s).fu := compared_after .fu (by decide)
  have after : (compareSegment a (compared a waiter s)).fu = (compared a waiter s).fu := by
    obtain same | ⟨g, _, done⟩ := compareSegment_cases (a := a) (s := compared a waiter s)
    · rw [same]
    · rw [done, segmentDone_fu]
  rw [handOn_eq, acceptOffer_fu, advanceEngine_fu, after, before]

theorem flagsKept_fenced : FlagsKept (completeFences a s) (handOn a waiter s) := by
  have before : FlagsKept (completeFences a s) (compared a waiter s) := flagsKept_of_al (compared_after .al (by decide))
  rw [handOn_eq]
  refine (before.trans ?_).trans ((flagsKept_of_al advanceEngine_al).trans (flagsKept_acceptOffer _))
  obtain same | ⟨g, _, done⟩ := compareSegment_cases (a := a) (s := compared a waiter s)
  · rw [same]; exact .refl _
  · rw [done]; exact flagsKept_segmentDone

/-! ### The reject that the ACK carries, at the fence unit (R84, R144) -/

theorem reachedBy_degradedBy : reachedBy a (degradedBy d list) = degradedBy d (reachedBy a list) := by
  rw [reachedBy, degradedBy, List.takeWhile_map]
  rfl

theorem dropWhile_degradedBy : (degradedBy d list).dropWhile (fun f => atOrBefore f.ticket a)
    = degradedBy d (list.dropWhile (fun f => atOrBefore f.ticket a)) := by
  rw [degradedBy, List.dropWhile_map]
  rfl

theorem lineCount_degradedBy : lineCount (degradedBy d list) = lineCount list := by
  rw [lineCount, degradedBy, List.countP_map]
  rfl

/-- The ACK carries a reject that halts a window (R25, R84). -/
def Halts (reject : Option RejectReason) (a : Seq) (s : State) : Prop :=
  reject.isSome = true ∧ ∃ r, s.rq.records.find? (fun r => decide (r.seq = a)) = some r
    ∧ s.out[r.window].state ≠ .off ∧ s.out[r.window].state ≠ .halted

/-- A reject halts a window, or touches neither the windows nor the fence unit. -/
theorem ackReject_outcome (out : b.out = s.out) :
    (Halts reject a s ∧ ∃ w reason, ackReject reject (s.windowOfSeq a) b
        = enterWindow w .halted (some (.reject reason)) (bump .rejectsReceived b))
      ∨ (¬Halts reject a s ∧ (ackReject reject (s.windowOfSeq a) b).fu = b.fu
        ∧ (ackReject reject (s.windowOfSeq a) b).out = b.out) := by
  cases reject with
  | none => exact .inr ⟨fun halts => Bool.false_ne_true halts.1, rfl, rfl⟩
  | some reason =>
    cases found : s.rq.records.find? (fun r => decide (r.seq = a)) with
    | none =>
      have nowhere : s.windowOfSeq a = none := by rw [State.windowOfSeq, found]; rfl
      refine .inr ⟨fun ⟨_, r, there, _⟩ => ?_, by rw [nowhere]; rfl, by rw [nowhere]; rfl⟩
      rw [found] at there
      cases there
    | some r =>
      have window : s.windowOfSeq a = some r.window := by rw [State.windowOfSeq, found]; rfl
      have state : ((bump .rejectsReceived b).win r.window).state = s.out[r.window].state :=
        state_of_out (bump_out.trans out) _
      have ran : ackReject (some reason) (s.windowOfSeq a) b = rejectWindow r.window reason (bump .rejectsReceived b) := by
        rw [window]; rfl
      rw [ran]
      by_cases running : s.out[r.window].state ≠ .off ∧ s.out[r.window].state ≠ .halted
      · exact .inl ⟨⟨rfl, r, found, running⟩, _, reason,
          rejectWindow_running (by rw [state]; exact running.1) (by rw [state]; exact running.2)⟩
      · have same : rejectWindow r.window reason (bump .rejectsReceived b) = bump .rejectsReceived b := by
          unfold rejectWindow
          rw [state]
          split <;> simp_all
        rw [same]
        refine .inr ⟨fun ⟨_, r', there, running'⟩ => ?_, bump_fu, bump_out⟩
        rw [found] at there
        cases there
        exact running running'

/-- The fences and the windows as the reject leaves them: a window that it halts degrades every fence (R144). -/
theorem ackReject_told (out : b.out = s.out) (told : halts = true ↔ Halts reject a s)
    (low : behind = true ↔ s.outOfStep ∨ halts = true) :
    (ackReject reject (s.windowOfSeq a) b).fu = { b.fu with fences := degradedBy halts b.fu.fences }
      ∧ (ackReject reject (s.windowOfSeq a) b).someBehind = behind := by
  obtain ⟨does, w, reason, entered⟩ | ⟨doesnt, fu, same⟩ := ackReject_outcome (reject := reject) (a := a) out
  · have yes : halts = true := told.2 does
    rw [entered, yes]
    refine ⟨?_, ?_⟩
    · rw [enterWindow_fu, if_pos (by rfl), bump_fu]
      simp [degradedBy]
    · rw [low.2 (.inr yes), someBehind_iff]
      refine ⟨w, .inr (.inr ?_)⟩
      have own := congrArg OutWindow.state (enterWindow_win (s := bump .rejectsReceived b) (w := w) (v := w) .halted
        (some (.reject reason)))
      rw [if_pos rfl] at own
      exact own
  · have no : halts = false := Bool.eq_false_iff.2 fun yes => doesnt (told.1 yes)
    refine ⟨by rw [fu, no, degradedBy_false], ?_⟩
    rw [someBehind_congr (same.trans out)]
    exact someBehind_eq (low.trans (by simp [no]))

/-! ### The fences an ACK reaches, delivered (R145, R147, R151) -/

theorem linesOf_eq : linesOf t = linesOf s
    ↔ t.fu.handshake = s.fu.handshake ∧ t.fu.ack = s.fu.ack ∧ t.fu.clean = s.fu.clean := by
  simp [linesOf]

theorem fencesDelivered_answerRun (log : x.fu.log = s.fu.log) (lines : linesOf x = linesOf s)
    (one : LinesFollowHandshake s → lineCount gone ≤ 1) (logged : t.fu.log = (answerRun true gone x).fu.log)
    (shown : linesOf t = linesOf (answerRun true gone x)) (flags : FlagsKept (answerRun true gone x) t) :
    FencesDelivered true gone s t := by
  refine ⟨fun short => ?_, fun port => flags _ (answerRun_flag port), fun law => ⟨fun f mem line => ?_, fun ports _ => ?_⟩⟩
  · rw [logged, answerRun_log (by rw [log]; exact short), log]
  · rw [answerRun_line (one law) mem line] at shown
    simpa [linesOf] using shown
  · rw [answerRun_ports ports, lines] at shown
    exact linesOf_eq.1 shown

/-- At most one fence of those an ACK reaches is the LINE fence (R140, R149). -/
theorem lineCount_reachedBy (law : LinesFollowHandshake s) : lineCount (reachedBy a s.fu.fences) ≤ 1 := by
  obtain ⟨_, _, count⟩ := law
  have fewer : lineCount (reachedBy a s.fu.fences) ≤ lineCount s.fu.fences :=
    (List.takeWhile_sublist _).countP_le
  have all : lineCount s.fu.fences ≤ 1 := by
    rw [lineCount, count]
    split <;> omega
  omega

/-- An ACK that reaches a fence reaches the front one first. -/
theorem reachedBy_front (some_ : reachedBy a list ≠ []) : ∃ f rest, list = f :: rest ∧ atOrBefore f.ticket a = true
    ∧ reachedBy a list = [f] ++ reachedBy a rest
    ∧ list.dropWhile (fun f => atOrBefore f.ticket a) = rest.drop (reachedBy a rest).length := by
  cases list with
  | nil => exact absurd rfl some_
  | cons f rest =>
    have here : atOrBefore f.ticket a = true := by
      by_contra out
      exact some_ (by simp [reachedBy, out])
    exact ⟨f, rest, rfl, here, by simp [reachedBy, here], by simp [drop_reachedBy, here]⟩

/-- A PORT fence that has left the front of the list DONE leaves the queue, the windows and the lines as they were. -/
theorem portDone (fences : s.fu.fences = f :: list) (port : f.source ≠ .line) (done : leaveList 1 (answer true s f) = t) :
    t.rq = s.rq ∧ t.fu.fences = list ∧ linesOf t = linesOf s ∧ t.someBehind = s.someBehind
      ∧ t.al.detail.has .fenceDone = true := by
  rw [← done]
  refine ⟨answer_rq, ?_, answer_lines.trans (if_neg port), someBehind_congr answer_out, answer_flag (done := true) port⟩
  change (answer true s f).fu.fences.drop 1 = list
  rw [answer_fences, fences]
  rfl

/-- The fences that an ACK reaches while a line request waits, and the line request that is issued then (R145, R150). -/
theorem completeFences_issues (waits : s.fu.handshake = .waiting) (ports : lineCount s.fu.fences = 0)
    (some_ : reachedBy a s.fu.fences ≠ []) :
    (s.fu.log.length ≤ 8 →
        (completeFences a s).fu.log
          = lastEntries (s.fu.log ++ (reachedBy a s.fu.fences).filterMap (Fence.result true)))
      ∧ (completeFences a s).al.detail.has .fenceDone = true ∧ (completeFences a s).rq.mergeTimer = none
      ∧ (s.rq.records = [] → (completeFences a s).rq.records = []
        ∧ (completeFences a s).fu.fences = s.fu.fences.dropWhile (fun f => atOrBefore f.ticket a)
        ∧ linesOf (completeFences a s) = (.answered, true, !s.someBehind))
      ∧ ∀ older r, s.rq.records = older ++ [r] →
        (completeFences a s).rq = closedQueue s older r
          ∧ (completeFences a s).fu.fences
            = s.fu.fences.dropWhile (fun f => atOrBefore f.ticket a) ++ [⟨r.seq, .line, s.someBehind⟩]
          ∧ linesOf (completeFences a s) = (.pending, s.fu.ack, s.fu.clean) := by
  obtain ⟨f, list, fences, here, reached, left⟩ := reachedBy_front some_
  have port : ∀ g ∈ f :: list, g.source ≠ .line := lineCount_zero.1 (fences ▸ ports)
  have rest : ∀ g ∈ reachedBy a list, g.source ≠ .line := fun g mem =>
    port g (List.mem_cons_of_mem _ ((List.takeWhile_sublist _).subset mem))
  have short : (reachedBy a list).length ≤ list.length := (List.takeWhile_sublist _).length_le
  -- The line request is issued in `u`; the other fences that the ACK reaches then leave the list.
  generalize first : leaveList 1 (answer true s f) = u
  obtain ⟨urq, ufences, ulines, ubehind, uflag⟩ := portDone fences (port f List.mem_cons_self) first
  have all : completeFences a s
      = leaveList (reachedBy a list).length (answerRun true (reachedBy a list) (issueFence .line u)) := by
    rw [completeFences_waiting waits fences (port f List.mem_cons_self) here, first]
  have lines : linesOf (completeFences a s) = linesOf (issueFence .line u) := by rw [all]; exact answerRun_ports rest
  have rq : (completeFences a s).rq = (issueFence .line u).rq := by rw [all]; exact answerRun_rq
  have pending : (completeFences a s).fu.fences = (issueFence .line u).fu.fences.drop (reachedBy a list).length := by
    rw [all]
    exact congrArg _ answerRun_fences
  refine ⟨fun room => ?_, ?_, ?_, fun empty => ?_, fun older r tail => ?_⟩
  · have ulog : (issueFence .line u).fu.log = lastEntries (s.fu.log ++ [f].filterMap (Fence.result true)) := by
      rw [issueFence_line_log, ← first]
      exact deliver_log_result room
    have bounded : (issueFence .line u).fu.log.length ≤ 8 := by
      rw [ulog, lastEntries, List.length_drop]
      omega
    rw [all]
    refine (answerRun_log bounded).trans ?_
    rw [ulog, lastEntries_append, List.append_assoc, ← List.filterMap_append, ← reached]
  · rw [all]
    exact flagsKept_answerRun _ (flagsKept_issueFence u _ uflag)
  · rw [rq]
    exact issueFence_mergeTimer
  · have issued := issueFence_empty (source := .line) (urq ▸ empty : u.rq.records = [])
    rw [rq, pending, lines, issued, left]
    refine ⟨(congrArg ReplayQueue.records urq).trans empty, congrArg _ ufences, ?_⟩
    rw [← ubehind]
    rfl
  · have issued := issueFence_queued (source := .line) (urq ▸ tail : u.rq.records = older ++ [r])
    obtain ⟨_, ack, clean⟩ := linesOf_eq.1 ulines
    rw [rq, pending, lines, issued, left, ← List.drop_append_of_le_length short, ← ubehind, ← ack, ← clean, ← ufences]
    refine ⟨?_, rfl, rfl⟩
    change closedQueue u older r = closedQueue s older r
    rw [closedQueue, closedQueue, urq]

/-- Settles O51. -/
theorem fencesCompleteResult : Obligations.FencesCompleteResult := by
  intro a limit reject q halts behind s up sent progress named _ law told low reached left kept
  have out : (acked a limit s).out = s.out := acked_only .out (by decide)
  have base : (acked a limit s).fu = s.fu := acked_only .fu (by decide)
  obtain ⟨fu, flag⟩ := ackReject_told (b := acked a limit s) out told low
  have frame : Only [.out, .da, .re, .fu, .al, .counters] (acked a limit s)
      (ackReject reject (s.windowOfSeq a) (acked a limit s)) := by simp [Only.refl]
  have rq := (frame .rq (by decide)).trans acked_rq
  have run := exec_ack (limit := limit) up sent progress named
  generalize ackReject reject (s.windowOfSeq a) (acked a limit s) = x at fu flag rq run
  rw [base] at fu
  have log : x.fu.log = s.fu.log := by rw [fu]
  have lines : linesOf x = linesOf s := by simp [linesOf, fu]
  have hand : x.fu.handshake = s.fu.handshake := by rw [fu]
  have records : x.rq.records = kept := by rw [rq]
  have timer : x.rq.mergeTimer = s.rq.mergeTimer := by rw [rq]
  have gone : reachedBy a x.fu.fences = degradedBy halts reached := by rw [fu]; exact reachedBy_degradedBy
  have stay : x.fu.fences.dropWhile (fun f => atOrBefore f.ticket a) = left := by rw [fu]; exact dropWhile_degradedBy
  have empty : degradedBy halts reached = [] ↔ reached = [] := by simp [degradedBy]
  have last : (handOn a (s.waiterRemoved a) x).rq = (completeFences a x).rq := handOn_after .rq (by decide)
  have shown : linesOf (handOn a (s.waiterRemoved a) x) = linesOf (completeFences a x) := by rw [linesOf, handOn_fu]; rfl
  have flags : FlagsKept (completeFences a x) (handOn a (s.waiterRemoved a) x) := flagsKept_fenced
  refine ⟨_, run, fun free => ?_, fun none => ?_, fun waits some_ => ?_⟩
  · have done := completeFences_answered (a := a) (s := x) (by rwa [hand, gone, empty])
    rw [gone] at done
    rw [handOn_fu, last, ← stay]
    refine ⟨?_, ?_, ?_, fencesDelivered_answerRun log lines ?_ ?_ ?_ ?_⟩
    · rw [← drop_reachedBy, gone, done]
      exact congrArg _ answerRun_fences
    · rw [← records, done]
      exact congrArg _ answerRun_rq
    · rw [← timer, done]
      exact congrArg _ answerRun_rq
    · intro law
      rw [lineCount_degradedBy]
      exact lineCount_reachedBy law
    · rw [handOn_fu, done]; rfl
    · rw [shown, done]; rfl
    · rw [done] at flags; exact flags
  · have done := completeFences_answered (a := a) (s := x) (.inr (by rwa [gone, empty]))
    rw [gone, empty.2 none] at done
    rw [handOn_fu, done]
    exact ⟨log, hand⟩
  · have ports : lineCount x.fu.fences = 0 := by
      rw [fu, lineCount_degradedBy, lineCount, law.2.2, waits]
      rfl
    obtain ⟨logged, raised, stopped, alone, queued⟩ :=
      completeFences_issues (a := a) (hand.trans waits) ports (by rwa [gone, Ne, empty])
    rw [handOn_fu, last]
    refine ⟨fun short => ?_, flags _ raised, stopped, fun none => ?_, fun older r tail => ?_⟩
    · rw [logged (by rw [log]; exact short), log, gone]
    · obtain ⟨records', fences', lines'⟩ := alone (records.trans none)
      rw [flag] at lines'
      simp only [linesOf, Prod.mk.injEq] at lines'
      exact ⟨records', fences'.trans stay, lines'⟩
    · obtain ⟨rq', fences', lines'⟩ := queued older r (records.trans tail)
      simp only [linesOf, Prod.mk.injEq] at lines'
      obtain ⟨pending, ack, _⟩ := lines'
      rw [flag, stay] at fences'
      exact ⟨by rw [rq']; rfl, fences', pending, by rw [ack, fu]⟩

end Sys2Proof.Proofs.Fences
end

section
/-! PROOF. The family 07_fences, part 4: what the fence unit's operations keep of the output lines (O5). -/

namespace Sys2Proof.Proofs.Fences

open Sys2Proof Sys2Proof.Machine Sys2Proof.Proofs.MirrorWindows

variable {s t u : State} {f : Fence} {list : List Fence} {a : Seq} {source : FenceSource}

/-! ### The law of the fence lines (R149) -/

theorem linesFollow_iff : LinesFollowHandshake s ↔ (s.fu.ack = true ↔ s.fu.handshake = .answered)
    ∧ (s.fu.clean = true → s.fu.handshake = .answered)
    ∧ lineCount s.fu.fences = if s.fu.handshake = .pending then 1 else 0 := Iff.rfl

/-- The law looks at the lines and at the number of LINE fences in the list. -/
theorem linesFollow_congr (lines : linesOf t = linesOf s) (count : lineCount t.fu.fences = lineCount s.fu.fences) :
    LinesFollowHandshake s → LinesFollowHandshake t := by
  obtain ⟨hand, ack, clean⟩ := linesOf_eq.1 lines
  rw [linesFollow_iff, linesFollow_iff, hand, ack, clean, count]
  exact id

/-- A request that is answered: no LINE fence is left in the list (R151). -/
theorem linesFollow_answered (hand : t.fu.handshake = .answered) (ack : t.fu.ack = true)
    (count : lineCount t.fu.fences = 0) : LinesFollowHandshake t := by
  rw [linesFollow_iff, hand, ack, count]
  exact ⟨by simp, by simp, rfl⟩

/-- Outside ANSWERED both lines are low (R149). -/
theorem linesFollow_low (law : LinesFollowHandshake s) (other : s.fu.handshake ≠ .answered) :
    s.fu.ack = false ∧ s.fu.clean = false := by
  obtain ⟨ack, clean, _⟩ := law
  exact ⟨Bool.eq_false_iff.2 fun high => other (ack.1 high), Bool.eq_false_iff.2 fun high => other (clean high)⟩

theorem lineCount_append {more : List Fence} : lineCount (list ++ more) = lineCount list + lineCount more :=
  List.countP_append

theorem lineCount_of_other (law : LinesFollowHandshake s) (other : s.fu.handshake ≠ .pending) :
    lineCount s.fu.fences = 0 := law.2.2.trans (if_neg other)

/-! ### Issue (R142, R150) -/

/-- A line request taken in IDLE, or one that waits, is answered at its issue or joins the list (R150). -/
theorem linesFollow_issueLine (law : LinesFollowHandshake s) (asks : s.fu.handshake = .idle ∨ s.fu.handshake = .waiting) :
    LinesFollowHandshake (issueFence .line s) := by
  have free : s.fu.handshake ≠ .answered ∧ s.fu.handshake ≠ .pending := by
    rcases asks with hand | hand <;> rw [hand] <;> decide
  have none : lineCount s.fu.fences = 0 := lineCount_of_other law free.2
  rcases List.eq_nil_or_concat' s.rq.records with empty | ⟨older, r, tail⟩
  · rw [issueFence_empty empty]
    exact linesFollow_answered rfl rfl none
  · obtain ⟨ack, clean⟩ := linesFollow_low law free.1
    rw [issueFence_queued tail, linesFollow_iff]
    refine ⟨by simp [ack], by simp [clean], ?_⟩
    change lineCount (s.fu.fences ++ _) = _
    rw [lineCount_append, none]
    rfl

theorem linesFollow_issuePort {tag : Byte} (law : LinesFollowHandshake s) :
    LinesFollowHandshake (issueFence (.port tag) s) := by
  rcases List.eq_nil_or_concat' s.rq.records with empty | ⟨older, r, tail⟩
  · rw [issueFence_empty empty]
    exact linesFollow_congr (by rfl) (by rfl) law
  · rw [issueFence_queued tail]
    refine linesFollow_congr (by rfl) ?_ law
    change lineCount (s.fu.fences ++ _) = _
    rw [lineCount_append]
    rfl

theorem linesFollow_issueWaiting (law : LinesFollowHandshake s) : LinesFollowHandshake (issueWaiting s) := by
  by_cases waits : s.fu.handshake = .waiting
  · rw [issueWaiting_waiting waits]
    exact linesFollow_issueLine law (.inr waits)
  · rwa [issueWaiting_other waits]

/-! ### Completion (R145, R146) -/

/-- The front fence leaves the list with its result delivered; the LINE fence takes the handshake to ANSWERED (R151). -/
theorem linesFollow_front (law : LinesFollowHandshake s) (fences : s.fu.fences = f :: list) {done : Bool} :
    LinesFollowHandshake (leaveList 1 (answer done s f)) := by
  have count : lineCount (leaveList 1 (answer done s f)).fu.fences = lineCount list := by
    change lineCount ((answer done s f).fu.fences.drop 1) = _
    rw [answer_fences, fences]
    rfl
  have lines : linesOf (leaveList 1 (answer done s f)) = _ := answer_lines
  obtain ⟨_, _, before⟩ := linesFollow_iff.1 law
  rw [fences, lineCount_cons] at before
  by_cases line : f.source = .line
  · rw [if_pos line] at before lines
    simp only [linesOf, Prod.mk.injEq] at lines
    obtain ⟨hand, ack, _⟩ := lines
    refine linesFollow_answered hand ack (count.trans ?_)
    split at before <;> omega
  · rw [if_neg line] at before lines
    refine linesFollow_congr lines ?_ law
    rw [count, fences, lineCount_cons, if_neg line, Nat.add_zero]

theorem linesFollow_completeFront (law : LinesFollowHandshake s) (fences : s.fu.fences = f :: list) :
    LinesFollowHandshake (completeFront f s) := by
  rw [completeFront_eq]
  exact linesFollow_issueWaiting (linesFollow_front law fences)

/-- Behind the fences that are left, a completion adds at most the line request that waited (R150). -/
theorem completeFront_fences (fences : s.fu.fences = f :: list) :
    ∃ more, (completeFront f s).fu.fences = list ++ more := by
  have left : (leaveList 1 (answer true s f)).fu.fences = list := by
    change (answer true s f).fu.fences.drop 1 = _
    rw [answer_fences, fences]
    rfl
  rw [completeFront_eq]
  by_cases waits : (leaveList 1 (answer true s f)).fu.handshake = .waiting
  · rw [issueWaiting_waiting waits, issueFence_fences, left]
    split
    · exact ⟨[], (List.append_nil _).symm⟩
    · exact ⟨_, rfl⟩
  · rw [issueWaiting_other waits, left]
    exact ⟨[], (List.append_nil _).symm⟩

theorem linesFollow_completeRun {more : List Fence} (law : LinesFollowHandshake s) (fences : s.fu.fences = list ++ more) :
    LinesFollowHandshake (completeRun a list s) := by
  induction list generalizing s more with
  | nil => exact law
  | cons f list ih =>
    unfold completeRun
    split
    · obtain ⟨last, left⟩ := completeFront_fences fences
      exact ih (linesFollow_completeFront law fences) (left.trans (List.append_assoc ..))
    · exact law

/-- Fences that fail leave the list empty, and a request that was pending or waiting is answered (R146, R151). -/
theorem linesFollow_failed (law : LinesFollowHandshake s) (count : lineCount list = lineCount s.fu.fences)
    (failed : FencesFailed list s t) : LinesFollowHandshake t := by
  obtain ⟨⟨_, _, delivered⟩, empty, waiting⟩ := failed
  obtain ⟨line, ports⟩ := delivered law
  have none : lineCount t.fu.fences = 0 := by rw [empty]; rfl
  by_cases waits : s.fu.handshake = .waiting
  · obtain ⟨hand, ack, _⟩ := waiting waits
    exact linesFollow_answered hand ack none
  · by_cases some_ : ∃ f ∈ list, f.source = .line
    · obtain ⟨f, mem, source⟩ := some_
      obtain ⟨hand, ack, _⟩ := line f mem source
      exact linesFollow_answered hand ack none
    · have without : ∀ f ∈ list, f.source ≠ .line := fun f mem source => some_ ⟨f, mem, source⟩
      refine linesFollow_congr (linesOf_eq.2 (ports without waits)) ?_ law
      rw [none, ← count, lineCount_zero.2 without]

/-! ### FENCE_REQ (R150 to R152) -/

theorem linesFollow_requestLine (law : LinesFollowHandshake s) : LinesFollowHandshake (requestLine s) := by
  by_cases idle : s.fu.handshake = .idle
  · rcases Nat.lt_or_ge s.fu.fences.length 4 with room | full
    · rw [requestLine_room idle room]
      exact linesFollow_issueLine law (.inl idle)
    · obtain ⟨ack, clean⟩ := linesFollow_low law (by rw [idle]; decide)
      have none : lineCount s.fu.fences = 0 := lineCount_of_other law (by rw [idle]; decide)
      rw [requestLine_full idle full, linesFollow_iff]
      exact ⟨by simp [ack], by simp [clean], none⟩
  · rwa [requestLine_busy idle]

theorem linesFollow_releaseLine (law : LinesFollowHandshake s) : LinesFollowHandshake (releaseLine s) := by
  unfold releaseLine
  split
  next => exact law
  next waits =>
    obtain ⟨ack, clean⟩ := linesFollow_low law (by rw [waits]; decide)
    have none : lineCount s.fu.fences = 0 := lineCount_of_other law (by rw [waits]; decide)
    exact linesFollow_iff.2 ⟨by simp [ack], by simp [clean], none⟩
  next pending =>
    obtain ⟨ack, clean⟩ := linesFollow_low law (by rw [pending]; decide)
    refine linesFollow_iff.2 ⟨by simp [ack], by simp [clean], ?_⟩
    exact lineCount_zero.2 fun f mem => by simpa using (List.mem_filter.1 mem).2
  next answered =>
    have none : lineCount s.fu.fences = 0 := lineCount_of_other law (by rw [answered]; decide)
    exact linesFollow_iff.2 ⟨by simp, by simp, none⟩

/-! ### ALERT_N (R184) -/

theorem alertFollows_congr (al : t.al = s.al) : AlertFollows s → AlertFollows t := by
  unfold AlertFollows
  rw [al]
  exact id

theorem alertFollows_deliver {ticket done degraded} (h : AlertFollows s) :
    AlertFollows (deliver source ticket done degraded s) := by
  cases source with
  | line => exact h
  | port tag => exact alertFollows_raise _ _

theorem alertFollows_issueFence (h : AlertFollows s) : AlertFollows (issueFence source s) := by
  rcases List.eq_nil_or_concat' s.rq.records with empty | ⟨older, r, tail⟩
  · rw [issueFence_empty empty]
    exact alertFollows_deliver h
  · rw [issueFence_queued tail]
    exact h

theorem alertFollows_completeRun (h : AlertFollows s) : AlertFollows (completeRun a list s) := by
  induction list generalizing s with
  | nil => exact h
  | cons f list ih =>
    unfold completeRun
    split
    · have delivered : AlertFollows (deliver f.source (some f.ticket) true f.degraded
          (s.setFu { s.fu with fences := s.fu.fences.tail })) := alertFollows_deliver h
      refine ih ?_
      unfold completeFront issueWaiting
      split
      · exact alertFollows_issueFence delivered
      all_goals exact delivered
    · exact h

theorem alertFollows_failAll (h : AlertFollows s) : AlertFollows (failAll list s) := by
  have results : AlertFollows (failRun list s) :=
    List.foldlRecOn _ _ (motive := AlertFollows) h fun _ kept _ _ => alertFollows_deliver kept
  rw [failAll_eq]
  split <;> exact results

theorem alertFollows_failFences (h : AlertFollows s) : AlertFollows (failFences list s) := by
  unfold failFences
  split <;> exact alertFollows_failAll h

end Sys2Proof.Proofs.Fences
end

section
/-! PROOF. The family 07_fences, part 5: what the operations of the other blocks keep of the output lines (O5). Only a raised
cause moves ALERT_N, and only the fence unit moves FENCE_ACK and FENCE_CLEAN; the rest leaves both units alone. -/

namespace Sys2Proof.Proofs.Fences

open Sys2Proof Sys2Proof.Machine Sys2Proof.Proofs.MirrorWindows

variable {s t u : State} {w : WinId} {a : Seq}

/-! ### What an operation keeps of the output lines -/

/-- A change that keeps ALERT_N and the fence lines at the levels of their laws. -/
structure LinesKept (s t : State) : Prop where
  alert : AlertFollows s → AlertFollows t
  fence : LinesFollowHandshake s → LinesFollowHandshake t

/-- The blocks that drive no output line. -/
def silent : List StateField :=
  [.pending, .drawn, .pins, .port, .params, .out, .inb, .rq, .cu, .mp, .da, .lc, .lanes, .ts, .rc, .au, .dm, .re, .counters]

@[simp] theorem mem_silent (f : StateField) : f ∈ silent ↔ f ≠ .fu ∧ f ≠ .al := by
  cases f <;> decide

theorem LinesKept.trans (h : LinesKept s t) (h' : LinesKept t u) : LinesKept s u :=
  ⟨h'.alert ∘ h.alert, h'.fence ∘ h.fence⟩

theorem linesKept_of_only (h : Only silent s t) : LinesKept s t := by
  have fu : t.fu = s.fu := h .fu (by decide)
  refine ⟨alertFollows_congr (h .al (by decide)), linesFollow_congr ?_ (by rw [fu])⟩
  rw [linesOf, fu]
  rfl

theorem LinesKept.refl (s : State) : LinesKept s s := ⟨id, id⟩

theorem LinesKept.only (h : LinesKept s t) (frame : Only silent t u) : LinesKept s u := h.trans (linesKept_of_only frame)

theorem LinesKept.ite {c : Prop} [Decidable c] {x y : State} (hx : c → LinesKept s x) (hy : ¬c → LinesKept s y) :
    LinesKept s (if c then x else y) := by
  split
  · exact hx ‹_›
  · exact hy ‹_›

theorem LinesKept.foldl {α : Type} {f : State → α → State} (h : LinesKept s t) (each : ∀ u x, LinesKept u (f u x))
    (l : List α) : LinesKept s (l.foldl f t) :=
  List.foldlRecOn l f (motive := LinesKept s) h fun u kept x _ => kept.trans (each u x)

theorem LinesKept.raise {c : Cause} (h : LinesKept s t) : LinesKept s (raise c t) :=
  h.trans ⟨fun _ => alertFollows_raise c t, id⟩

theorem LinesKept.bump {c : Counter} (h : LinesKept s t) : LinesKept s (bump c t) := h.only (by simp [Only.refl])

theorem LinesKept.settle (h : LinesKept s t) : LinesKept s (settle t) := h.only (by simp [Only.refl])

theorem LinesKept.advanceEngine (h : LinesKept s t) : LinesKept s (advanceEngine t) := h.only (by simp [Only.refl])

theorem LinesKept.releasePort (h : LinesKept s t) : LinesKept s (releasePort t) := h.only (by simp [Only.refl])

theorem LinesKept.completeUpstream {r : Result} {bytes : Option LineData} (h : LinesKept s t) :
    LinesKept s (completeUpstream r bytes t) := h.only (by simp [Only.refl])

/-! ### Window transitions (R28, R144) -/

theorem LinesKept.raiseEntry {old new : WinState} (h : LinesKept s t) : LinesKept s (raiseEntry w old new t) := by
  cases new with
  | off | resync => exact h
  | active => exact .ite (fun _ => h.raise) fun _ => h
  | degraded | halted => exact h.raise

/-- A window's entry into a state raises its cause, and may degrade the fences; it moves no line of the fence unit. -/
theorem LinesKept.enterWindow {new : WinState} {halt : Option HaltCause} (h : LinesKept s t) :
    LinesKept s (enterWindow w new halt t) := by
  refine h.trans ⟨fun law => ?_, ?_⟩
  · exact alertFollows_congr (enterWindow_al new halt) ((LinesKept.refl t).raiseEntry.alert law)
  · refine linesFollow_congr ?_ ?_
    · rw [linesOf, enterWindow_fu]
      split <;> rfl
    · rw [enterWindow_fu]
      split
      · rw [lineCount, List.countP_map]
        rfl
      · rfl

theorem LinesKept.toResync (h : LinesKept s t) : LinesKept s (toResync w t) :=
  .ite (fun _ => h.enterWindow) fun _ => h.enterWindow

theorem LinesKept.captureFailure (h : LinesKept s t) : LinesKept s (captureFailure w t) :=
  .ite (fun _ => .ite (fun _ => h.toResync) fun _ => h.enterWindow) fun _ => h

theorem LinesKept.ackReject {reject : Option RejectReason} {window : Option WinId} (h : LinesKept s t) :
    LinesKept s (ackReject reject window t) := by
  unfold Machine.ackReject rejectWindow
  repeat' split
  · exact h
  · exact h.bump
  · exact h.bump
  · exact h.bump
  all_goals exact h.bump.enterWindow

/-! ### The upstream port and the capture unit (R44 to R48, R161) -/

theorem LinesKept.acceptTxn {x : Txn} (h : LinesKept s t) : LinesKept s (acceptTxn x t) := by
  unfold Machine.acceptTxn
  dsimp only
  refine .ite (fun _ => ?_) fun _ => h.only (by simp [Only.refl])
  split
  · exact (h.only (u := Machine.completeUpstream .err none (t.setMp { t.mp with offer := none }))
      (by simp [Only.refl])).raise.bump
  · exact h.only (by simp [Only.refl])
  · exact h.only (by simp [Only.refl])

theorem LinesKept.acceptOffer (h : LinesKept s t) : LinesKept s (acceptOffer t) := by
  unfold Machine.acceptOffer
  split
  · exact h
  · exact .ite (fun _ => h) fun _ => h.acceptTxn

theorem LinesKept.markCapture {c : Capture} {r : Result} (h : LinesKept s t) : LinesKept s (markCapture c r t) :=
  (h.only (u := markLine c.window c.line t) (by simp [Only.refl])).captureFailure.completeUpstream

theorem LinesKept.mirrorWrite {c : Capture} (h : LinesKept s t) : LinesKept s (mirrorWrite c t) :=
  .ite (fun _ => h.only (by simp [Only.refl])) fun _ =>
    .ite (fun _ => h.only (by simp [Only.refl])) fun _ => h.bump.markCapture

theorem LinesKept.localWriteDone {c : Capture} {r : Result} (h : LinesKept s t) : LinesKept s (localWriteDone c r t) := by
  cases r with
  | ok =>
    simp only [Machine.localWriteDone, localWriteOk]
    split
    · exact h.completeUpstream
    · exact h.markCapture
    · exact h.markCapture
    all_goals exact .ite (fun _ => h.markCapture) fun _ => h.mirrorWrite
  | err =>
    simp only [Machine.localWriteDone, localWriteErr]
    split
    · exact h.completeUpstream
    all_goals exact h.raise.bump.markCapture

theorem LinesKept.confirmExpired {c : Capture} (h : LinesKept s t) : LinesKept s (confirmExpired c t) := by
  have dropped : LinesKept s (dropWaiter t) := h.only (by simp [Only.refl])
  unfold Machine.confirmExpired
  dsimp only
  split
  · exact dropped.completeUpstream
  all_goals exact dropped.markCapture

/-! ### The apply unit (R107 to R118) -/

theorem LinesKept.finishEntry {e : ApplyEntry} (h : LinesKept s t) : LinesKept s (finishEntry e t) := by
  unfold Machine.finishEntry
  dsimp only
  generalize taken : t.setAu _ = b
  have first : LinesKept s b := h.only (by rw [← taken]; simp [Only.refl])
  have closed (v : State) (h : LinesKept s v) : LinesKept s (if v.au.queue.isEmpty then
      applyQueueEmptied (v.setAu { v.au with drained := if v.isUp then v.au.drained else true }) else v) :=
    .ite (fun _ => h.only (by simp [Only.refl])) fun _ => h
  cases e.reject with
  | none => exact closed _ (first.only (by simp [Only.refl]))
  | some reason =>
    have counted : LinesKept s (Machine.raise .rejectSent (Machine.bump .rejectsSent b)) := first.bump.raise
    exact closed _ (.ite (fun _ => counted.only (by simp [Only.refl])) fun _ => counted)

theorem LinesKept.takeEntries (n : Nat) (h : LinesKept s t) : LinesKept s (takeEntries n t) := by
  induction n generalizing t with
  | zero => exact h
  | succ n ih =>
    unfold Machine.takeEntries
    split
    · exact h
    · refine .ite (fun _ => ?_) fun _ => h
      split
      · exact ih h.finishEntry
      · exact h.only (by simp [Only.refl])

theorem LinesKept.takeHead (h : LinesKept s t) : LinesKept s (takeHead t) := h.takeEntries _

theorem LinesKept.applyWriteDone {r : Result} (h : LinesKept s t) : LinesKept s (applyWriteDone r t) := by
  unfold Machine.applyWriteDone
  refine .ite (fun _ => h.only (by simp [Only.refl])) fun _ => ?_
  unfold finishWrite
  split
  · exact h
  · refine .ite (fun _ => ?_) fun _ => h
    cases r with
    | ok => exact h.finishEntry.takeHead
    | err => exact h.raise.bump.finishEntry.takeHead

/-! ### The session end (R67, R68, R146) -/

theorem LinesKept.leaveUp {cause : DownCause} {peer : Option DownCause} (h : LinesKept s t) :
    LinesKept s (leaveUp cause peer t) := by
  unfold Machine.leaveUp
  dsimp only
  generalize left : (t.setLanes _).setLc _ = b
  have first : LinesKept s b := h.only (by rw [← left]; simp [Only.refl])
  exact LinesKept.raise (.ite (fun _ => first.raise) fun _ => first)

/-- The windows' part of a session end and the fences that it fails (R23, R39, R146). -/
theorem linesKept_failFences : LinesKept s (failFences s.fu.fences (endScheduler (endWindows (discardAll s)))) where
  alert law := by
    have windows : LinesKept s (endWindows (discardAll s)) :=
      endWindows_discardAll_induction (P := LinesKept s) (fun _ _ _ kept => kept.only (by simp [Only.refl]))
        (fun _ _ _ kept => kept.enterWindow) (fun _ kept => kept.only (by simp [Only.refl])) (.refl s)
    have scheduled : LinesKept s (endScheduler (endWindows (discardAll s))) := windows.only (by simp [Only.refl])
    exact alertFollows_failFences (scheduled.alert law)
  fence law := by
    obtain ⟨d, fu, _⟩ := degraded_ended (s := s)
    obtain ⟨_, d', _, failed⟩ := fencesFailed_failFences (endScheduler_fu.trans fu)
    exact linesFollow_failed law lineCount_degradedBy failed

theorem LinesKept.sessionEnd {cause : DownCause} {peer : Option DownCause} (h : LinesKept s t) :
    LinesKept s (sessionEnd cause peer t) := by
  refine .ite (fun _ => ?_) fun _ => h
  have failed := (h.leaveUp (cause := cause) (peer := peer)).trans linesKept_failFences
  exact (LinesKept.takeHead (failed.only (by simp [Only.refl]))).settle.acceptOffer

/-! ### The fence unit (R142 to R152) -/

theorem LinesKept.issueFence_port {tag : Byte} (h : LinesKept s t) : LinesKept s (issueFence (.port tag) t) :=
  h.trans ⟨alertFollows_issueFence, linesFollow_issuePort⟩

theorem LinesKept.completeFences (h : LinesKept s t) : LinesKept s (completeFences a t) :=
  h.trans ⟨alertFollows_completeRun, fun law => linesFollow_completeRun law (List.append_nil _).symm⟩

theorem LinesKept.requestLine (h : LinesKept s t) : LinesKept s (requestLine t) := by
  refine h.trans ⟨fun law => ?_, linesFollow_requestLine⟩
  unfold Machine.requestLine
  split
  · split
    · exact alertFollows_issueFence law
    · exact law
  all_goals exact law

theorem LinesKept.releaseLine (h : LinesKept s t) : LinesKept s (releaseLine t) :=
  have frame : Only [.fu] t (Machine.releaseLine t) := by simp [Only.refl]
  h.trans ⟨alertFollows_congr (frame .al (by decide)), linesFollow_releaseLine⟩

theorem LinesKept.failAll (h : LinesKept s t) : LinesKept s (failAll t.fu.fences t) :=
  h.trans ⟨alertFollows_failAll, fun law => linesFollow_failed law rfl (fencesFailed_failAll rfl rfl rfl rfl)⟩

/-! ### Acknowledgements (R81 to R91) -/

theorem LinesKept.segmentDone {g : Segment} (h : LinesKept s t) : LinesKept s (segmentDone g t) := by
  unfold Machine.segmentDone
  dsimp only
  repeat' split
  · exact h.only (by simp [Only.refl])
  · exact (h.only (u := clearSegment g.window g.index _) (by simp [Only.refl])).enterWindow
  · exact h.only (by simp [Only.refl])

theorem LinesKept.handOn {waiter : Bool} (h : LinesKept s t) : LinesKept s (handOn a waiter t) := by
  have before : LinesKept s (compared a waiter t) :=
    (h.completeFences (a := a)).only (compared_after.mono (by simp))
  rw [handOn_eq]
  refine LinesKept.acceptOffer (LinesKept.advanceEngine ?_)
  obtain same | ⟨g, _, done⟩ := compareSegment_cases (a := a) (s := compared a waiter t)
  · rw [same]; exact before
  · rw [done]; exact before.segmentDone

theorem LinesKept.ackArrives {limit q : Seq} {reason : Byte} (h : LinesKept s t) :
    LinesKept s (ackArrives a limit reason q t) := by
  refine .ite (fun _ => ?_) fun _ => h.sessionEnd
  unfold applyAck
  dsimp only
  split
  · exact (h.only (u := ackLimit limit (ackProgress a t)) (by simp [Only.refl])).ackReject.handOn
  · exact (h.only (u := ackLimit limit t) (by simp [Only.refl])).ackReject

theorem LinesKept.startRound {e : Seq} (h : LinesKept s t) : LinesKept s (startRound e t) :=
  .ite (fun _ => h.only (by simp [Only.refl])) fun _ => h.sessionEnd

theorem LinesKept.nakArrives {e : Seq} (h : LinesKept s t) : LinesKept s (nakArrives e t) :=
  .ite (fun _ => h.bump.sessionEnd) fun _ => .ite (fun _ => h.bump) fun _ =>
    .ite (fun _ => h.only (by simp [Only.refl])) fun _ => h.bump.startRound

/-! ### The lanes and the link controller (R52 to R62, R77 to R80, R110) -/

theorem LinesKept.beginOwed (h : LinesKept s t) : LinesKept s (beginOwed t) := by
  unfold Machine.beginOwed
  split
  next => exact h
  next through limit reject _ =>
    have begun : LinesKept s (advertise limit (beginFrame (.ack t.lc.epoch through limit reject) (popOwed t))) :=
      h.only (by simp [Only.refl])
    exact .ite (fun _ => LinesKept.takeHead (begun.only (by simp [Only.refl]))) fun _ => begun
  all_goals exact h.only (by simp [Only.refl])

theorem LinesKept.beginType {f : FrameType} (h : LinesKept s t) : LinesKept s (beginType f t) := by
  cases f with
  | data => exact h.only (u := beginData t) (by simp [Only.refl])
  | goodbye => exact h.only (u := beginGoodbye t) (by simp [Only.refl])
  | ack | nak | hello | helloAck => exact h.beginOwed

theorem LinesKept.enterFault (h : LinesKept s t) : LinesKept s (enterFault t) :=
  (h.only (by simp [Only.refl])).raise

end Sys2Proof.Proofs.Fences
end

section
/-! PROOF. The family 07_fences, part 6: what every row of the table keeps of the output lines (O5). -/

namespace Sys2Proof.Proofs.Fences

open Sys2Proof Sys2Proof.Machine Sys2Proof.Proofs.MirrorWindows

variable {s t u : State} {w : WinId}

/-! ### The maintenance commands (R6 to R21, R56, R147, R148, R185 to R192, R207) -/

theorem linesKept_onWindow {b : Byte} {run : WinId → State → Execution} (h : ∀ w, LinesKept s (run w s).2.2) :
    LinesKept s (onWindow b run s).2.2 := by
  unfold onWindow
  split
  · exact .refl s
  · exact h _

theorem linesKept_winEnable {mode} : LinesKept s (winEnableAt mode w s).2.2 := by
  have enabled (full : Bool) : LinesKept s (enableState w (enableMarks full w s)) := by
    have marked : LinesKept s (enableMarks full w s) := linesKept_of_only (by simp [Only.refl])
    exact .ite (fun _ => .ite (fun _ => marked.enterWindow) fun _ => marked.enterWindow) fun _ => marked.enterWindow
  unfold winEnableAt
  dsimp only
  repeat' split
  · exact .refl s
  · exact .refl s
  · exact .refl s
  · exact (enabled _).settle
  · exact .refl s

theorem linesKept_winResync : LinesKept s (winResyncAt w s).2.2 := by
  unfold winResyncAt
  repeat' split
  · exact .refl s
  · exact .refl s
  · exact .refl s
  · exact .refl s
  · exact (LinesKept.refl s).toResync.settle
  · exact .refl s

theorem linesKept_winHalt : LinesKept s (winHaltAt w s).2.2 := by
  unfold winHaltAt
  split
  · exact .refl s
  · exact .refl s
  all_goals exact (LinesKept.refl s).enterWindow.settle

theorem linesKept_winResume : LinesKept s (winResumeAt w s).2.2 := by
  unfold winResumeAt
  split
  · exact (LinesKept.ite (fun _ => (LinesKept.refl s).enterWindow.toResync) fun _ => (LinesKept.refl s).enterWindow).settle
  all_goals exact .refl s

theorem linesKept_winMark {first count} : LinesKept s (winMarkAt first count w s).2.2 := by
  have marked (n m : Nat) : LinesKept s (markRun w n m s) :=
    (LinesKept.refl s).foldl (fun _ _ => linesKept_of_only (by simp [Only.refl])) _
  unfold winMarkAt
  dsimp only
  split
  · split
    · exact .refl s
    · exact (LinesKept.ite (fun _ => (marked _ _).toResync) fun _ => marked _ _).settle
  · exact .refl s

theorem linesKept_linkDisable : LinesKept s (linkDisableRun s).2.2 := by
  have disabled : LinesKept s (s.setLc { s.lc with enabled := false }) := linesKept_of_only (by simp [Only.refl])
  unfold linkDisableRun
  dsimp only
  split
  · exact disabled.sessionEnd
  · exact disabled
  all_goals exact disabled.only (by simp [accept, Only.refl])

theorem linesKept_fence {tag} : LinesKept s (fenceRun tag s).2.2 := by
  unfold fenceRun
  split
  · exact .refl s
  · exact (LinesKept.refl s).issueFence_port

/-- Clearing the log moves no line (R148). -/
theorem linesKept_fenceLog {clear} : LinesKept s (fenceLogRun clear s).2.2 := by
  unfold fenceLogRun
  split
  · exact .refl s
  · exact .ite (fun _ => ⟨id, linesFollow_congr rfl rfl⟩) fun _ => .refl s

/-- Wherever the summaries or the enables are written, ALERT_N is examined again (R184). -/
theorem linesKept_examine {x : AlertUnit} {summary enables : BitVec 4} :
    LinesKept s (s.setAl (x.examine summary enables)) := ⟨fun _ => alertFollows_examine s x summary enables, id⟩

theorem linesKept_alertEnable {ew el ef ei} : LinesKept s (alertEnableRun ew el ef ei s).2.2 := by
  unfold alertEnableRun
  split
  · exact linesKept_examine
  · exact .refl s

/-- The detail flags alone do not drive ALERT_N (R184, R188). -/
theorem linesKept_causeClear {category list} : LinesKept s (causeClearRun category list s).2.2 := by
  unfold causeClearRun
  split
  · exact .refl s
  · split
    · exact ⟨id, id⟩
    · exact .refl s

theorem LinesKept.resetBlocks (h : LinesKept s t) : LinesKept s (resetBlocks t) :=
  LinesKept.failAll (h.only (by simp [Only.refl]))

theorem linesKept_runRequest (r : Request) : LinesKept s (runRequest r s).2.2 := by
  cases r with
  | winEnable => exact linesKept_onWindow fun _ => linesKept_winEnable
  | winResync => exact linesKept_onWindow fun _ => linesKept_winResync
  | winHalt => exact linesKept_onWindow fun _ => linesKept_winHalt
  | winResume => exact linesKept_onWindow fun _ => linesKept_winResume
  | winMark => exact linesKept_onWindow fun _ => linesKept_winMark
  | linkDisable => exact linesKept_linkDisable
  | fence => exact linesKept_fence
  | fenceLog => exact linesKept_fenceLog
  | alertRead => exact linesKept_examine
  | alertEnable => exact linesKept_alertEnable
  | causeClear => exact linesKept_causeClear
  | resetMirror => exact (LinesKept.refl s).resetBlocks.sessionEnd.acceptOffer
  | winConfig | winDisable | winStatus | inConfig | inEnable | inDisable | inStatus | linkEnable | linkStatus | causeRead
  | countersRead | getParam | setParam =>
    -- These commands drive no output line.
    refine linesKept_of_only ?_
    simp only [runRequest, onWindow, winConfigAt, winDisableAt, winStatusAt, inConfigAt, inEnableAt, inDisableAt,
      inStatusAt, linkEnableRun, linkStatusRun, causeReadRun, countersReadRun, getParamRun, setParamRun, refuse, accept]
    repeat' split
    all_goals simp [Only.refl]

theorem linesKept_completeRequest {r : Request} {crc : Byte} : LinesKept s (completeRequest r crc s) :=
  .ite (fun _ => (linesKept_runRequest r).only (by simp [respond, shiftOut, Only.refl])) fun _ =>
    linesKept_of_only (by simp [respond, shiftOut, Only.refl])

theorem linesKept_portByte {b : Byte} : LinesKept s (portByte b s) := by
  unfold portByte
  refine .ite (fun _ => .refl s) fun _ => ?_
  cases s.port with
  | receiving command args =>
    simp only [receiveByte]
    split
    · exact linesKept_of_only (by simp [shiftOut, Only.refl])
    · split
      · exact linesKept_completeRequest
      · exact linesKept_of_only (by simp [shiftOut, Only.refl])
  | idle | ignoring | refusing | responding | trailing =>
    exact linesKept_of_only (by simp [shiftOut, respondByte, Only.refl])

/-! ### The rows of the link and of the receive checker (R54 to R64, R99 to R105) -/

theorem linesKept_lanesLost : LinesKept s (lanesLost s) := by
  unfold lanesLost
  cases s.lc.state with
  | up => exact (LinesKept.refl s).sessionEnd
  | off | training | hello | down | fault => exact linesKept_of_only (by simp [Only.refl])

theorem linesKept_helloArrives {proposal nodeId : Byte} {limit : Seq} :
    LinesKept s (helloArrives proposal nodeId limit s) := by
  unfold helloArrives
  cases s.lc.state with
  | hello => exact .ite (fun _ => (LinesKept.refl s).enterFault) fun _ => linesKept_of_only (by simp [Only.refl])
  | off | training | up | down | fault => exact linesKept_of_only (by simp [Only.refl])

theorem linesKept_reachUp {agreed : Epoch} {limit : Seq} : LinesKept s (reachUp agreed limit s) := by
  have up : LinesKept s (linkUp agreed s) :=
    LinesKept.raise (linesKept_of_only (by simp [Only.refl]))
  have started : LinesKept s (startSession limit (linkUp agreed s)) := up.only (by simp [Only.refl])
  exact (started.foldl (fun u _ => .ite (fun _ => (LinesKept.refl u).toResync) fun _ => .refl u) _).settle

theorem linesKept_helloAck {agreed nodeId : Byte} : LinesKept s (helloAckInHello agreed nodeId s) := by
  unfold helloAckInHello
  refine .ite (fun _ => (LinesKept.refl s).enterFault) fun _ => ?_
  split
  · exact .refl s
  · exact .ite (fun _ => linesKept_reachUp) fun _ => linesKept_of_only (by simp [Only.refl])

theorem linesKept_inSession {epoch : Byte} {handle : State → State} (h : ∀ u, LinesKept u (handle u)) :
    LinesKept s (inSession epoch handle s) := by
  have restarted : LinesKept s (restartLiveness s) := linesKept_of_only (by simp [Only.refl])
  exact .ite (fun _ => .ite (fun _ => restarted.trans (h _)) fun _ => (LinesKept.refl s).bump) fun _ => .refl s

theorem linesKept_badCrc : LinesKept s (badCrcArrives s) := by
  have counted : LinesKept s (countBadCrc s) := (LinesKept.refl s).bump.raise
  unfold badCrcArrives
  split
  · exact counted.only (by simp [Only.refl])
  · exact counted
  all_goals exact .refl s

theorem linesKept_dataArrives {seq : Seq} {kind window : BitVec 4} {line : BitVec 24} {mask : Mask} {data : LineData} :
    LinesKept s (dataArrives seq kind window line mask data s) := by
  have same := LinesKept.refl s
  unfold dataArrives
  split
  · exact same.sessionEnd
  · unfold judgeData
    exact .ite (fun _ => .ite (fun _ => same.bump.raise) fun _ => LinesKept.takeHead (same.only (by simp [Only.refl])))
      fun _ => .ite (fun _ => same.only (by simp [Only.refl])) fun _ => same.only (by simp [Only.refl])

theorem linesKept_copyReadDone {r : Result} {bytes : LineData} : LinesKept s (copyReadDone r bytes s) := by
  have ended : LinesKept s (endRead s) := linesKept_of_only (by simp [Only.refl])
  unfold copyReadDone
  split
  · exact ended
  · refine .ite (fun _ => ended) fun _ => ?_
    cases r with
    | ok => exact linesKept_of_only (by simp [Only.refl])
    | err => exact ended.raise.bump.enterWindow

/-! ### Pin reset (R141, R167, R189) -/

/-- Pin reset drives every output line low, with nothing to report (R141, R189). -/
theorem linesKept_pinReset {pending drawn pins nodeId offer} :
    LinesKept s (State.pinReset pending drawn pins nodeId offer) := by
  refine ⟨fun _ => ?_, fun _ => ?_⟩
  · exact alertLine_iff 0 0
  · exact linesFollow_iff.2 ⟨by simp [State.pinReset], by simp [State.pinReset], rfl⟩

theorem linesKept_releaseReset {nodeId : BitVec 4} : LinesKept s (releaseReset nodeId s) := by
  unfold releaseReset
  generalize made : State.pinReset s.pending s.drawn _ nodeId s.mp.offer = x
  have reset : LinesKept s x := by rw [← made]; exact linesKept_pinReset
  exact .ite (fun _ => reset) fun _ => reset.only (by simp [Only.refl])

/-! ### Every row of the table -/

theorem linesKept_next (e : (.next u : Step) = .next t) (h : LinesKept s u) : LinesKept s t := by
  cases e
  exact h

theorem exec_linesKept {c : Instr} (e : exec c s = .next t) : LinesKept s t := by
  have same := LinesKept.refl s
  cases c with
  | winConfig | winEnable | winDisable | winResync | winHalt | winResume | winMark | winStatus | inConfig | inEnable
  | inDisable | inStatus | linkEnable | linkDisable | linkStatus | fence | fenceLog | alertRead | alertEnable
  | causeRead | causeClear | countersRead | getParam | setParam | resetMirror =>
    exact linesKept_next e (.ite (fun _ => linesKept_completeRequest) fun _ => same)
  | unknownCommand code =>
    refine linesKept_next (u := refuseCommand code s) e ?_
    unfold refuseCommand
    split
    · exact .ite (fun _ => same) fun _ => same.only (by simp [shiftOut, Only.refl])
    · exact same
  | mcsNFall =>
    refine linesKept_next (u := chipSelect s) e (.ite (fun _ => same.only (by simp [Only.refl])) fun _ => ?_)
    split
    all_goals exact same.only (by simp [shiftOut, Only.refl])
  | mcsNRise =>
    exact linesKept_next (u := chipRelease s) e
      (.ite (fun _ => same.only (by simp [Only.refl])) fun _ => same.only (by simp [Only.refl]))
  | resetNAssert => exact linesKept_next e (.ite (fun _ => same) fun _ => linesKept_pinReset)
  | resetNRelease => exact linesKept_next e (.ite (fun _ => linesKept_releaseReset.acceptOffer) fun _ => same)
  | fenceReqRise =>
    have raised : LinesKept s (s.setPins { s.pins with fenceReq := true }) := same.only (by simp [Only.refl])
    exact linesKept_next e (.ite (fun _ => same) fun _ => .ite (fun _ => raised) fun _ => raised.requestLine)
  | fenceReqFall =>
    have fallen : LinesKept s (s.setPins { s.pins with fenceReq := false }) := same.only (by simp [Only.refl])
    exact linesKept_next e (.ite (fun _ => .ite (fun _ => fallen) fun _ => fallen.releaseLine) fun _ => same)
  | upstreamOffer x =>
    refine linesKept_next (u := offerUpstream x s) e ?_
    unfold offerUpstream
    split
    · exact same
    · exact LinesKept.acceptOffer (same.only (by simp [Only.refl]))
  | passThroughComplete =>
    exact linesKept_next e (.ite (fun _ => same.completeUpstream.releasePort.acceptOffer) fun _ => same)
  | localWriteComplete =>
    refine linesKept_next e ?_
    split
    · exact same
    · exact .ite (fun _ => same.localWriteDone.settle.releasePort.acceptOffer) fun _ => same
  | stallTimerExpiry =>
    refine linesKept_next e ?_
    split
    · exact same
    · exact .ite (fun _ => same.only (by simp [Only.refl])) fun _ => same
  | confirmTimerExpiry =>
    refine linesKept_next e ?_
    split
    · exact same
    · exact .ite (fun _ => same.confirmExpired.settle.acceptOffer) fun _ => same
  | mergeTimerExpiry | aligned | trainingTimerExpiry | holdoffTimerExpiry | helloIntervalExpiry | keepaliveExpiry
  | ackDelayExpiry => exact linesKept_next e (.ite (fun _ => same.only (by simp [Only.refl])) fun _ => same)
  | lost => exact linesKept_next e linesKept_lanesLost
  | helloReceived => exact linesKept_next e linesKept_helloArrives
  | helloAckReceived => exact linesKept_next e (.ite (fun _ => linesKept_helloAck) fun _ => same)
  | livenessExpiry => exact linesKept_next e (.ite (fun _ => same.sessionEnd) fun _ => same)
  | goodbyeReceived =>
    exact linesKept_next e (.ite (fun _ => .ite (fun _ => same.sessionEnd) fun _ => same.bump) fun _ => same)
  | undefinedFrame => exact linesKept_next e (.ite (fun _ => same) fun _ => same.sessionEnd)
  | badCrcFrame => exact linesKept_next e linesKept_badCrc
  | dataReceived => exact linesKept_next e (linesKept_inSession fun _ => linesKept_dataArrives)
  | ackReceived => exact linesKept_next e (linesKept_inSession fun u => (LinesKept.refl u).ackArrives)
  | nakReceived => exact linesKept_next e (linesKept_inSession fun u => (LinesKept.refl u).nakArrives)
  | ackTimerExpiry => exact linesKept_next e (.ite (fun _ => same.startRound) fun _ => same)
  | transmitData | transmitAck | transmitNak | transmitHello | transmitHelloAck | transmitGoodbye =>
    exact linesKept_next e (.ite (fun _ => same.beginType) fun _ => same)
  | frameEnd =>
    have ended : LinesKept s (s.setLanes { s.lanes with frame := none }) := same.only (by simp [Only.refl])
    refine linesKept_next e (.ite (fun _ => ?_) fun _ => same)
    unfold takeNext
    split
    · exact ended
    · exact ended.beginType
  | applyWriteComplete => exact linesKept_next e (.ite (fun _ => same.applyWriteDone.releasePort) fun _ => same)
  | copyReadComplete =>
    exact linesKept_next e (.ite (fun _ => linesKept_copyReadDone.settle.releasePort) fun _ => same)
  | maintenanceByteComplete => exact linesKept_next e linesKept_portByte

theorem step_linesKept (e : step s = .next t) : LinesKept s t := by
  unfold step at e
  split at e
  · exact linesKept_next e (.refl s)
  · exact (linesKept_of_only (by simp [Only.refl])).trans (exec_linesKept e)

/-- Settles O5: no row of the table moves an output line away from its law. -/
theorem stepKeepsOutputLines : Obligations.StepKeepsOutputLines :=
  ⟨fun _ _ law e => (step_linesKept e).alert law, fun _ _ law e => (step_linesKept e).fence law⟩

end Sys2Proof.Proofs.Fences
end

section
/-! PROOF. The family 08_the_memory_path, part 1: the upstream port. How a transaction is classified (R156, R157), the four
outcomes of its acceptance (R154, R156, R157, R163), an offer that is refused, passed through or has to stand (O32), and the
completion of a pass-through (O34). -/

namespace Sys2Proof.Proofs.MemoryPath

open Sys2Proof Sys2Proof.Machine Sys2Proof.Proofs.MirrorWindows Sys2Proof.Proofs.WriteCapture

variable {s : State} {x y : Txn} {u : UpTxn} {mask : Mask} {data : LineData} {line : Nat} {r : Result}
  {bytes : Option LineData} {given : LineData}

/-! ### The class of a transaction (R156 to R158) -/

theorem wellFormedTxn_iff :
    wellFormedTxn x = true ↔ 1 ≤ x.length ∧ x.length ≤ 64 ∧ x.addr.toNat % 64 + x.length ≤ 64 := by
  simp [wellFormedTxn, and_assoc]

theorem lineInExtent_iff {base size : Nat} :
    lineInExtent line base size = true ↔ base ≤ line ∧ line + 64 ≤ base + size := by
  simp [lineInExtent]

/-- The line lies in an enabled inbound window with guard yes (R157, R158). -/
def GuardedLine (s : State) (line : Nat) : Prop :=
  ∃ i : WinId, s.inb[i].enabled = true ∧ s.inb[i].guard = true ∧ s.inb[i].base.toNat ≤ line
    ∧ line + 64 ≤ s.inb[i].base.toNat + s.inb[i].length.toNat

/-- The line lies in an enabled outbound window (R157, R158). -/
def MirroredLine (s : State) (line : Nat) : Prop :=
  ∃ w : WinId, s.out[w].state ≠ .off ∧ s.out[w].base.toNat ≤ line
    ∧ line + 64 ≤ s.out[w].base.toNat + s.out[w].length * s.segBytes

theorem guarded_of_guardedLine (h : GuardedLine s line) : s.guarded line = true := by
  obtain ⟨i, enabled, guard, inside⟩ := h
  refine List.any_eq_true.2 ⟨s.inb[i], Vector.mem_toList_iff.2 (Vector.getElem_mem i.isLt), ?_⟩
  rw [enabled, guard, lineInExtent_iff.2 inside]
  rfl

theorem unguarded_of_not_guardedLine (h : ¬GuardedLine s line) : s.guarded line = false :=
  not_guarded fun i ⟨enabled, guard, inside⟩ => h ⟨i, enabled, guard, lineInExtent_iff.1 inside⟩

theorem windowAt_of_not_mirroredLine (h : ¬MirroredLine s line) : s.windowAt line = none := by
  cases located : s.windowAt line with
  | none => rfl
  | some w =>
    obtain ⟨enabled, inside⟩ := windowAt_spec located
    exact absurd ⟨w, enabled, lineInExtent_iff.1 inside⟩ h

theorem classify_read (read : x.access = .read) : classify s x = .passThrough := by
  simp only [classify, read]

theorem classify_refused (write : x.access = .write mask data) (guarded : GuardedLine s (lineAddr x)) :
    classify s x = .refused := by
  simp only [classify, write, guarded_of_guardedLine guarded, if_true]

theorem classify_unmirrored (write : x.access = .write mask data) (unguarded : ¬GuardedLine s (lineAddr x))
    (outside : ¬MirroredLine s (lineAddr x) ∨ effectiveMask x mask = 0) : classify s x = .passThrough := by
  simp only [classify, write, unguarded_of_not_guardedLine unguarded, Bool.false_eq_true, if_false]
  rcases outside with outside | empty
  · rw [windowAt_of_not_mirroredLine outside]
  · cases s.windowAt (lineAddr x) with
    | none => rfl
    | some w => exact if_pos empty

/-! ### Acceptance (R154, R156, R157, R163) -/

/-- With no capture context a completion changes the memory path only (R155, R156). -/
theorem completeUpstream_idle (idle : s.cu = none) : completeUpstream r bytes s
    = s.setMp { s.mp with txn := none, completions := s.mp.completions ++ [⟨r, bytes⟩] } := by
  rw [completeUpstream, ← idle]
  rfl

theorem acceptOffer_accepts (offer : s.mp.offer = some x) (free : s.mp.txn = none)
    (running : s.pins.resetAsserted = false) : acceptOffer s = acceptTxn x s := by
  simp [acceptOffer, offer, free, running]

theorem acceptTxn_malformed_write (malformed : wellFormedTxn x = false) (write : x.access = .write mask data) :
    acceptTxn x s = completeUpstream .err none (s.setMp { s.mp with offer := none }) := by
  simp only [acceptTxn, malformed, completeMalformed, write, Bool.false_eq_true, if_false]

theorem acceptTxn_malformed_read (malformed : wellFormedTxn x = false) (read : x.access = .read) :
    acceptTxn x s = (completeUpstream .err (some (Config.malformedBytes s.drawn))
      (s.setMp { s.mp with offer := none })).setDrawn (s.drawn + 1) := by
  simp only [acceptTxn, malformed, completeMalformed, read, Bool.false_eq_true, if_false]
  rfl

theorem acceptTxn_refused (formed : wellFormedTxn x = true) (refused : classify s x = .refused) :
    acceptTxn x s = bump .guardRefusals
      (raise .guardRefusal (completeUpstream .err none (s.setMp { s.mp with offer := none }))) := by
  simp only [acceptTxn, formed, refused, if_true]

theorem acceptTxn_passThrough (formed : wellFormedTxn x = true) (passes : classify s x = .passThrough) :
    acceptTxn x s = presentFg x
      (s.setMp { txn := some ⟨x, .passThrough, false⟩, offer := none, completions := s.mp.completions }) := by
  simp only [acceptTxn, formed, passes, if_true]
  rfl

/-! ### Offers (R154, R167) -/

/-- The state with an offer just made, which empties the record of completions (log 13). -/
def offerMade (x : Txn) (s : State) : State := s.setMp { s.mp with offer := some x, completions := [] }

theorem exec_upstreamOffer (offer : s.mp.offer = none) :
    exec (.upstreamOffer x) s = .next (acceptOffer (offerMade x s)) := by
  simp only [exec, execUpstreamOffer, offerUpstream, offer]
  rfl

theorem exec_upstreamOffer_accepted (free : s.mp.txn = none) (offer : s.mp.offer = none)
    (running : s.pins.resetAsserted = false) :
    exec (.upstreamOffer x) s = .next (acceptTxn x (offerMade x s)) := by
  rw [exec_upstreamOffer offer, acceptOffer_accepts rfl (by exact free) (by exact running)]

/-- Beside an offer that stands no other is made (log 1). -/
theorem exec_upstreamOffer_beside (offer : s.mp.offer = some y) : exec (.upstreamOffer x) s = .next s := by
  simp only [exec, execUpstreamOffer, offerUpstream, offer]

/-- An offer that the port cannot accept stands (R154, R167). -/
theorem exec_upstreamOffer_stands (offer : s.mp.offer = none)
    (held : s.mp.txn.isSome = true ∨ s.pins.resetAsserted = true) :
    exec (.upstreamOffer x) s = .next (offerMade x s) := by
  have kept : (s.pins.resetAsserted || s.mp.txn.isSome) = true := by rcases held with held | held <;> simp [held]
  rw [exec_upstreamOffer offer]
  exact congrArg Host.Outcome.next (if_pos kept)

/-- Settles O32, by the class of the offer: each way to be refused or passed through is one outcome of its acceptance. -/
theorem upstreamOfferUncaptured : Obligations.UpstreamOfferUncaptured := by
  refine ⟨fun x s free offer idle running => ?_, fun x s => ⟨fun stands => ?_, fun offer held =>
    exec_upstreamOffer_stands offer held⟩⟩
  · intro wellFormed line guarded mirrored failed
    have malformed (h : ¬wellFormed) : wellFormedTxn x = false := Bool.eq_false_iff.2 (mt wellFormedTxn_iff.1 h)
    have completes (bytes : Option LineData) : completeUpstream .err bytes
        ((offerMade x s).setMp { (offerMade x s).mp with offer := none })
        = s.setMp { txn := none, offer := none, completions := [⟨.err, bytes⟩] } := completeUpstream_idle idle
    rw [exec_upstreamOffer_accepted free offer running]
    refine ⟨fun mask data bad write => ?_, fun bad read => ⟨Config.malformedBytes s.drawn, ?_⟩,
      fun mask data formed write inside => ?_, fun formed uncaptured => ?_⟩
    · rw [acceptTxn_malformed_write (malformed bad) write, completes]
      rfl
    · rw [acceptTxn_malformed_read (malformed bad) read, completes]
      rfl
    · have refused : classify (offerMade x s) x = .refused := classify_refused write inside
      rw [acceptTxn_refused (wellFormedTxn_iff.2 formed) refused, completes]
      rfl
    · have passes : classify (offerMade x s) x = .passThrough := by
        obtain read | ⟨mask, data, write, unguarded, outside⟩ := uncaptured
        · exact classify_read read
        · exact classify_unmirrored write unguarded outside
      rw [acceptTxn_passThrough (wellFormedTxn_iff.2 formed) passes]
      refine ⟨_, rfl, by simp [offerMade, Only.refl], by simp [offerMade], fun busy => ?_, fun alone ap cp => ?_⟩
      · rw [presentFg_busy (by exact busy)]
        exact ⟨rfl, rfl⟩
      · rw [presentFg_alone (by exact alone) (by exact ap) (by exact cp)]
        exact ⟨rfl, rfl⟩
  · obtain ⟨y, offer⟩ := Option.isSome_iff_exists.1 stands
    exact exec_upstreamOffer_beside offer

/-! ### The completion of a pass-through (R163, R173) -/

/-- The state in which a completed pass-through leaves the port free, before it is granted again and an offer is taken. -/
def passThroughEnded (completions : List Completion) (s : State) : State :=
  (s.setMp { s.mp with txn := none, completions := completions }).setDa { s.da with port := none }

theorem passThroughEnded_only {completions : List Completion} :
    Only [.mp, .da, .re] s (passThroughEnded completions s) := by
  simp [passThroughEnded, Only.refl]

/-- Outside a capture the completion of the foreground's access goes upstream, and then the freed port is granted and an
offer that stands is accepted (R154, R163, R173). -/
theorem exec_passThroughComplete (port : s.da.port = some ⟨.fg, x⟩) (idle : s.cu = none) :
    exec (.passThroughComplete r given) s = .next
      (acceptOffer (grant (passThroughEnded (s.mp.completions ++ [⟨r, readBytes s given⟩]) s))) := by
  have fits : s.portClient = some .fg ∧ s.cu = none := ⟨by simp [State.portClient, port], idle⟩
  have done : passThroughDone r given s
      = acceptOffer (grant (passThroughEnded (s.mp.completions ++ [⟨r, readBytes s given⟩]) s)) := by
    rw [passThroughDone, completeUpstream_idle idle, releasePort_eq]
    rfl
  rw [← done]
  exact congrArg Host.Outcome.next (if_pos fits)

/-- Settles O34: the acceptance that follows the grant has nothing to take, or takes a READ that passes through. -/
theorem passThroughCompleteResult : Obligations.PassThroughCompleteResult := by
  intro r bytes x u s port idle held completions freed
  have run : exec (.passThroughComplete r bytes) s = .next (acceptOffer freed) := by
    rw [exec_passThroughComplete port idle, readBytes, held]
    rfl
  have frame : Only [.mp, .da, .re] s freed := (only_grant (by decide) (by decide)).2 passThroughEnded_only
  have mp : freed.mp = { txn := none, offer := s.mp.offer, completions := completions } := grant_only .mp (by decide)
  refine ⟨_, run, offerTaken_acceptOffer, fun unoffered => ?_, fun y offer running formed read => ?_⟩
  · rw [acceptOffer_none (by rw [mp]; exact unoffered), mp, unoffered]
    refine ⟨frame, rfl, rfl, rfl, fun fg ap cp => ?_⟩
    have same : freed = _ := grant_idle fg ap cp
    rw [same]
    exact ⟨rfl, rfl⟩
  · have pins : freed.pins = s.pins := frame .pins (by decide)
    rw [acceptOffer_accepts (by rw [mp]; exact offer) (by rw [mp]) (by rw [pins]; exact running),
      acceptTxn_passThrough formed (classify_read read), mp]
    refine ⟨by simpa using frame, by simp, fun busy => ?_, fun _ => (presentFg_asked fun _ => rfl).2.symm⟩
    rw [presentFg_busy (by exact busy)]
    exact ⟨rfl, rfl⟩

end Sys2Proof.Proofs.MemoryPath
end

section
/-! PROOF. The family 08_the_memory_path, part 2: the maintenance port outside the completion of a request. A code tells how
many argument bytes come before the CRC byte (R196), and so which byte completes a request; then a byte in each state of
the port (R194 to R198), and the edges of MCS_N (R194, R199, R167) (O16). -/

namespace Sys2Proof.Proofs.MemoryPath

open Sys2Proof Sys2Proof.Machine

variable {s : State} {b code : Byte} {args response : List Byte} {r : Request} {n k bits : Nat}

/-! ### The argument count (R196, R212) -/

/-- The bytes that spell a request are as many as its code tells. -/
theorem argCount_of_parse (spelt : Request.parse code args = some r) : argCount code = some args.length := by
  fun_cases Request.parse code args
  case case6 | case20 | case22 | case24 | case26 | case29 | case31 | case33 | case34 =>
    simp only [Request.parse, *, if_false, reduceCtorEq] at spelt
  all_goals
    subst code
    rfl

/-- With fewer bytes than its code tells no request is spelt yet. -/
theorem parse_short (count : argCount code = some n) (short : args.length < n) : Request.parse code args = none := by
  cases spelt : Request.parse code args with
  | none => rfl
  | some r =>
    have same := count.symm.trans (argCount_of_parse spelt)
    exact absurd (Option.some.inj same) (Nat.ne_of_gt short)

/-! ### A byte on the port (R194 to R198) -/

/-- The command byte of a defined command opens its arguments, and that of any other is refused (R196). -/
theorem receiveByte_command :
    receiveByte b none args s
      = shiftOut 0xFF (s.setPort (if (argCount b).isSome then .receiving (some b) [] 0 else .refusing)) := by
  simp only [receiveByte]
  split <;> rfl

/-- A byte that completes no request is the next argument byte (R196). -/
theorem receiveByte_argument (unspelt : Request.parse code args = none) :
    receiveByte b (some code) args s = shiftOut 0xFF (s.setPort (.receiving (some code) (args ++ [b]) 0)) := by
  simp only [receiveByte, unspelt]

/-- A response byte is shifted out, and the last one ends the response (R198). -/
theorem respondByte_eq (inside : k < response.length) :
    respondByte response k s = shiftOut response[k]
      (s.setPort (if k + 1 = response.length then .trailing else .responding response (k + 1))) := by
  have last : response.length ≤ k + 1 ↔ k + 1 = response.length := by omega
  rw [respondByte, List.getD_eq_getElem _ _ inside]
  simp only [last]

/-- The byte that completes in RECEIVING (R196). -/
theorem exec_byte_receiving {command : Option Byte} (running : s.pins.resetAsserted = false)
    (receives : s.port = .receiving command args bits) :
    exec (.maintenanceByteComplete b) s = .next (receiveByte b command args s) := by
  simp [exec, execMaintenanceByteComplete, portByte, running, receives]

/-- The status UNKNOWN is what a refused command reads as (R196). -/
theorem exec_byte_refusing (running : s.pins.resetAsserted = false) (refuses : s.port = .refusing) :
    exec (.maintenanceByteComplete b) s = .next (shiftOut Status.unknown.code s) := by
  simp [exec, execMaintenanceByteComplete, portByte, running, refuses]

theorem exec_byte_responding (running : s.pins.resetAsserted = false) (responds : s.port = .responding response k) :
    exec (.maintenanceByteComplete b) s = .next (respondByte response k s) := by
  simp [exec, execMaintenanceByteComplete, portByte, running, responds]

/-- A byte that no transaction takes reads as all ones (R194, R198). -/
theorem exec_byte_passive (running : s.pins.resetAsserted = false) (passive : s.port = .ignoring ∨ s.port = .trailing) :
    exec (.maintenanceByteComplete b) s = .next (shiftOut 0xFF s) := by
  rcases passive with ignores | trails
  · simp [exec, execMaintenanceByteComplete, portByte, running, ignores]
  · simp [exec, execMaintenanceByteComplete, portByte, running, trails]

theorem exec_byte_idle (idle : s.port = .idle) : exec (.maintenanceByteComplete b) s = .next s := by
  simp [exec, execMaintenanceByteComplete, portByte, idle]

/-- UNKNOWN_COMMAND where the port waits for the command byte (R196). -/
theorem exec_unknownCommand (running : s.pins.resetAsserted = false) (waits : s.port = .receiving none args bits)
    (undefined : argCount code = none) :
    exec (.unknownCommand code) s = .next (shiftOut 0xFF (s.setPort .refusing)) := by
  simp [exec, execUnknownCommand, refuseCommand, waits, undefined, running]

/-! ### The edges of MCS_N (R194, R199, R167) -/

theorem exec_mcsNFall_idle (running : s.pins.resetAsserted = false) (idle : s.port = .idle) :
    exec .mcsNFall s
      = .next (shiftOut 0xFF ((s.setPins { s.pins with mcsHigh := false }).setPort (.receiving none [] 0))) := by
  simp [exec, execMcsNFall, chipSelect, running, idle]

theorem exec_mcsNFall_reset (asserted : s.pins.resetAsserted = true) :
    exec .mcsNFall s = .next (s.setPins { s.pins with mcsHigh := false }) := by
  simp [exec, execMcsNFall, chipSelect, asserted]

theorem exec_mcsNRise : exec .mcsNRise s = .next
    (if s.pins.resetAsserted then s.setPins { s.pins with mcsHigh := true, msdo := none }
    else (s.setPins { s.pins with mcsHigh := true, msdo := none }).setPort .idle) := rfl

/-- Settles O16, state by state of the port. -/
theorem portBytes : Obligations.PortBytes := by
  refine ⟨fun b s running => ⟨fun args bits receives => ⟨fun defined => ?_, fun undefined => ⟨?_, ?_⟩⟩,
      fun code args bits n receives count short => ?_, fun refuses => ?_, fun passive => ?_, fun idle => ?_⟩,
    fun b s response k inside running responds => ?_,
    fun s => ⟨fun running idle => ?_, fun running => ?_, fun asserted => ⟨?_, ?_⟩⟩⟩
  · rw [exec_byte_receiving running receives, receiveByte_command, if_pos defined]
    rfl
  · rw [exec_byte_receiving running receives, receiveByte_command, undefined]
    rfl
  · exact exec_unknownCommand running receives undefined
  · rw [exec_byte_receiving running receives, receiveByte_argument (parse_short count short)]
    rfl
  · exact exec_byte_refusing running refuses
  · exact exec_byte_passive running passive
  · exact exec_byte_idle idle
  · rw [exec_byte_responding running responds, respondByte_eq inside]
    rfl
  · exact exec_mcsNFall_idle running idle
  · rw [exec_mcsNRise, running]
    rfl
  · exact exec_mcsNFall_reset asserted
  · rw [exec_mcsNRise, asserted]
    rfl

end Sys2Proof.Proofs.MemoryPath
end

section
/-! PROOF. The family 08_the_memory_path, part 3: RESET_N. Every block is at its pin-reset value behind either edge (R167,
R168), so no window is configured and an offer that stands at the release passes through (O30). -/

namespace Sys2Proof.Proofs.MemoryPath

open Sys2Proof Sys2Proof.Machine Sys2Proof.Proofs.MirrorWindows Sys2Proof.Proofs.WriteCapture

variable {s : State} {x : Txn} {nodeId : BitVec 4}

/-- With no window enabled every transaction passes through (R157). -/
theorem classify_disabled (off : ∀ w : WinId, s.out[w].state = .off) (disabled : ∀ i : WinId, s.inb[i].enabled = false) :
    classify s x = .passThrough := by
  cases access : x.access with
  | read => exact classify_read access
  | write mask data =>
    refine classify_unmirrored access (fun ⟨i, enabled, _⟩ => ?_) (.inl fun ⟨w, enabled, _⟩ => enabled (off w))
    rw [disabled i] at enabled
    cases enabled

/-- The pin-reset state that a release makes, before the maintenance port looks at MCS_N. -/
def released (nodeId : BitVec 4) (s : State) : State :=
  State.pinReset s.pending s.drawn { s.pins with resetAsserted := false, msdo := none } nodeId s.mp.offer

/-- With MCS_N low the maintenance port waits for it to rise (R168, R194). -/
theorem releaseReset_eq : releaseReset nodeId s
    = if s.pins.mcsHigh then released nodeId s
      else ((released nodeId s).setPort .ignoring).setPins
        { (released nodeId s).pins with msdo := some 0xFF } := rfl

theorem releaseReset_only : Only [.port, .pins] (released nodeId s) (releaseReset nodeId s) := by
  rw [releaseReset_eq]
  simp [Only.refl]

theorem releaseReset_running : (releaseReset nodeId s).pins.resetAsserted = false := by
  rw [releaseReset_eq]
  split <;> rfl

theorem classify_releaseReset : classify (releaseReset nodeId s) x = .passThrough := by
  have out : (releaseReset nodeId s).out = (released nodeId s).out := releaseReset_only .out (by decide)
  have inb : (releaseReset nodeId s).inb = (released nodeId s).inb := releaseReset_only .inb (by decide)
  refine classify_disabled (fun w => ?_) fun i => ?_
  · simp [out, released, State.pinReset, OutWindow.reset]
  · simp [inb, released, State.pinReset, InWindow.reset]

theorem exec_resetNAssert (running : s.pins.resetAsserted = false) :
    exec .resetNAssert s = .next (assertReset s) := by
  simp [exec, execResetNAssert, running]

theorem exec_resetNRelease (asserted : s.pins.resetAsserted = true) :
    exec (.resetNRelease nodeId) s = .next (acceptOffer (releaseReset nodeId s)) := by
  simp [exec, execResetNRelease, asserted]

/-- A completed malformed transaction leaves its ERR in the memory path, with bytes for a READ only (R155, R156). -/
theorem acceptTxn_malformed (malformed : wellFormedTxn x = false) :
    ∃ bytes, (acceptTxn x s).mp
        = { txn := none, offer := none, completions := s.mp.completions ++ [⟨.err, bytes⟩] }
      ∧ (bytes.isSome = true ↔ x.access = .read) := by
  cases access : x.access with
  | read =>
    rw [acceptTxn_malformed_read malformed access]
    exact ⟨_, rfl, by simp⟩
  | write mask data =>
    rw [acceptTxn_malformed_write malformed access]
    exact ⟨_, rfl, by simp⟩

/-- Settles O30: what a release leaves is the pin-reset state, on which an offer that stands is accepted. -/
theorem pinResetResult : Obligations.PinResetResult := by
  intro s cleared
  refine ⟨exec_resetNAssert, fun asserted => by simp [exec, execResetNAssert, asserted], fun nodeId =>
    ⟨fun running => by simp [exec, execResetNRelease, running], fun asserted unoffered => ?_,
      fun x asserted offer formed => ?_, fun x asserted offer malformed => ?_⟩⟩
  all_goals
    have mp : (releaseReset nodeId s).mp = { txn := none, offer := s.mp.offer, completions := [] } :=
      releaseReset_only .mp (by decide)
    rw [exec_resetNRelease asserted]
  · rw [acceptOffer_none (by rw [mp]; exact unoffered), releaseReset_eq]
    rfl
  · have lc : (releaseReset nodeId s).lc = (cleared false nodeId).lc := releaseReset_only .lc (by decide)
    have da : (releaseReset nodeId s).da = (cleared false nodeId).da := releaseReset_only .da (by decide)
    rw [acceptOffer_accepts (by rw [mp]; exact offer) (by rw [mp]) releaseReset_running,
      acceptTxn_passThrough formed classify_releaseReset, mp]
    refine ⟨_, rfl, by simpa using lc, by simp, ?_⟩
    rw [presentFg_alone (by exact congrArg Arbiter.port da) (by exact congrArg Arbiter.ap da)
      (by exact congrArg Arbiter.cp da)]
    rfl
  · obtain ⟨bytes, ended, carried⟩ := acceptTxn_malformed (s := releaseReset nodeId s) malformed
    rw [acceptOffer_accepts (by rw [mp]; exact offer) (by rw [mp]) releaseReset_running]
    rw [mp] at ended
    exact ⟨_, bytes, rfl, ended, carried⟩

end Sys2Proof.Proofs.MemoryPath
end

section
/-! PROOF. The family 09_downstream_arbitration: the order of the downstream grant and copy_floor (O35). The choice of the
client by the five steps of R172, one equation per step, and the grant to the client chosen (R172, R174). -/

namespace Sys2Proof.Proofs.DownstreamArbitration

open Sys2Proof Sys2Proof.Machine

variable {s : State} {d : Arbiter} {promotion : Bool} {c : Client} {x : Txn}

/-! ### The choice of the client (R172) -/

/-- Step 1: apply traffic under promotion. -/
theorem choose_promoted (promoted : promotion = true) (ap : d.ap = some x) : d.choose promotion = some .ap := by
  simp [Arbiter.choose, promoted, ap]

/-- Without apply traffic under promotion the choice begins at step 2. -/
theorem choose_unpromoted (plain : promotion = false ∨ d.ap = none) : d.choose promotion = d.choose false := by
  obtain clear | ap := plain
  · rw [clear]
  · simp [Arbiter.choose, ap]

/-- Step 2: copy traffic at the floor. -/
theorem choose_floor (full : d.copyFloor = 32) (cp : d.cp = some x) : d.choose false = some .cp := by
  simp [Arbiter.choose, full, cp]

/-- Without copy traffic at the floor the choice begins at step 3. -/
theorem choose_below_floor (below : d.copyFloor ≠ 32 ∨ d.cp = none) :
    d.choose false
      = if d.fg.isSome then some .fg else if d.ap.isSome then some .ap else if d.cp.isSome then some .cp else none := by
  obtain short | cp := below
  · simp [Arbiter.choose, short]
  · simp [Arbiter.choose, cp]

/-! ### The grant to the client chosen (R172, R174) -/

/-- A free port goes to the client chosen. -/
theorem grant_chosen (free : s.da.port = none) (chosen : s.da.choose s.au.promotion = some c)
    (asked : s.da.request c = some x) : grant s = readGranted c (s.setDa (s.da.granted x c)) := by
  simp only [grant, free, chosen, asked]

/-- Settles O35, along the steps of R172: each premise of the statement rules out the steps before its own. -/
theorem grantOrder : Obligations.GrantOrder := by
  intro s free others
  refine ⟨fun x ap promoted => grant_chosen free (choose_promoted promoted ap) ap, fun plain => ?_⟩
  have unpromoted := choose_unpromoted plain
  refine ⟨fun x cp full => grant_chosen free (unpromoted.trans (choose_floor full cp)) cp, fun below => ?_⟩
  have ordered := unpromoted.trans (choose_below_floor below)
  refine ⟨fun x fg => ?foreground, fun x fg ap => ?apply, fun x fg ap cp => ?copy, grant_idle⟩
  case foreground => exact grant_chosen (c := .fg) free (ordered.trans (by simp [fg])) fg
  case apply => exact grant_chosen (c := .ap) free (ordered.trans (by simp [fg, ap])) ap
  case copy => exact grant_chosen (c := .cp) free (ordered.trans (by simp [fg, ap, cp])) cp

end Sys2Proof.Proofs.DownstreamArbitration
end

section
/-! PROOF. The family 10_alerts_and_counters: what raising a cause and incrementing a counter do (O12), and the four alert
commands (O27). For each command there is one equation per outcome; the categories are taken through their codes. -/

namespace Sys2Proof.Proofs.AlertsAndCounters

open Sys2Proof Sys2Proof.Machine
open Sys2Proof.Proofs.MirrorWindows (exec_refused exec_accepted yesNo_le)
open Sys2Proof.Proofs.Fences (yesNo_undefined)

variable {s : State} {c : Byte} {k : Category} {list : BitVec 32}

/-! ### Raising a cause and incrementing a counter (R183, R184, R191) -/

/-- Each category has a summary bit of its own (R212). -/
theorem code_inj {j k : Category} : j.code = k.code ↔ j = k := by
  cases j <;> cases k <;> decide

theorem code_lt (k : Category) : k.code < 4 := by
  cases k <;> decide

/-- Raising a cause sets its category's summary and no other (R183). -/
theorem raise_summary (c : Cause) (k : Category) :
    (raise c s).al.summary.getLsbD k.code = (decide (k = c.category) || s.al.summary.getLsbD k.code) := by
  have joined : (raise c s).al.summary = s.al.summary ||| BitVec.twoPow 4 c.category.code := rfl
  simp [joined, code_lt, code_inj, Bool.or_comm]

/-- An increment below 65535 adds one, and a counter at 65535 stays (R191). -/
theorem saturate_eq (v : BitVec 16) : saturate v = if v = 65535 then 65535 else v + 1 := by
  by_cases full : v = 65535
  · rw [saturate, if_pos full, if_pos full, full]
  · rw [saturate, if_neg full, if_neg full]

/-- Settles O12: the flags and the line of a raised cause, and the counters after an increment. -/
theorem flagsAndCounters : Obligations.FlagsAndCounters :=
  ⟨fun c s => ⟨raise_only, raise_enables c s, fun d => raise_has c d s, raise_summary c, alertFollows_raise c s⟩,
    fun c s => ⟨bump_only, (bump_counter_self c s).trans (saturate_eq _), fun d other => (bump_counter c d s).trans (if_neg other)⟩⟩

/-! ### ALERT_READ (R185) -/

/-- With every summary clear ALERT_N is released, whatever the enables (R184). -/
theorem examine_cleared (a : AlertUnit) : a.examine 0 a.enables = { a with summary := 0, asserted := false } := by
  simp [AlertUnit.examine, alertLine]

theorem alertRead_result (h : s.holds .alertRead) :
    exec (.alertRead (Request.crc .alertRead)) s = .next
      (State.answered { s with al := { s.al with summary := 0, asserted := false } }
        .ok [s.al.summary.setWidth 8, s.al.enables.setWidth 8]) := by
  refine (exec_request h).trans ?_
  rw [runRequest, alertReadRun, examine_cleared, respond_eq]
  rfl

/-! ### ALERT_ENABLE (R186) -/

section AlertEnable

variable {ew el ef ei : Byte}

/-- One value that is not yes or no refuses all four. -/
theorem alertEnable_refused (undefined : 1 < ew.toNat ∨ 1 < el.toNat ∨ 1 < ef.toNat ∨ 1 < ei.toNat) :
    alertEnableRun ew el ef ei s = refuse .badArg s := by
  unfold alertEnableRun
  split
  next window link fence integrity =>
    obtain big | big | big | big := undefined
    · simp [yesNo_undefined big] at window
    · simp [yesNo_undefined big] at link
    · simp [yesNo_undefined big] at fence
    · simp [yesNo_undefined big] at integrity
  next => rfl

theorem alertEnable_accepted (window : ew.toNat ≤ 1) (link : el.toNat ≤ 1) (fence : ef.toNat ≤ 1)
    (integrity : ei.toNat ≤ 1) :
    alertEnableRun ew el ef ei s = accept (s.setAl (s.al.examine s.al.summary
      (enableBits (decide (ew = 1)) (decide (el = 1)) (decide (ef = 1)) (decide (ei = 1))))) := by
  rw [alertEnableRun, yesNo_le window, yesNo_le link, yesNo_le fence, yesNo_le integrity]

end AlertEnable

/-- Bit c of the enables is the value given for category c (R212). -/
theorem enableBits_getLsbD (w l f i : Bool) :
    (enableBits w l f i).getLsbD 0 = w ∧ (enableBits w l f i).getLsbD 1 = l
      ∧ (enableBits w l f i).getLsbD 2 = f ∧ (enableBits w l f i).getLsbD 3 = i := by
  revert w l f i
  decide

/-! ### CAUSE_READ and CAUSE_CLEAR (R187, R188) -/

/-- A category as the statement's rows give it: its code, its number of causes, its flags and the flags with the list's
cleared (R212). -/
def categoryRow (d : Details) (list : BitVec 32) (k : Category) : Byte × Nat × BitVec 32 × Details :=
  (BitVec.ofNat 8 k.code, k.causes, d.flags k, d.clear list k)

/-- The rows of the four categories. -/
def categoryRows (d : Details) (list : BitVec 32) : List (Byte × Nat × BitVec 32 × Details) :=
  [.window, .link, .fence, .integrity].map (categoryRow d list)

theorem categoryOf_code (k : Category) : categoryOf (BitVec.ofNat 8 k.code) = some k := by
  cases k <;> rfl

/-- A code above 3 names no category (R187). -/
theorem categoryOf_undefined (big : 3 < c.toNat) : categoryOf c = none := by
  have other (n : Byte) (small : n.toNat ≤ 3) : c ≠ n := fun same => by
    subst same
    omega
  simp only [categoryOf, if_neg (other 0 (by decide)), if_neg (other 1 (by decide)), if_neg (other 2 (by decide)),
    if_neg (other 3 (by decide))]

/-- A row is that of the category its code names. -/
theorem categoryOf_row {d cleared : Details} {n : Nat} {flags : BitVec 32}
    (row : (c, n, flags, cleared) ∈ categoryRows d list) :
    ∃ k, categoryOf c = some k ∧ k.causes = n ∧ d.flags k = flags ∧ d.clear list k = cleared := by
  obtain ⟨k, _, same⟩ := List.mem_map.1 row
  simp only [categoryRow, Prod.mk.injEq] at same
  obtain ⟨code, rest⟩ := same
  exact ⟨k, code ▸ categoryOf_code k, rest⟩

theorem causeRead_undefined (unnamed : categoryOf c = none) : causeReadRun c s = refuse .badArg s := by
  rw [causeReadRun, unnamed]

theorem causeRead_named (named : categoryOf c = some k) : causeReadRun c s = (.ok, bytes32 (s.al.detail.flags k), s) := by
  rw [causeReadRun, named]

theorem causeClear_undefined (unnamed : categoryOf c = none) : causeClearRun c list s = refuse .badArg s := by
  rw [causeClearRun, unnamed]

/-- A list that names a cause the category does not have is refused (R188). -/
theorem causeClear_beyond (named : categoryOf c = some k) (beyond : 2 ^ k.causes ≤ list.toNat) :
    causeClearRun c list s = refuse .badArg s := by
  simp only [causeClearRun, named, if_neg (Nat.not_lt.2 beyond)]

theorem causeClear_within (named : categoryOf c = some k) (within : list.toNat < 2 ^ k.causes) :
    causeClearRun c list s = accept (s.setAl { s.al with detail := s.al.detail.clear list k }) := by
  simp only [causeClearRun, named, if_pos within]

/-- Settles O27, command by command: the outcomes of each are the equations above, answered by the port. -/
theorem alertCommandsResult : Obligations.AlertCommandsResult := by
  refine ⟨fun s => alertRead_result,
    fun ew el ef ei s h => ⟨fun undefined => ?refused, fun window link fence integrity => ?enabled⟩,
    fun c list s => ⟨fun h => ⟨fun big => ?readUndefined, fun n flags cleared row => ?read⟩,
      fun h => ⟨fun big => ?clearUndefined, fun n flags cleared row => ?clear⟩⟩⟩
  case refused => exact exec_refused h (alertEnable_refused undefined)
  case enabled =>
    refine ⟨_, exec_accepted h (alertEnable_accepted window link fence integrity), rfl, ?_, rfl, rfl,
      alertFollows_examine s _ _ _, enableBits_getLsbD _ _ _ _⟩
    exact (only_answered (by decide) (by decide)).2 ((only_setAl (by decide)).2 (Only.refl _ s))
  case readUndefined => exact exec_refused h (causeRead_undefined (categoryOf_undefined big))
  case read =>
    obtain ⟨k, named, rfl, rfl, rfl⟩ := categoryOf_row row
    refine (exec_request h).trans ?_
    rw [runRequest, causeRead_named named, respond_eq]
  case clearUndefined => exact exec_refused h (causeClear_undefined (categoryOf_undefined big))
  case clear =>
    obtain ⟨k, named, rfl, rfl, rfl⟩ := categoryOf_row row
    exact ⟨fun beyond => exec_refused h (causeClear_beyond named beyond),
      fun within => exec_accepted h (causeClear_within named within)⟩

end Sys2Proof.Proofs.AlertsAndCounters
end

section
/-! PROOF. The family 11_the_maintenance_port: requests and parameter words. A request's bytes spell it and no other (O14),
so the byte that completes them is that request's row (O15). Each parameter word has a code, a writing condition and the
values it accepts, and GET_PARAM and SET_PARAM have one equation per outcome in terms of these (O28). -/

namespace Sys2Proof.Proofs.MaintenancePort

open Sys2Proof Sys2Proof.Machine
open Sys2Proof.Proofs.MirrorWindows (exec_refused exec_accepted)
open Sys2Proof.Proofs.MemoryPath (argCount_of_parse exec_byte_receiving)

variable {s : State} {p : ParamWord} {c code crc : Byte} {v : BitVec 16} {args : List Byte} {r : Request}

/-! ### The bytes of a request (R196, R212) -/

/-- Reading the bytes of a request gives the request: its code selects it, and the bytes of a word are that word's. -/
theorem parse_bytes (r : Request) : Request.parse r.code r.args = some r := by
  cases r
  case winConfig | winMark | inConfig | causeClear | setParam =>
    simp [Request.parse, Request.code, Request.args, bytes16, bytes32, word16_bytes, word32_bytes]
  all_goals rfl

/-- Bytes that are read as a request are that request's bytes. The cases that read nothing come first: a code without that
many arguments, and a number of arguments that no code has. -/
theorem bytes_of_parse (spelt : Request.parse code args = some r) : code = r.code ∧ args = r.args := by
  fun_cases Request.parse code args
  case case6 | case20 | case22 | case24 | case26 | case29 | case31 | case33 | case34 =>
    simp only [Request.parse, *, if_false, reduceCtorEq] at spelt
  all_goals
    subst code
    obtain rfl := Option.some.inj spelt
    simp [Request.code, Request.args, bytes16_word, bytes32_word]

/-- Settles O14. -/
theorem requestsParsedAsSent : Obligations.RequestsParsedAsSent :=
  ⟨fun r => ⟨parse_bytes r, argCount_of_parse (parse_bytes r)⟩, fun _ _ _ => bytes_of_parse⟩

/-! ### The CRC byte of a request (R197) -/

/-- The byte behind the whole of a request is the request's CRC byte. -/
theorem receiveByte_crc : receiveByte crc (some r.code) r.args s = completeRequest r crc s := by
  simp only [receiveByte, parse_bytes]

theorem onRequest_held (held : s.holds r) : onRequest r crc s = completeRequest r crc s :=
  if_pos (holdsRequest_of_holds held)

/-- The completion of a held request's CRC byte is the request's row (log 3). -/
theorem exec_byte_crc (held : s.holds r) : exec (.maintenanceByteComplete crc) s = exec (r.row crc) s := by
  rw [exec_row, onRequest_held held]
  obtain ⟨running, bits, receives⟩ := held
  rw [exec_byte_receiving running receives, receiveByte_crc]

/-- Settles O15. -/
theorem requestCompletes : Obligations.RequestCompletes :=
  ⟨fun _ _ _ held => exec_byte_crc held,
    fun r crc s held wrong => (exec_row r crc s).trans (congrArg _ (onRequest_bad held wrong))⟩

/-! ### The codes of the parameter words (R213) -/

/-- The code of a parameter word. -/
def paramCode : ParamWord → Byte
  | .segmentSize => 1
  | .mergeTime => 2
  | .stallLimit => 3
  | .confirmTimeout => 4
  | .ackTimeout => 5
  | .ackDelay => 6
  | .ackBatch => 7
  | .keepalive => 8
  | .liveness => 9
  | .retryLimit => 10

/-- The parameter words in the order of their codes. -/
def paramWords : List ParamWord :=
  [.segmentSize, .mergeTime, .stallLimit, .confirmTimeout, .ackTimeout, .ackDelay, .ackBatch, .keepalive, .liveness,
    .retryLimit]

theorem paramOf_paramCode (p : ParamWord) : paramOf (paramCode p) = some p := by
  cases p <;> rfl

theorem paramCode_of_paramOf (named : paramOf c = some p) : paramCode p = c := by
  fun_cases paramOf c
  case case11 => simp only [paramOf, *, if_false, reduceCtorEq] at named
  all_goals
    subst c
    obtain rfl := Option.some.inj named
    rfl

theorem paramCode_range (p : ParamWord) : paramCode p ≠ 0 ∧ (paramCode p).toNat ≤ 10 := by
  cases p <;> decide

/-- A code outside 1 to 10 names no parameter word. -/
theorem paramOf_undefined (undefined : c = 0 ∨ 10 < c.toNat) : paramOf c = none := by
  cases named : paramOf c with
  | none => rfl
  | some p =>
    obtain rfl := paramCode_of_paramOf named
    obtain ⟨nonzero, most⟩ := paramCode_range p
    exact absurd undefined (not_or.2 ⟨nonzero, most.not_gt⟩)

/-! ### GET_PARAM (R203) -/

theorem getParam_undefined (unnamed : paramOf c = none) : getParamRun c s = refuse .badArg s := by
  rw [getParamRun, unnamed]

theorem getParam_named (p : ParamWord) : getParamRun (paramCode p) s = (.ok, bytes16 (s.params.get p), s) := by
  rw [getParamRun, paramOf_paramCode]

/-! ### SET_PARAM (R202, R204, R73) -/

/-- The condition under which a word may be written, as the table of R202 gives it. -/
def WritingCondition (s : State) : ParamWord → Prop
  | .segmentSize => ∀ w : WinId, s.out[w].state = .off
  | .mergeTime | .stallLimit | .confirmTimeout => True
  | .ackTimeout | .ackDelay | .ackBatch | .keepalive | .liveness | .retryLimit => s.lc.state = .off

/-- The values a word accepts: those of its range (R202) that agree with the other word of the cross-check (R204). -/
def Accepts (q : Params) (v : BitVec 16) : ParamWord → Prop
  | .segmentSize => v.toNat = 4 ∨ v.toNat = 8 ∨ v.toNat = 16 ∨ v.toNat = 32 ∨ v.toNat = 64
  | .mergeTime => v.toNat ≤ 32
  | .stallLimit => 1 ≤ v.toNat ∧ v.toNat ≤ 1000
  | .confirmTimeout => 10 ≤ v.toNat ∧ v.toNat ≤ 5000
  | .ackTimeout => 10 ≤ v.toNat ∧ v.toNat ≤ 1000
  | .ackDelay => v.toNat ≤ 16
  | .ackBatch => 1 ≤ v.toNat ∧ v.toNat ≤ 16
  | .keepalive => 10 ≤ v.toNat ∧ v.toNat ≤ 500 ∧ 2 * v.toNat ≤ q.liveness.toNat
  | .liveness => 100 ≤ v.toNat ∧ v.toNat ≤ 10000 ∧ 2 * q.keepalive.toNat ≤ v.toNat
  | .retryLimit => 1 ≤ v.toNat ∧ v.toNat ≤ 15

theorem all_not_isEnabled : s.out.toList.all (fun x => !x.isEnabled) = true ↔ ∀ w : WinId, s.out[w].state = .off := by
  simp only [List.all_eq_true, Bool.not_eq_true', Vector.mem_toList_iff, OutWindow.isEnabled, bne_eq_false_iff_eq]
  refine ⟨fun off w => off _ (Vector.getElem_mem w.isLt), fun off x there => ?_⟩
  obtain ⟨w, inside, rfl⟩ := Vector.getElem_of_mem there
  exact off ⟨w, inside⟩

theorem writable_iff : s.writable p = true ↔ WritingCondition s p := by
  cases p with
  | segmentSize => exact all_not_isEnabled
  | mergeTime | stallLimit | confirmTimeout => exact iff_of_true rfl trivial
  | ackTimeout | ackDelay | ackBatch | keepalive | liveness | retryLimit => exact decide_eq_true_iff

/-- The range and the cross-check together (R202, R204). -/
theorem accepts_iff {q : Params} : (p.inRange v && q.crossCheck v p) = true ↔ Accepts q v p := by
  cases p <;> simp [ParamWord.inRange, Params.crossCheck, Accepts, and_assoc]

theorem setParam_undefined (unnamed : paramOf c = none) : setParamRun c v s = refuse .badArg s := by
  rw [setParamRun, unnamed]

/-- The writing condition comes before the value. -/
theorem setParam_unwritable (closed : ¬WritingCondition s p) : setParamRun (paramCode p) v s = refuse .badState s := by
  simp only [setParamRun, paramOf_paramCode, if_neg (mt writable_iff.1 closed)]

theorem setParam_unaccepted (opened : WritingCondition s p) (bad : ¬Accepts s.params v p) :
    setParamRun (paramCode p) v s = refuse .badArg s := by
  simp only [setParamRun, paramOf_paramCode, if_pos (writable_iff.2 opened), if_neg (mt accepts_iff.1 bad)]

theorem setParam_accepted (opened : WritingCondition s p) (good : Accepts s.params v p) :
    setParamRun (paramCode p) v s = accept (s.setParams (s.params.put v p)) := by
  simp only [setParamRun, paramOf_paramCode, if_pos (writable_iff.2 opened), if_pos (accepts_iff.2 good)]

/-- A word as the rows of the statement give it: its code, its writing condition, the values it accepts and the words with
the value written. -/
def paramRow (s : State) (v : BitVec 16) (p : ParamWord) : Byte × Prop × Prop × Params :=
  (paramCode p, WritingCondition s p, Accepts s.params v p, s.params.put v p)

/-- Settles O28: a code in a row is that of a word, and each outcome is one of the equations above, answered by the port. -/
theorem paramCommandsResult : Obligations.ParamCommandsResult := by
  refine ⟨fun c s h => ⟨fun undefined => ?getUndefined, fun v row => ?get⟩,
    fun c v s h => ⟨fun undefined => ?setUndefined, fun writable good q row => ?set⟩⟩
  case getUndefined => exact exec_refused h (getParam_undefined (paramOf_undefined undefined))
  case setUndefined => exact exec_refused h (setParam_undefined (paramOf_undefined undefined))
  case get =>
    have row : (c, v) ∈ paramWords.map (fun p => (paramCode p, s.params.get p)) := row
    obtain ⟨p, _, same⟩ := List.mem_map.1 row
    obtain ⟨rfl, rfl⟩ := Prod.mk.inj same
    refine (exec_request h).trans ?_
    rw [runRequest, getParam_named, respond_eq]
  case set =>
    have row : (c, writable, good, q) ∈ paramWords.map (paramRow s v) := row
    obtain ⟨p, _, same⟩ := List.mem_map.1 row
    simp only [paramRow, Prod.mk.injEq] at same
    obtain ⟨rfl, rfl, rfl, rfl⟩ := same
    exact ⟨fun closed => exec_refused h (setParam_unwritable closed),
      fun opened bad => exec_refused h (setParam_unaccepted opened bad),
      fun opened good => exec_accepted h (setParam_accepted opened good)⟩

end Sys2Proof.Proofs.MaintenancePort
end

section
/-! PROOF. The family 12_formats: a frame received intact is the row of its type with its own fields (O13). A good CRC-32
leaves the body to be read, the type byte selects the reader of the type's fields, and that reader puts the bytes of each
field together again. -/

namespace Sys2Proof.Proofs.Formats

open Sys2Proof Sys2Proof.Machine
open Sys2Proof.Proofs.Scope (receive_append crc32Bytes_length)

/-! ### The fields behind the epoch, type by type (R210)

Each reader is given any value of its fields, those that this bridge never sends included. -/

theorem receiveData_fields (epoch : Byte) (seq : Seq) (kind window : BitVec 4) (line : BitVec 24) (mask : Mask)
    (bytes : LineData) :
    receiveData epoch (bytes16 seq ++ [kind ++ window] ++ bytes24 line ++ maskBytes mask ++ bytes.toList)
      = .dataReceived epoch seq kind window line mask bytes := by
  obtain ⟨kindBack, windowBack⟩ := nibbles kind window
  have length : bytes.toList.length = 64 := bytes.length_toList
  calc receiveData epoch (bytes16 seq ++ [kind ++ window] ++ bytes24 line ++ maskBytes mask ++ bytes.toList)
    _ = .dataReceived epoch (word16 (seq.extractLsb' 8 8) (seq.extractLsb' 0 8)) ((kind ++ window).extractLsb' 4 4)
          ((kind ++ window).extractLsb' 0 4)
          (word24 (line.extractLsb' 16 8) (line.extractLsb' 8 8) (line.extractLsb' 0 8))
          (maskOfBytes (mask.extractLsb' 0 8) (mask.extractLsb' 8 8) (mask.extractLsb' 16 8) (mask.extractLsb' 24 8)
            (mask.extractLsb' 32 8) (mask.extractLsb' 40 8) (mask.extractLsb' 48 8) (mask.extractLsb' 56 8))
          bytes := dif_pos length
    _ = .dataReceived epoch seq kind window line mask bytes := by
      rw [word16_bytes, word24_bytes, maskOfBytes_maskBytes, kindBack, windowBack]

theorem receiveAck_fields (epoch : Byte) (through limit : Seq) (reason : Byte) (seq : Seq) :
    receiveAck epoch (bytes16 through ++ bytes16 limit ++ [reason] ++ bytes16 seq)
      = .ackReceived epoch through limit reason seq := by
  simp [receiveAck, bytes16, word16_bytes]

theorem receiveNak_fields (epoch : Byte) (expected : Seq) :
    receiveNak epoch (bytes16 expected) = .nakReceived epoch expected := by
  simp [receiveNak, bytes16, word16_bytes]

theorem receiveHello_fields (proposal nodeId : Byte) (limit : Seq) :
    receiveHello proposal (nodeId :: bytes16 limit) = .helloReceived proposal nodeId limit := by
  simp [receiveHello, bytes16, word16_bytes]

/-! ### The whole frame (R210, R211) -/

/-- The type byte selects the reader of the frame's fields. -/
theorem receiveBody_body (f : Frame) : receiveBody f.body = f.received := by
  cases f with
  | data epoch seq kind window line mask bytes => exact receiveData_fields epoch seq kind.code _ _ mask bytes
  | ack epoch through limit reject => exact receiveAck_fields epoch through limit _ _
  | nak epoch expected => exact receiveNak_fields epoch expected
  | hello proposal nodeId limit => exact receiveHello_fields proposal _ limit
  | helloAck agreed nodeId => rfl
  | goodbye epoch reason => rfl

theorem body_ne_nil (f : Frame) : f.body ≠ [] := by
  cases f <;> exact List.cons_ne_nil _ _

/-- A frame that arrives with the CRC-32 it was sent with is read from its body. -/
theorem receive_bytes (f : Frame) : receive f.bytes = receiveBody f.body := by
  rw [Frame.bytes, receive_append (body_ne_nil f) (crc32Bytes_length f.body), if_pos rfl]

/-- Settles O13: a frame received intact is read from its body, and its body is read as its row. -/
theorem framesReceivedAsSent : Obligations.FramesReceivedAsSent :=
  fun f => (receive_bytes f).trans (receiveBody_body f)

end Sys2Proof.Proofs.Formats
end
